-- ==== Sys2Proof/Word.lean ====
section
/-!
DEFINITION. The word types of the Burah architecture and their plainest arithmetic (00 R4, 07 R135).
-/

namespace Sys2Proof

/-- One byte of storage. -/
abbrev Byte := BitVec 8

/-- A 64-bit general register or control register value (07 R135). -/
abbrev Word := BitVec 64

/-- One 512-byte vector register (09 R180). -/
abbrev VReg := BitVec 4096

/-- One 1,024-bit predicate register (09 R182). -/
abbrev PReg := BitVec 1024

/-- One z register: 16 lanes of 32 bits (10 R229). -/
abbrev ZReg := BitVec 512

/-- A tensor map descriptor, 128 bytes (10 R207). -/
abbrev Desc := BitVec 1024

/-- Bits [hi:lo] of a natural number read as an `n`-bit field at `lo`. -/
def fld (w lo n : Nat) : Nat := w / 2 ^ lo % 2 ^ n

/-- Bit `k` of a natural number. -/
def bitOf (w k : Nat) : Bool := w / 2 ^ k % 2 == 1

/-- 1 for true, 0 for false. -/
def b2n (b : Bool) : Nat := if b then 1 else 0

/-- The two's complement value of an `n`-bit field. -/
def toSigned (n x : Nat) : Int := if 2 * (x % 2 ^ n) < 2 ^ n then (x % 2 ^ n : Nat) else (x % 2 ^ n : Nat) - (2 ^ n : Nat)

/-- A 64-bit word from an integer, modulo 2^64. -/
def wordOfInt (i : Int) : Word := BitVec.ofInt 64 i

end Sys2Proof
end

