-- ==== Sys2Proof/Config.lean ====
section
/-!
DEFINITION. What a unit or the specification's open values fix: free values (00 R2), fuses (19 R368), external
standards named but not given by the specification (19 R370, R371), and the size figures of 01 R9.
-/

namespace Sys2Proof.Config

/-- An undefined general-register value (00 R2, 03 R42), one for each count of `State.fresh`; DESIGN CHOICE, assumption log 3. -/
opaque freeWord : Nat → Word
/-- An undefined vector register (03 R42); DESIGN CHOICE, assumption log 3. -/
opaque freeVec : Nat → VReg
/-- An undefined predicate register (03 R42); DESIGN CHOICE, assumption log 3. -/
opaque freePred : Nat → PReg
/-- An undefined z register (03 R42); DESIGN CHOICE, assumption log 3. -/
opaque freeZ : Nat → ZReg
/-- A byte that the specification leaves without a value; DESIGN CHOICE, assumption log 3. -/
opaque freeByte : Nat → Byte
/-- TVAL of an UNCORRECTABLE trap, which the specification does not state (18 R328), by the model's step; DESIGN CHOICE, assumption log 3. -/
opaque openTval : Nat → Word
/-- The cause in DETAIL of a health record, by its KIND and OBJECT (20 Table 20-4 does not state it); DESIGN CHOICE, assumption log 3. -/
opaque recordCause : Nat → Nat → Nat
/-- A clamp of an integer sum to a bound of +∞ or −∞ on its wrong side, which no integer is (12 R267); DESIGN CHOICE, assumption log 3. -/
opaque clampBeyond : Int → Int
/-- The UIDs that are fused, no two alike (19 R368). -/
opaque uidOf : Equiv.Perm (BitVec 64)
/-- The 64-bit UID fused into each die, unique to it (19 R368). -/
def uid (d : Fin 8) : BitVec 64 := uidOf (BitVec.ofNat 64 d.val)
/-- An order of each die's 18 sites, whose last two are its fused spares (01 R9, R12). -/
opaque siteOrder : Fin 8 → Equiv.Perm (Fin 18)
/-- Whether a site of a die is one of its two fused spares (01 R9, R14). -/
def isSpare (d : Fin 8) (site : Fin 18) : Bool := site == siteOrder d 16 || site == siteOrder d 17
/-- The 18-bit spare-site map fused into each die (01 R12, 19 R368). -/
def spareSites (d : Fin 8) : BitVec 18 := BitVec.ofNat 18 (2 ^ (siteOrder d 16).val + 2 ^ (siteOrder d 17).val)
/-- The site of a logical cluster: the enabled sites in ascending order (01 R12); seen in no address or identity (R13). -/
def siteOf (d : Fin 8) (cluster : Fin 16) : Option (Fin 18) := ((List.finRange 18).filter (fun k => !isSpare d k))[cluster.val]?
/-- The 96-byte identity seed fused into each die (19 R368). -/
opaque identitySeed : Fin 8 → BitVec 768
/-- The calibration data fused into each die (19 R368). -/
opaque calibration : Fin 8 → List Byte
/-- The security version counter fused into each die (19 R368). -/
opaque secVersion : Fin 8 → BitVec 32
/-- The fused digest of the firmware public key (19 R368). -/
opaque keyDigest : Fin 8 → BitVec 256
/-- SHAKE256 to 256 bits: an external standard the specification names (19 R370); DESIGN CHOICE, assumption log 14. -/
opaque shake256 : List Byte → BitVec 256
/-- SHAKE256 to 64 bytes, of a die's running digest with the next stage (19 R371); DESIGN CHOICE, assumption log 14. -/
opaque digest64 : List Byte → BitVec 512
/-- The bytes of the die's ROM, of which a die's first measurement is taken (19 R371). -/
opaque romImage : List Byte
/-- Whether an SLH-DSA-SHAKE-256s signature (FIPS 205) verifies: key, signature, message (19 R370); DESIGN CHOICE, assumption log 14. -/
opaque slhVerifies : List Byte → List Byte → List Byte → Bool
/-- The CRC-64 of a UCIe flit, whose polynomial is not given (19 Table 19-2); DESIGN CHOICE, assumption log 3. -/
opaque crc64 : List Byte → BitVec 64
/-- A byte of the control slot of a UCIe flit, whose layout is not given: by the end-to-end acknowledgements that it may carry, and the
credits (19 Table 19-2); DESIGN CHOICE, assumption log 3. -/
opaque controlSlot : List (Nat × Nat × BitVec 16) → Nat → Byte
/-- The public key of the SLH-DSA-SHAKE-256s pair derived from an identity seed (19 R371); DESIGN CHOICE, assumption log 14. -/
opaque slhPublic : BitVec 768 → List Byte
/-- The signature of a message under the private key of that pair (19 R371); DESIGN CHOICE, assumption log 14. -/
opaque slhSign : BitVec 768 → List Byte → List Byte
/-- The number of the panel resident at a core of another package, by the package and the core (17 R308); DESIGN CHOICE, assumption log 3. -/
opaque panelAbroad : Nat → Nat → Nat
/-- The power in milliwatts and the temperature in degrees of each die at a CYCLE, as the sideband's telemetry gives them (19 R378);
DESIGN CHOICE, assumption log 3. -/
opaque telemetry : Fin 8 → Nat → Nat × Int

end Sys2Proof.Config
end

