-- ==== Sys2Proof/Machine/Numbers.lean ====
section
/-!
DEFINITION. Number formats, exact values, rounding, arithmetic on special values and the reduction tree
(06_numbers.md R110 to R134, 00 R8). Every value is exact until the one rounding that the specification gives it.
-/

namespace Sys2Proof

/-- Rounding modes (06 Table 06-7). -/
inductive Rm where
  | rne | rtz | rdn | rup
  deriving DecidableEq, Repr

/-- The mode of a 2-bit RM or RND field. -/
def Rm.ofBits (n : Nat) : Rm :=
  match n % 4 with
  | 0 => .rne
  | 1 => .rtz
  | 2 => .rdn
  | _ => .rup

/-- A number format (06 Table 06-1): binary8 of precision `p`, IEEE-style, or integer. -/
inductive Fmt where
  | b8 (p : Nat) (signed inf : Bool)
  | ieee (ebits fbits : Nat)
  | int (bits : Nat) (signed : Bool)
  deriving DecidableEq, Repr

/-- FP32 (06 Table 06-4). -/
def fp32 : Fmt := .ieee 8 23
/-- BF16 (06 Table 06-4). -/
def bf16 : Fmt := .ieee 8 7
/-- FP16 (06 Table 06-4). -/
def fp16 : Fmt := .ieee 5 10

/-- The format of a code (06 Table 06-1); none for 0x24 to 0x3F. -/
def Fmt.ofCode (c : Nat) : Option Fmt :=
  if c ≤ 0x06 then some (.b8 (c + 1) true true)
  else if c ≤ 0x0D then some (.b8 (c - 6) true false)
  else if c ≤ 0x14 then some (.b8 (c - 13) false true)
  else if c ≤ 0x1B then some (.b8 (c - 20) false false)
  else match c with
    | 0x1C => some bf16
    | 0x1D => some fp16
    | 0x1E => some (.int 8 true)
    | 0x1F => some (.int 4 true)
    | 0x20 => some fp32
    | 0x21 => some (.int 32 true)
    | 0x22 => some (.int 16 true)
    | 0x23 => some (.int 8 false)
    | _ => none

/-- The format of a vector element type under F8SEL.CODE (06 Table 06-5); none for ET 12 to 15 or an F8SEL of 0x1C up (R117). -/
def Fmt.ofET (et f8 : Nat) : Option Fmt :=
  match et with
  | 0 => some (.int 8 true)
  | 1 => some (.int 8 false)
  | 2 => some (.int 16 true)
  | 3 => some (.int 16 false)
  | 4 => some (.int 32 true)
  | 5 => some (.int 32 false)
  | 6 => some bf16
  | 7 => some fp16
  | 8 => some fp32
  | 9 => some (.int 4 true)
  | 10 => some (.int 4 false)
  | 11 => if f8 ≤ 0x1B then Fmt.ofCode f8 else none
  | _ => none

/-- The width in bits of a format's code. -/
def Fmt.bits : Fmt → Nat
  | .b8 .. => 8
  | .ieee e f => 1 + e + f
  | .int b _ => b

/-- True of an integer format. -/
def Fmt.isInt : Fmt → Bool
  | .int .. => true
  | _ => false

/-- True of a format with no negative values. -/
def Fmt.unsigned : Fmt → Bool
  | .b8 _ s _ => !s
  | .ieee .. => false
  | .int _ s => !s

/-- True of a format that encodes −0 (06 R112, R114). -/
def Fmt.hasNegZero : Fmt → Bool
  | .ieee .. => true
  | _ => false

/-- True of a format with infinities (06 R112). -/
def Fmt.hasInf : Fmt → Bool
  | .b8 _ _ i => i
  | .ieee .. => true
  | .int .. => false

/-- Precision, hidden bit included. -/
def Fmt.prec : Fmt → Nat
  | .b8 p .. => p
  | .ieee _ f => f + 1
  | .int .. => 1

/-- The least exponent, 1 − bias (06 R111, R119). -/
def Fmt.emin : Fmt → Int
  | .b8 p s _ => 1 - (2 ^ ((if s then 8 - p else 9 - p) - 1) : Nat)
  | .ieee e _ => 1 - ((2 ^ (e - 1) : Nat) - 1)
  | .int .. => 0

/-- The magnitude code of the largest finite value (06 Table 06-2, 06-3, 06-4). -/
def Fmt.maxCode : Fmt → Nat
  | .b8 _ true true => 0x7E
  | .b8 _ true false => 0x7F
  | .b8 _ false true => 0xFD
  | .b8 _ false false => 0xFE
  | .ieee e f => (2 ^ e - 1) * 2 ^ f - 1
  | .int .. => 0

/-- The canonical NaN (06 R112, R114); 0 for an integer format (R32). -/
def Fmt.nanCode : Fmt → Nat
  | .b8 _ s _ => if s then 0x80 else 0xFF
  | .ieee e f => (2 ^ e - 1) * 2 ^ f + 2 ^ (f - 1)
  | .int .. => 0

/-- The code of a magnitude code with its sign; binary8 has no −0 (06 R112, R113). -/
def Fmt.signed (f : Fmt) (neg : Bool) (mag : Nat) : Nat :=
  match f with
  | .b8 _ true _ => if neg && mag != 0 then mag + 0x80 else mag
  | .b8 _ false _ => mag
  | .ieee e fb => if neg then mag + 2 ^ (e + fb) else mag
  | .int .. => mag

/-- The infinity code of a format that has one. -/
def Fmt.infCode (f : Fmt) (neg : Bool) : Nat := f.signed neg (f.maxCode + 1)

/-- The least and greatest values of an integer format (06 R115). -/
def Fmt.intMin : Fmt → Int
  | .int b true => -(2 ^ (b - 1) : Nat)
  | _ => 0
@[inherit_doc Fmt.intMin]
def Fmt.intMax : Fmt → Int
  | .int b true => (2 ^ (b - 1) : Nat) - 1
  | .int b false => (2 ^ b : Nat) - 1
  | _ => 0

/-- A non-negative exact real: (n / d) × 2^e, and a little more when `st` (a value known to lie strictly above). -/
structure Ex where
  n : Nat
  d : Nat := 1
  e : Int := 0
  st : Bool := false
  deriving DecidableEq, Repr

/-- An exact value of 06 R110: NaN, an infinity, or a signed real (zero keeps its sign). -/
inductive Val where
  | nan (sig : Bool)
  | inf (neg : Bool)
  | fin (neg : Bool) (x : Ex)
  deriving DecidableEq, Repr

/-- A signed zero. -/
def Val.zero (neg : Bool) : Val := .fin neg { n := 0 }

/-- An integer as an exact value. -/
def Val.ofInt (i : Int) : Val := .fin (i < 0) { n := i.natAbs }

/-- Helper `Decode(c, f)` (06 R110 to R114). -/
def decodeVal (f : Fmt) (c : Nat) : Val :=
  match f with
  | .b8 p s infv =>
    let neg := s && c ≥ 0x80
    let body := if s then c % 0x80 else c % 0x100
    if c % 0x100 = (if s then 0x80 else 0xFF) then .nan false
    else if infv && body == (if s then 0x7F else 0xFE) then .inf neg
    else
      let t := p - 1
      let ex := body / 2 ^ t
      let tr := body % 2 ^ t
      if ex = 0 then .fin neg { n := tr, e := f.emin - t }
      else .fin neg { n := 2 ^ t + tr, e := f.emin - 1 + ex - t }
  | .ieee eb fb =>
    let neg := c / 2 ^ (eb + fb) % 2 == 1
    let ex := c / 2 ^ fb % 2 ^ eb
    let tr := c % 2 ^ fb
    if ex = 2 ^ eb - 1 then
      if tr = 0 then .inf neg else .nan (tr / 2 ^ (fb - 1) == 0)
    else if ex = 0 then .fin neg { n := tr, e := f.emin - fb }
    else .fin neg { n := 2 ^ fb + tr, e := f.emin - 1 + ex - fb }
  | .int b s => .ofInt (if s then toSigned b c else (c % 2 ^ b : Nat))

/-- The sticky flags as a 6-bit field in the positions of 06 Table 06-10. -/
abbrev Fl := BitVec 6
/-- Inexact. -/
def flNX : Fl := 0x01
/-- Tiny and inexact. -/
def flUF : Fl := 0x02
/-- Overflow, or integer saturation. -/
def flOF : Fl := 0x04
/-- Division by zero. -/
def flDZ : Fl := 0x08
/-- Invalid operation. -/
def flNV : Fl := 0x10
/-- A bound check failed. -/
def flBND : Fl := 0x20

/-- floor(log2 (n / d)) for positive n and d. -/
def ratLog2 (n d : Nat) : Int :=
  let a := Nat.log2 n
  let b := Nat.log2 d
  let l : Int := (a : Int) - b
  let lo := if a ≥ b then decide (n < d * 2 ^ (a - b)) else decide (n * 2 ^ (b - a) < d)
  if lo then l - 1 else l

/-- The lower candidate at unit 2^q: floor(x / 2^q), the remainder and the divisor it is a remainder of (06 R119). -/
def atUnit (x : Ex) (q : Int) : Nat × Nat × Nat :=
  let sh := x.e - q
  let num := if sh ≥ 0 then x.n * 2 ^ sh.toNat else x.n
  let den := if sh ≥ 0 then x.d else x.d * 2 ^ (-sh).toNat
  (num / den, num % den, den)

/-- Whether the upper candidate is taken (06 R119): `odd` is the parity of the lower candidate's code integer. -/
def roundsUp (rm : Rm) (neg odd st : Bool) (r den : Nat) : Bool :=
  match rm with
  | .rne => decide (2 * r > den) || (decide (2 * r = den) && (st || odd))
  | .rtz => false
  | .rdn => neg && (decide (r ≠ 0) || st)
  | .rup => !neg && (decide (r ≠ 0) || st)

/-- Rounding of a positive real to precision `p` and least exponent `emin` (06 R119): the magnitude code, inexact, tiny. -/
def roundMag (p : Nat) (emin : Int) (rm : Rm) (neg : Bool) (x : Ex) : Nat × Bool × Bool :=
  let l := ratLog2 x.n x.d + x.e
  let q := max l emin - (p - 1 : Nat)
  let (k, r, den) := atUnit x q
  let base := (q + (p - 1 : Nat) - emin).toNat * 2 ^ (p - 1) + k
  let code := base + b2n (roundsUp rm neg (base % 2 == 1) x.st r den)
  let inexact := decide (r ≠ 0) || x.st
  let tiny :=
    if l ≥ emin then false
    else
      let q' := l - (p - 1 : Nat)
      let (k', r', den') := atUnit x q'
      let odd := if p = 1 then (l - emin + 1) % 2 == 1 else k' % 2 == 1
      let up := roundsUp rm neg odd x.st r' den'
      !(up && decide (l = emin - 1) && decide (k' + 1 = 2 ^ p))
  (code, inexact, tiny)

/-- Rounding of a non-negative real to an integer (06 R119 with q = 0): the magnitude and whether it is inexact. -/
def roundInt (rm : Rm) (neg : Bool) (x : Ex) : Nat × Bool :=
  let (k, r, den) := atUnit x 0
  (k + b2n (roundsUp rm neg (k % 2 == 1) x.st r den), decide (r ≠ 0) || x.st)

/-- The two's complement code of an integer in a `b`-bit field. -/
def intCode (b : Nat) (i : Int) : Nat := (i % (2 ^ b : Nat)).toNat

/-- The nearer limit of an integer format, and whether the integer was out of range (06 R115). -/
def clampInt (f : Fmt) (i : Int) : Int × Bool :=
  if i < f.intMin then (f.intMin, true) else if i > f.intMax then (f.intMax, true) else (i, false)

/-- RoundToInt (06 R121): the code and the flags. -/
def roundToInt (v : Val) (f : Fmt) (rm : Rm) : Nat × Fl :=
  match v with
  | .nan _ => (0, flNV)
  | .inf neg => (intCode f.bits (if neg then f.intMin else f.intMax), flNV)
  | .fin neg x =>
    let (k, inexact) := roundInt rm neg x
    let (i, out) := clampInt f (if neg then -(k : Int) else k)
    (intCode f.bits i, if out then flNV else if inexact then flNX else 0)

/-- RoundTo (06 R120): the code and the flags. -/
def roundTo (v : Val) (f : Fmt) (rm : Rm) (sat : Bool) : Nat × Fl :=
  if f.isInt then roundToInt v f rm
  else
    match v with
    | .nan sig => (f.nanCode, if sig then flNV else 0)
    | .inf neg =>
      if f.unsigned && neg then (if sat then 0 else f.nanCode, flNV)
      else if f.hasInf then (f.infCode neg, 0)
      else (if sat then f.signed neg f.maxCode else f.nanCode, flNV)
    | .fin neg x =>
      if x.n = 0 && !x.st then (if neg && f.hasNegZero then f.signed true 0 else 0, 0)
      else if f.unsigned && neg then (if sat then 0 else f.nanCode, flNV)
      else
        let (code, inexact, tiny) := roundMag f.prec f.emin rm neg x
        if code > f.maxCode then
          (if sat then f.signed neg f.maxCode else if f.hasInf then f.infCode neg else f.nanCode, flOF ||| flNX)
        else
          (f.signed neg code, (if inexact then flNX else 0) ||| (if inexact && tiny then flUF else 0))

/-- The integer value of an integer code. -/
def intOf (f : Fmt) (c : Nat) : Int := if f.unsigned then (c % 2 ^ f.bits : Nat) else toSigned f.bits c

/-- Conversion between formats (06 R121, R122, 09 R194): integer to integer saturates with OF, all else is one RoundTo. -/
def convert (src dst : Fmt) (c : Nat) (rm : Rm) (sat : Bool) : Nat × Fl :=
  if src.isInt && dst.isInt then
    let (i, out) := clampInt dst (intOf src c)
    (intCode dst.bits i, if out then flOF else 0)
  else roundTo (decodeVal src c) dst rm sat

/-! Exact arithmetic on values (06 R123, Table 06-9). Each returns the exact result and the flags its special cases raise. -/

/-- A signed dyadic (denominator 1) as an integer multiple of 2^e. -/
def Ex.scaled (x : Ex) (e : Int) : Nat := x.n * 2 ^ (x.e - e).toNat

/-- True when a value is a signalling NaN. -/
def Val.sig : Val → Bool
  | .nan s => s
  | _ => false

/-- True of a NaN. -/
def Val.isNan : Val → Bool
  | .nan _ => true
  | _ => false

/-- True of a negative sign (NaN counts as positive). -/
def Val.neg : Val → Bool
  | .nan _ => false
  | .inf s => s
  | .fin s _ => s

/-- True of ±0. -/
def Val.isZero : Val → Bool
  | .fin _ x => x.n == 0 && !x.st
  | _ => false

/-- The flags a NaN operand raises: NV only if signalling (06 R114). -/
def nanFl (a b : Val) : Fl := if a.sig || b.sig then flNV else 0

/-- A sum of signed dyadics; an exact zero of mixed signs is +0, −0 under RDN. -/
def exAdd (rm : Rm) (sa : Bool) (x : Ex) (sb : Bool) (y : Ex) : Val :=
  let e := min x.e y.e
  let a : Int := if sa then -(x.scaled e : Int) else x.scaled e
  let b : Int := if sb then -(y.scaled e : Int) else y.scaled e
  let t := a + b
  if t = 0 then
    if sa == sb then .zero sa else .zero (rm == .rdn)
  else .fin (t < 0) { n := t.natAbs, e := e }

/-- x + y. -/
def Val.add (rm : Rm) (a b : Val) : Val × Fl :=
  match a, b with
  | .fin sa x, .fin sb y => (exAdd rm sa x sb y, 0)
  | .inf sa, .inf sb => if sa == sb then (.inf sa, 0) else (.nan false, flNV)
  | .nan _, _ => (.nan false, nanFl a b)
  | _, .nan _ => (.nan false, nanFl a b)
  | .inf sa, _ => (.inf sa, 0)
  | _, .inf sb => (.inf sb, 0)

/-- −x; a NaN stays a NaN. -/
def Val.negate : Val → Val
  | .nan s => .nan s
  | .inf s => .inf !s
  | .fin s x => .fin (!s) x

/-- |x|. -/
def Val.abs : Val → Val
  | .nan s => .nan s
  | .inf _ => .inf false
  | .fin _ x => .fin false x

/-- x − y. -/
def Val.sub (rm : Rm) (a b : Val) : Val × Fl := Val.add rm a b.negate

/-- x × y. -/
def Val.mul (a b : Val) : Val × Fl :=
  match a, b with
  | .fin sa x, .fin sb y => (.fin (sa != sb) { n := x.n * y.n, e := x.e + y.e }, 0)
  | .nan _, _ => (.nan false, nanFl a b)
  | _, .nan _ => (.nan false, nanFl a b)
  | a, b => if a.isZero || b.isZero then (.nan false, flNV) else (.inf (a.neg != b.neg), 0)

/-- a × b + c with one rounding to come; ±0 × ±∞ is NV whatever the addend. -/
def Val.fma (rm : Rm) (a b c : Val) : Val × Fl :=
  let (p, f1) := Val.mul a b
  if p.isNan then (.nan false, f1 ||| nanFl c c)
  else
    let (s, f2) := Val.add rm p c
    (s, f1 ||| f2)

/-- x / y. -/
def Val.div (a b : Val) : Val × Fl :=
  match a, b with
  | .nan _, _ => (.nan false, nanFl a b)
  | _, .nan _ => (.nan false, nanFl a b)
  | .inf _, .inf _ => (.nan false, flNV)
  | .inf sa, b => (.inf (sa != b.neg), 0)
  | a, .inf sb => (.zero (a.neg != sb), 0)
  | .fin sa x, .fin sb y =>
    if y.n = 0 then
      if x.n = 0 then (.nan false, flNV) else (.inf (sa != sb), flDZ)
    else (.fin (sa != sb) { n := x.n, d := y.n, e := x.e - y.e }, 0)

/-- 1 / x. -/
def Val.rcp (a : Val) : Val × Fl := Val.div (.ofInt 1) a

/-- Bit-by-bit integer square root: the largest r below 2^k with r² ≤ n. -/
def isqrt (n : Nat) : Nat → Nat → Nat
  | 0, r => r
  | k + 1, r => isqrt n k (if (r + 2 ^ k) * (r + 2 ^ k) ≤ n then r + 2 ^ k else r)

/-- sqrt(x), exact with a sticky bit when irrational. -/
def Val.sqrt (a : Val) : Val × Fl :=
  match a with
  | .nan s => (.nan false, if s then flNV else 0)
  | .inf true => (.nan false, flNV)
  | .inf false => (.inf false, 0)
  | .fin s x =>
    if x.n = 0 then (.zero s, 0)
    else if s then (.nan false, flNV)
    else
      let m := if x.e % 2 = 0 then x.n else 2 * x.n
      let e := if x.e % 2 = 0 then x.e else x.e - 1
      let big := m * 2 ^ 128
      let r := isqrt big (Nat.log2 big / 2 + 1) 0
      (.fin false { n := r, e := e / 2 - 64, st := r * r != big }, 0)

/-- 1 / sqrt(x) (06 Table 06-9). -/
def Val.rsqrt (a : Val) : Val × Fl :=
  match a with
  | .nan s => (.nan false, if s then flNV else 0)
  | .inf true => (.nan false, flNV)
  | .inf false => (.zero false, 0)
  | .fin s x =>
    if x.n = 0 then (.inf s, flDZ)
    else if s then (.nan false, flNV)
    else
      let m := if x.e % 2 = 0 then x.n else 2 * x.n
      let e := if x.e % 2 = 0 then x.e else x.e - 1
      let k := 2 * (Nat.log2 m + 80)
      let r := isqrt (2 ^ k / m) (k / 2 + 1) 0
      (.fin false { n := r, e := -(e / 2) - (k / 2 : Nat), st := r * r * m != 2 ^ k }, 0)

/-- Fixed-point bits carried by the two transcendental functions; DEDUCED, assumption log 9. -/
def fxBits : Nat := 240

/-- Σ z^(2i+1) / (2i+1) in fixed point, `fuel` terms: atanh z. -/
def fxAtanh (z2 : Nat) : Nat → Nat → Nat → Nat → Nat
  | 0, _, _, acc => acc
  | k + 1, pw, i, acc => fxAtanh z2 k (pw * z2 / 2 ^ fxBits) (i + 2) (acc + pw / i)

/-- ln 2 in fixed point. -/
def fxLn2 : Nat := 2 * fxAtanh (2 ^ fxBits / 9) 110 (2 ^ fxBits / 3) 1 0

/-- Σ y^i / i! in fixed point, `fuel` terms: e^y. -/
def fxExp (y : Nat) : Nat → Nat → Nat → Nat → Nat
  | 0, _, _, acc => acc
  | k + 1, t, i, acc => fxExp y k (t * y / 2 ^ fxBits / i) (i + 1) (acc + t)

/-- 2^x (06 Table 06-9): exact for an integer, else fixed point with a sticky bit. -/
def Val.exp2 (a : Val) : Val × Fl :=
  match a with
  | .nan s => (.nan false, if s then flNV else 0)
  | .inf neg => (if neg then .zero false else .inf false, 0)
  | .fin neg x =>
    if x.n = 0 then (.ofInt 1, 0)
    else if ratLog2 x.n 1 + x.e ≥ 13 then (.fin false { n := 1, e := if neg then -8192 else 8192, st := true }, 0)
    else if x.e ≥ 0 then
      let i : Int := x.n * 2 ^ x.e.toNat
      (.fin false { n := 1, e := if neg then -i else i }, 0)
    else
      let k := (-x.e).toNat
      let i : Int := if neg then -(x.n : Int) else x.n
      let fl := i / (2 ^ k : Nat)
      let fr := (i % (2 ^ k : Nat)).toNat
      if fr = 0 then (.fin false { n := 1, e := fl }, 0)
      else
        let y := fr * 2 ^ fxBits / 2 ^ k * fxLn2 / 2 ^ fxBits
        (.fin false { n := fxExp y 90 (2 ^ fxBits) 1 0, e := fl - fxBits, st := true }, 0)

/-- log2(x) (06 Table 06-9): exact for a power of two, else fixed point with a sticky bit. -/
def Val.log2 (a : Val) : Val × Fl :=
  match a with
  | .nan s => (.nan false, if s then flNV else 0)
  | .inf neg => if neg then (.nan false, flNV) else (.inf false, 0)
  | .fin neg x =>
    if x.n = 0 then (.inf true, flDZ)
    else if neg then (.nan false, flNV)
    else
      let l := Nat.log2 x.n
      if x.n = 2 ^ l then
        let i : Int := l + x.e
        (if i = 0 then .zero false else .ofInt i, 0)
      else
        let z := (x.n - 2 ^ l) * 2 ^ fxBits / (x.n + 2 ^ l)
        let s := 2 * fxAtanh (z * z / 2 ^ fxBits) 110 z 1 0
        let v : Int := (l + x.e) * (2 ^ fxBits : Nat) + (s * 2 ^ fxBits / fxLn2 : Nat)
        (.fin (v < 0) { n := if v < 0 then v.natAbs - 2048 else v.natAbs, e := -(fxBits : Int), st := true }, 0)

/-- x × 2^k, exact (06 R124). -/
def Val.scale (a : Val) (k : Int) : Val :=
  match a with
  | .fin s x => .fin s { x with e := x.e + k }
  | v => v

/-- Order of non-NaN dyadic values by magnitude and sign, −0 = +0: −1, 0 or 1. -/
def Val.cmp (a b : Val) : Int :=
  match a, b with
  | .fin sa x, .fin sb y =>
    let e := min x.e y.e
    let p : Int := if sa then -(x.scaled e : Int) else x.scaled e
    let q : Int := if sb then -(y.scaled e : Int) else y.scaled e
    if p < q then -1 else if p = q then 0 else 1
  | .inf sa, .inf sb => if sa == sb then 0 else if sa then -1 else 1
  | .inf sa, _ => if sa then -1 else 1
  | _, .inf sb => if sb then 1 else -1
  | _, _ => 0

/-- a < b with −0 < +0 (09 Table 09-3, F 4 and 5). -/
def Val.ltTotal (a b : Val) : Bool :=
  let c := Val.cmp a b
  c < 0 || (c == 0 && a.neg && !b.neg)

/-- The code of the smaller or larger of two codes of one floating format, and the flags (09 R187). -/
def minMaxCode (f : Fmt) (wantMax : Bool) (ca cb : Nat) : Nat × Fl :=
  if f.isInt then
    let a := intOf f ca
    let b := intOf f cb
    (if wantMax then (if a < b then cb else ca) else (if b < a then cb else ca), 0)
  else
    let a := decodeVal f ca
    let b := decodeVal f cb
    if a.isNan || b.isNan then (f.nanCode, nanFl a b)
    else (if wantMax then (if a.ltTotal b then cb else ca) else (if b.ltTotal a then cb else ca), 0)

/-- One level of the tree of 00 R8 over present and absent nodes. -/
def pairLevel {α : Type} (f : α → α → α × Fl) : List (Option α) → List (Option α) × Fl
  | a :: b :: rest =>
    let (xs, fl) := pairLevel f rest
    match a, b with
    | some x, some y =>
      let (z, g) := f x y
      (some z :: xs, g ||| fl)
    | some x, none => (some x :: xs, fl)
    | none, y => (y :: xs, fl)
  | xs => (xs, 0)

/-- Pairwise (00 R8): the node at the top after `fuel` levels, with the flags of every node. -/
def pairwise {α : Type} (f : α → α → α × Fl) : Nat → List (Option α) → Option α × Fl
  | _, [] => (none, 0)
  | _, [x] => (x, 0)
  | 0, x :: _ => (x, 0)
  | k + 1, xs =>
    let (ys, fl) := pairLevel f xs
    let (r, g) := pairwise f k ys
    (r, fl ||| g)

/-- The sum of two codes of one format, rounded once (06 R132, R133); integers wrap (R134). -/
def addCodes (f : Fmt) (rm : Rm) (a b : Nat) : Nat × Fl :=
  if f.isInt then ((a + b) % 2 ^ f.bits, 0)
  else
    let (v, g) := Val.add rm (decodeVal f a) (decodeVal f b)
    let (c, h) := roundTo v f rm false
    (c, g ||| h)

end Sys2Proof
end

