-- ==== Sys2Proof/Syntax.lean ====
section
/-!
DEFINITION. The instructions and events of the Burah architecture: one constructor for each row of
spec/opcode_table.json (199 32-bit rows, TLBINV's three forms apart, 20 compact forms, 110 events).
An event row has no encoding: it is a step of an agent other than an issuing context (95_what_each_step_holds).
-/

namespace Sys2Proof

/-- A global core id: die [12:10], logical cluster [9:6], core [5:0] (03 Table 03-3). -/
abbrev CoreId := Fin 8192
/-- A cluster of the package: die × 16 + logical cluster. -/
abbrev ClusterId := Fin 128
/-- A context slot of a core (03 R41). -/
abbrev Slot := Fin 8

/-- An engine instance (03 Table 03-9, 17 Table 17-7). -/
inductive Engine where
  | xfu (cl : ClusterId) | ske (die : Fin 8) | cle (die : Fin 8) | atelier | cme (die : Fin 8)
  | easel (die : Fin 8) (k : Fin 4) | walker (die : Fin 8) | cxl (port : Fin 8)
  deriving DecidableEq, Repr, Inhabited

/-- Which CTRL instruction writes a control register (07 Table 07-6). -/
inductive CtrlOp where
  | mtc | msetb | mclrb
  deriving DecidableEq, Repr

/-- One direction of a link that carries a suspicion score (20 R380). -/
inductive LinkId where
  | ucie (src dst : Fin 8) | threeD (die : Fin 8) (up : Bool) | fibre (port : Fin 16) (out : Bool)
  deriving DecidableEq, Repr

/-- An object with a suspicion score (20 R380). -/
inductive ScoreObj where
  | core (c : CoreId) | bank (c : CoreId) (b : Fin 8) | link (l : LinkId)
  deriving DecidableEq, Repr

/-- Where an uncorrectable error is found (20 Table 20-1, Table 20-3). -/
inductive UncObj where
  | unowned (c : CoreId)       -- inbox, receive store, completion queue, stop state, shadow storage
  | scrub (pa : Nat)           -- an HBM sector found by patrol scrub
  | bank (c : CoreId) (b : Fin 8) (off : Nat)   -- the sector of the core's region at an offset
  | matrix (c : CoreId)        -- the next .chk instruction of the core (10 R228)
  | retryEntry (l : LinkId) (lseq : BitVec 16)
  | sendStore (c : CoreId)
  deriving DecidableEq, Repr

/-- What carries an ageing monitor (20 R393). -/
inductive AgeObj where
  | cluster (cl : ClusterId) | link (l : LinkId) | stack (die : Fin 8)
  deriving DecidableEq, Repr

/-- The leaf of a slice on another package (12 R267): its operation F, N, whether a witness is named, MODE, the code of
its elements, the elements, and the bounds of its MB. -/
structure Leaf where
  op : Nat
  n : Nat
  wit : Bool
  mode : Nat
  code : Nat
  values : List Nat
  lo : Nat
  hi : Nat
  deriving DecidableEq, Repr

/-- A collective partial: one slice's leaf, computed under a view (12 R271). -/
structure Partial where
  slice : Nat
  view : Nat
  opseq : Nat
  leaf : Option Leaf := none
  deriving DecidableEq, Repr

/-- A proposal or commit of a view: number, member set, proposing member, first operation (20 R387, 12 R273). -/
structure Proposal where
  view : Nat
  members : List Nat
  proposer : Nat
  fromSeq : Nat
  deriving DecidableEq, Repr

/-- An Ultra Ethernet transport service asked for at connection set-up (19 R372); the reliable ordered one at one of the ports, one
per die (01 R10). -/
inductive Service where
  | reliableOrdered (port : Fin 8) | reliableUnordered | other
  deriving DecidableEq, Repr

/-- A fabric packet from or to another package (19 R366): its fabric header, the source agent and PSN of its flits, and what it
carries. -/
structure FabricPacket where
  dstPkg : Nat
  srcPkg : Nat
  src : Nat := 0
  psn : BitVec 16 := 0
  panel : Nat
  h0 : Word
  h1 : Word
  payload : List Byte
  deriving DecidableEq, Repr

/-- A host request: the 32-byte header of 19 R372 and its payload. The event's own row gives OP; `op` is that of a request whose
OP no row has. -/
structure Req where
  job : Nat
  op : Nat := 0x16
  status : Nat := 0
  reserved : Nat := 0
  tag : Nat
  panel : Nat
  len : Nat
  arg0 : Word
  arg1 : Word
  payload : List Byte
  deriving DecidableEq, Repr

/-- A routine of an image (04 Table 04-16, .routine). -/
structure RoutineRec where
  cls : Fin 64
  key : BitVec 10
  slotLo : Fin 8
  slotHi : Fin 8
  offset : Nat
  deriving DecidableEq, Repr

/-- A routine image (04 R95): .text and .data bytes at their offsets, regions to zero, routines. -/
structure RoutineImage where
  text : List Byte
  dataOff : Nat
  data : List Byte
  regions : List (Nat × Nat)
  routines : List RoutineRec
  deriving DecidableEq, Repr

/-- Every row of spec/opcode_table.json. Field names follow the chapter's operand letters. -/
inductive Instr where
  | add (w : Bool) (b : Fin 32) (a : Fin 32) (d : Fin 32) -- ADD, R137
  | sub (w : Bool) (b : Fin 32) (a : Fin 32) (d : Fin 32) -- SUB, R137
  | and (w : Bool) (b : Fin 32) (a : Fin 32) (d : Fin 32) -- AND, R137
  | or (w : Bool) (b : Fin 32) (a : Fin 32) (d : Fin 32) -- OR, R137
  | xor (w : Bool) (b : Fin 32) (a : Fin 32) (d : Fin 32) -- XOR, R137
  | andn (w : Bool) (b : Fin 32) (a : Fin 32) (d : Fin 32) -- ANDN, R137
  | sll (w : Bool) (b : Fin 32) (a : Fin 32) (d : Fin 32) -- SLL, R137
  | srl (w : Bool) (b : Fin 32) (a : Fin 32) (d : Fin 32) -- SRL, R137
  | sra (w : Bool) (b : Fin 32) (a : Fin 32) (d : Fin 32) -- SRA, R137
  | rol (w : Bool) (b : Fin 32) (a : Fin 32) (d : Fin 32) -- ROL, R137
  | mul (w : Bool) (b : Fin 32) (a : Fin 32) (d : Fin 32) -- MUL, R137
  | mulh (w : Bool) (b : Fin 32) (a : Fin 32) (d : Fin 32) -- MULH, R137
  | mulhu (w : Bool) (b : Fin 32) (a : Fin 32) (d : Fin 32) -- MULHU, R137
  | div (w : Bool) (b : Fin 32) (a : Fin 32) (d : Fin 32) -- DIV, R138
  | divu (w : Bool) (b : Fin 32) (a : Fin 32) (d : Fin 32) -- DIVU, R138
  | rem (w : Bool) (b : Fin 32) (a : Fin 32) (d : Fin 32) -- REM, R138
  | remu (w : Bool) (b : Fin 32) (a : Fin 32) (d : Fin 32) -- REMU, R138
  | min (w : Bool) (b : Fin 32) (a : Fin 32) (d : Fin 32) -- MIN, R137
  | max (w : Bool) (b : Fin 32) (a : Fin 32) (d : Fin 32) -- MAX, R137
  | minu (w : Bool) (b : Fin 32) (a : Fin 32) (d : Fin 32) -- MINU, R137
  | maxu (w : Bool) (b : Fin 32) (a : Fin 32) (d : Fin 32) -- MAXU, R137
  | slt (w : Bool) (b : Fin 32) (a : Fin 32) (d : Fin 32) -- SLT, R137
  | sltu (w : Bool) (b : Fin 32) (a : Fin 32) (d : Fin 32) -- SLTU, R137
  | clz (w : Bool) (a : Fin 32) (d : Fin 32) -- CLZ, R137
  | ctz (w : Bool) (a : Fin 32) (d : Fin 32) -- CTZ, R137
  | popc (w : Bool) (a : Fin 32) (d : Fin 32) -- POPC, R137
  | sext (sz : BitVec 2) (a : Fin 32) (d : Fin 32) -- SEXT, R137
  | zext (sz : BitVec 2) (a : Fin 32) (d : Fin 32) -- ZEXT, R137
  | addi (imm : BitVec 15) (a : Fin 32) (d : Fin 32) -- ADDI, R140
  | andi (imm : BitVec 15) (a : Fin 32) (d : Fin 32) -- ANDI, R140
  | ori (imm : BitVec 15) (a : Fin 32) (d : Fin 32) -- ORI, R140
  | xori (imm : BitVec 15) (a : Fin 32) (d : Fin 32) -- XORI, R140
  | slti (imm : BitVec 15) (a : Fin 32) (d : Fin 32) -- SLTI, R140
  | sltiu (imm : BitVec 15) (a : Fin 32) (d : Fin 32) -- SLTIU, R140
  | slli (w : Bool) (sh : BitVec 6) (a : Fin 32) (d : Fin 32) -- SLLI, R141
  | srli (w : Bool) (sh : BitVec 6) (a : Fin 32) (d : Fin 32) -- SRLI, R141
  | srai (w : Bool) (sh : BitVec 6) (a : Fin 32) (d : Fin 32) -- SRAI, R141
  | lui (imm : BitVec 20) (d : Fin 32) -- LUI, R142
  | auipc (imm : BitVec 20) (d : Fin 32) -- AUIPC, R142
  | beq (off : BitVec 12) (b : Fin 32) (a : Fin 32) -- BEQ, R143
  | bne (off : BitVec 12) (b : Fin 32) (a : Fin 32) -- BNE, R143
  | blt (off : BitVec 12) (b : Fin 32) (a : Fin 32) -- BLT, R143
  | bge (off : BitVec 12) (b : Fin 32) (a : Fin 32) -- BGE, R143
  | bltu (off : BitVec 12) (b : Fin 32) (a : Fin 32) -- BLTU, R143
  | bgeu (off : BitVec 12) (b : Fin 32) (a : Fin 32) -- BGEU, R143
  | jal (off : BitVec 20) (d : Fin 32) -- JAL, R144
  | jalr (imm : BitVec 15) (a : Fin 32) (d : Fin 32) -- JALR, R144
  | ldb (off : BitVec 7) (sc : BitVec 3) (acq : Bool) (a : Fin 32) (t : Fin 32) -- LDB, R156
  | ldbu (off : BitVec 7) (sc : BitVec 3) (acq : Bool) (a : Fin 32) (t : Fin 32) -- LDBU, R156
  | ldh (off : BitVec 7) (sc : BitVec 3) (acq : Bool) (a : Fin 32) (t : Fin 32) -- LDH, R156
  | ldhu (off : BitVec 7) (sc : BitVec 3) (acq : Bool) (a : Fin 32) (t : Fin 32) -- LDHU, R156
  | ldw (off : BitVec 7) (sc : BitVec 3) (acq : Bool) (a : Fin 32) (t : Fin 32) -- LDW, R156
  | ldwu (off : BitVec 7) (sc : BitVec 3) (acq : Bool) (a : Fin 32) (t : Fin 32) -- LDWU, R156
  | ldd (off : BitVec 7) (sc : BitVec 3) (acq : Bool) (a : Fin 32) (t : Fin 32) -- LDD, R156
  | stb (off : BitVec 7) (sc : BitVec 3) (rel : Bool) (a : Fin 32) (t : Fin 32) -- STB, R157
  | sth (off : BitVec 7) (sc : BitVec 3) (rel : Bool) (a : Fin 32) (t : Fin 32) -- STH, R157
  | stw (off : BitVec 7) (sc : BitVec 3) (rel : Bool) (a : Fin 32) (t : Fin 32) -- STW, R157
  | std (off : BitVec 7) (sc : BitVec 3) (rel : Bool) (a : Fin 32) (t : Fin 32) -- STD, R157
  | ldl (sc : BitVec 2) (acq : Bool) (dw : Bool) (a : Fin 32) (d : Fin 32) -- LDL, R162
  | stu (sc : BitVec 2) (rel : Bool) (dw : Bool) (b : Fin 32) (a : Fin 32) -- STU, R162
  | amoadd (sc : BitVec 2) (ord : BitVec 2) (dw : Bool) (b : Fin 32) (a : Fin 32) (d : Fin 32) -- AMOADD, R159
  | amoand (sc : BitVec 2) (ord : BitVec 2) (dw : Bool) (b : Fin 32) (a : Fin 32) (d : Fin 32) -- AMOAND, R159
  | amoor (sc : BitVec 2) (ord : BitVec 2) (dw : Bool) (b : Fin 32) (a : Fin 32) (d : Fin 32) -- AMOOR, R159
  | amoxor (sc : BitVec 2) (ord : BitVec 2) (dw : Bool) (b : Fin 32) (a : Fin 32) (d : Fin 32) -- AMOXOR, R159
  | amomin (sc : BitVec 2) (ord : BitVec 2) (dw : Bool) (b : Fin 32) (a : Fin 32) (d : Fin 32) -- AMOMIN, R159
  | amomax (sc : BitVec 2) (ord : BitVec 2) (dw : Bool) (b : Fin 32) (a : Fin 32) (d : Fin 32) -- AMOMAX, R159
  | amominu (sc : BitVec 2) (ord : BitVec 2) (dw : Bool) (b : Fin 32) (a : Fin 32) (d : Fin 32) -- AMOMINU, R159
  | amomaxu (sc : BitVec 2) (ord : BitVec 2) (dw : Bool) (b : Fin 32) (a : Fin 32) (d : Fin 32) -- AMOMAXU, R159
  | amoswp (sc : BitVec 2) (ord : BitVec 2) (dw : Bool) (b : Fin 32) (a : Fin 32) (d : Fin 32) -- AMOSWP, R159
  | amocas (sc : BitVec 2) (ord : BitVec 2) (dw : Bool) (b : Fin 32) (a : Fin 32) (d : Fin 32) -- AMOCAS, R160
  | amofadd (sc : BitVec 2) (ord : BitVec 2) (dw : Bool) (b : Fin 32) (a : Fin 32) (d : Fin 32) -- AMOFADD, R161
  | ldv (b : Fin 32) (a : Fin 32) (d : Fin 32) -- LDV, R165
  | stv (b : Fin 32) (a : Fin 32) (d : Fin 32) -- STV, R166
  | vrcl (b : Fin 32) (a : Fin 32) -- VRCL, R167
  | vprobe (a : Fin 32) (d : Fin 32) -- VPROBE, R168
  | fence (sc : BitVec 3) -- FENCE, R170
  | fenceE (sc : BitVec 3) -- FENCE_E, R171
  | fenceI -- FENCE_I, R172
  | bararv (a : Fin 32) (d : Fin 32) -- BARARV, R174
  | barwait (b : Fin 32) (a : Fin 32) (d : Fin 32) -- BARWAIT, R175
  | marm (a : Fin 32) -- MARM, R176
  | mwait (a : Fin 32) (d : Fin 32) -- MWAIT, R177
  | send (b : Fin 32) (a : Fin 32) (d : Fin 32) -- SEND, R233
  | sendv (b : Fin 32) (a : Fin 32) (v : Fin 16) -- SENDV, R233
  | endh -- ENDH, R236
  | qbind (vq : Bool) (wr : Bool) (id : Fin 32) (d : Fin 32) -- QBIND, R237
  | qunbind (vq : Bool) (d : Fin 32) -- QUNBIND, R237
  | qpoll (id : Fin 32) (d : Fin 32) -- QPOLL, R238
  | taskadd (a : Fin 32) -- TASKADD, R239
  | tasktake (a : Fin 32) (d : Fin 32) -- TASKTAKE, R239
  | tileget (d : Fin 32) -- TILEGET, R240
  | copy (g : Fin 32) (mt : Fin 32) (ms : Fin 32) (d : Fin 32) -- COPY, R246
  | fetch (g : Fin 32) (mt : Fin 32) (ms : Fin 32) (d : Fin 32) -- FETCH, R246
  | store (g : Fin 32) (mt : Fin 32) (r : Fin 32) (v : Fin 16) -- STORE, R246
  | tier (g : Fin 32) (mt : Fin 32) (ms : Fin 32) (d : Fin 32) -- TIER, R246
  | txbinit (g : Fin 32) (d : Fin 32) -- TXBINIT, R243
  | txbarv (g : Fin 32) (d : Fin 32) -- TXBARV, R244
  | txbwait (g : Fin 32) (r : Fin 32) (d : Fin 32) -- TXBWAIT, R245
  | txbtest (g : Fin 32) (r : Fin 32) (d : Fin 32) -- TXBTEST, R245
  | shopen (g : Fin 32) (r : Fin 32) (d : Fin 32) -- SHOPEN, R255
  | publish (close : Bool) (sc : BitVec 3) (ms : Fin 32) (d : Fin 32) -- PUBLISH, R256
  | tmld (g : Fin 32) (ms : Fin 32) -- TMLD, R211
  | tmst (g : Fin 32) (ms : Fin 32) -- TMST, R211
  | tmset (g : Fin 32) (f : Fin 32) (ms : Fin 32) -- TMSET, R212
  | tmget (f : Fin 32) (ms : Fin 32) (d : Fin 32) -- TMGET, R212
  | tmsync (ms : Fin 32) -- TMSYNC, R213
  | wload (g : Fin 32) (tr : Bool) (ms : Fin 32) (d : Fin 32) -- WLOAD, R223
  | wfree (d : Fin 32) -- WFREE, R225
  | mld (g : Fin 32) (pair : Bool) (tr : Bool) (ms : Fin 32) (v : Fin 16) -- MLD, R218
  | mst (g : Fin 32) (pair : Bool) (tr : Bool) (ms : Fin 32) (v : Fin 16) -- MST, R219
  | mma (chk : Bool) (z : Bool) (k : BitVec 2) (wb : Fin 32) (a : Fin 16) (c : Fin 8) -- MMA, R227
  | msoft (k : BitVec 2) (a : Fin 16) (c : Fin 8) -- MSOFT, R229
  | msfin (k : BitVec 2) (c : Fin 8) -- MSFIN, R230
  | mzero (k : BitVec 2) -- MZERO, R230
  | mchk (k : BitVec 2) (wb : Fin 32) (a : Fin 16) (c : Fin 8) -- MCHK, R228
  | vadd (e : BitVec 4) (p : Fin 8) (b : Fin 16) (a : Fin 16) (d : Fin 16) -- VADD, R187
  | vsub (e : BitVec 4) (p : Fin 8) (b : Fin 16) (a : Fin 16) (d : Fin 16) -- VSUB, R187
  | vmul (e : BitVec 4) (p : Fin 8) (b : Fin 16) (a : Fin 16) (d : Fin 16) -- VMUL, R187
  | vfma (e : BitVec 4) (p : Fin 8) (b : Fin 16) (a : Fin 16) (d : Fin 16) -- VFMA, R187
  | vmin (e : BitVec 4) (p : Fin 8) (b : Fin 16) (a : Fin 16) (d : Fin 16) -- VMIN, R187
  | vmax (e : BitVec 4) (p : Fin 8) (b : Fin 16) (a : Fin 16) (d : Fin 16) -- VMAX, R187
  | vabs (e : BitVec 4) (p : Fin 8) (a : Fin 16) (d : Fin 16) -- VABS, R187
  | vneg (e : BitVec 4) (p : Fin 8) (a : Fin 16) (d : Fin 16) -- VNEG, R187
  | vdiv (e : BitVec 4) (p : Fin 8) (b : Fin 16) (a : Fin 16) (d : Fin 16) -- VDIV, R187
  | vsqrt (e : BitVec 4) (p : Fin 8) (a : Fin 16) (d : Fin 16) -- VSQRT, R187
  | vrsqrt (e : BitVec 4) (p : Fin 8) (a : Fin 16) (d : Fin 16) -- VRSQRT, R187
  | vrcp (e : BitVec 4) (p : Fin 8) (a : Fin 16) (d : Fin 16) -- VRCP, R187
  | vexp2 (e : BitVec 4) (p : Fin 8) (a : Fin 16) (d : Fin 16) -- VEXP2, R187
  | vlog2 (e : BitVec 4) (p : Fin 8) (a : Fin 16) (d : Fin 16) -- VLOG2, R187
  | vand (e : BitVec 4) (p : Fin 8) (b : Fin 16) (a : Fin 16) (d : Fin 16) -- VAND, R187
  | vor (e : BitVec 4) (p : Fin 8) (b : Fin 16) (a : Fin 16) (d : Fin 16) -- VOR, R187
  | vxor (e : BitVec 4) (p : Fin 8) (b : Fin 16) (a : Fin 16) (d : Fin 16) -- VXOR, R187
  | vshl (e : BitVec 4) (p : Fin 8) (g : Fin 32) (a : Fin 16) (d : Fin 16) -- VSHL, R187
  | vshr (e : BitVec 4) (p : Fin 8) (g : Fin 32) (a : Fin 16) (d : Fin 16) -- VSHR, R187
  | vsel (e : BitVec 4) (p : Fin 8) (b : Fin 16) (a : Fin 16) (d : Fin 16) -- VSEL, R189
  | vcmpeq (e : BitVec 4) (p : Fin 8) (b : Fin 16) (a : Fin 16) (pd : Fin 8) -- VCMPEQ, R190
  | vcmplt (e : BitVec 4) (p : Fin 8) (b : Fin 16) (a : Fin 16) (pd : Fin 8) -- VCMPLT, R190
  | vcmple (e : BitVec 4) (p : Fin 8) (b : Fin 16) (a : Fin 16) (pd : Fin 8) -- VCMPLE, R190
  | vcvt (e : BitVec 4) (p : Fin 8) (t : BitVec 4) (a : Fin 16) (d : Fin 16) -- VCVT, R194
  | vaddw (e : BitVec 4) (p : Fin 8) (b : Fin 16) (a : Fin 16) (d : Fin 16) -- VADDW, R192
  | vmacw (e : BitVec 4) (p : Fin 8) (b : Fin 16) (a : Fin 16) (d : Fin 16) -- VMACW, R192
  | vnarrow (e : BitVec 4) (p : Fin 8) (sat : Bool) (a : Fin 16) (d : Fin 16) -- VNARROW, R193
  | vadds (e : BitVec 4) (p : Fin 8) (b : Fin 16) (a : Fin 16) (d : Fin 16) -- VADDS, R187
  | vclamp (e : BitVec 4) (p : Fin 8) (g : Fin 32) (a : Fin 16) (d : Fin 16) -- VCLAMP, R188
  | vscan (e : BitVec 4) (p : Fin 8) (g : Fin 32) (a : Fin 16) (d : Fin 16) -- VSCAN, R195
  | vredsum (e : BitVec 4) (p : Fin 8) (a : Fin 16) (d : Fin 16) -- VREDSUM, R196
  | vredmax (e : BitVec 4) (p : Fin 8) (a : Fin 16) (d : Fin 16) -- VREDMAX, R196
  | vredmin (e : BitVec 4) (p : Fin 8) (a : Fin 16) (d : Fin 16) -- VREDMIN, R196
  | vperm (e : BitVec 4) (p : Fin 8) (b : Fin 16) (a : Fin 16) (d : Fin 16) -- VPERM, R197
  | vbcast (e : BitVec 4) (p : Fin 8) (g : Fin 32) (d : Fin 16) -- VBCAST, R197
  | vins (e : BitVec 4) (p : Fin 8) (g : Fin 32) (a : Fin 16) (d : Fin 16) -- VINS, R197
  | vext (e : BitVec 4) (p : Fin 8) (g : Fin 32) (a : Fin 16) -- VEXT, R198
  | vzero (e : BitVec 4) (p : Fin 8) (d : Fin 16) -- VZERO, R197
  | vmov (e : BitVec 4) (p : Fin 8) (a : Fin 16) (d : Fin 16) -- VMOV, R197
  | viota (e : BitVec 4) (p : Fin 8) (g : Fin 32) (d : Fin 16) -- VIOTA, R197
  | vld (e : BitVec 4) (p : Fin 8) (gb : Fin 32) (ga : Fin 32) (d : Fin 16) -- VLD, R200
  | vst (e : BitVec 4) (p : Fin 8) (gb : Fin 32) (ga : Fin 32) (d : Fin 16) -- VST, R200
  | vlds (e : BitVec 4) (p : Fin 8) (gb : Fin 32) (ga : Fin 32) (d : Fin 16) -- VLDS, R200
  | vsts (e : BitVec 4) (p : Fin 8) (gb : Fin 32) (ga : Fin 32) (d : Fin 16) -- VSTS, R202
  | vgath (e : BitVec 4) (p : Fin 8) (i : Fin 16) (ga : Fin 32) (d : Fin 16) -- VGATH, R199
  | vscat (e : BitVec 4) (p : Fin 8) (i : Fin 16) (ga : Fin 32) (d : Fin 16) -- VSCAT, R202
  | vwmax (e : BitVec 4) (n : BitVec 4) (w : Fin 16) (a : Fin 16) (d : Fin 16) -- VWMAX, R275
  | vwmin (e : BitVec 4) (n : BitVec 4) (w : Fin 16) (a : Fin 16) (d : Fin 16) -- VWMIN, R275
  | vwmed (e : BitVec 4) (n : BitVec 4) (w : Fin 16) (a : Fin 16) (d : Fin 16) -- VWMED, R275
  | vwclamp (e : BitVec 4) (n : BitVec 4) (w : Fin 16) (a : Fin 16) (d : Fin 16) -- VWCLAMP, R275
  | vwssum (e : BitVec 4) (n : BitVec 4) (w : Fin 16) (a : Fin 16) (d : Fin 16) -- VWSSUM, R275
  | vadj (e : BitVec 4) (n : BitVec 4) (w : Fin 16) (kd : BitVec 4) (d : Fin 16) -- VADJ, R276
  | credSum (mb : Fin 32) (ma : Fin 32) (g : Fin 32) -- CRED_SUM, R267
  | credMax (mw : Fin 32) (mb : Fin 32) (ma : Fin 32) (g : Fin 32) -- CRED_MAX, R267
  | credMin (mw : Fin 32) (mb : Fin 32) (ma : Fin 32) (g : Fin 32) -- CRED_MIN, R267
  | credMed (mw : Fin 32) (mb : Fin 32) (ma : Fin 32) (g : Fin 32) -- CRED_MED, R267
  | credSsum (mw : Fin 32) (mb : Fin 32) (ma : Fin 32) (g : Fin 32) -- CRED_SSUM, R267
  | cbcast (mb : Fin 32) (ma : Fin 32) (g : Fin 32) -- CBCAST, R269
  | cadj (mw : Fin 32) (mb : Fin 32) (ma : Fin 32) (g : Fin 32) -- CADJ, R270
  | cjoin (g : Fin 32) -- CJOIN, R262
  | cleave (g : Fin 32) -- CLEAVE, R262
  | cview (g : Fin 32) -- CVIEW, R262
  | crejoin (g : Fin 32) -- CREJOIN, R262
  | fitset (b : Fin 32) (a : Fin 32) -- FITSET, R277
  | popcmd (a : Fin 32) -- POPCMD, R278
  | migrate (a : Fin 32) -- MIGRATE, R280
  | mutcopy (b : Fin 32) (a : Fin 32) -- MUTCOPY, R280
  | mfc (n : BitVec 10) (d : Fin 32) -- MFC, R147
  | mtc (n : BitVec 10) (a : Fin 32) -- MTC, R147
  | msetb (n : BitVec 10) (a : Fin 32) (d : Fin 32) -- MSETB, R147
  | mclrb (n : BitVec 10) (a : Fin 32) (d : Fin 32) -- MCLRB, R147
  | trap (a : Fin 32) -- TRAP, R339
  | brk (a : Fin 32) -- BREAK, R339
  | eret -- ERET, R335
  | reinj (a : Fin 32) (d : Fin 32) -- REINJ, R337
  | tlbinv (b : Fin 32) (a : Fin 32) -- TLBINV, R354
  | tlbinvAsid (b : Fin 32) -- TLBINV_ASID, R354
  | tlbinvAll -- TLBINV_ALL, R354
  | quiesce (drain : Bool) (b : Fin 32) (a : Fin 32) (d : Fin 32) -- QUIESCE, R341
  | resume (b : Fin 32) (a : Fin 32) (d : Fin 32) -- RESUME, R342
  | pkill (a : Fin 32) -- PKILL, R343
  | savep (a : Fin 32) (d : Fin 32) -- SAVEP, R347
  | restp (a : Fin 32) (d : Fin 32) -- RESTP, R348
  | wfi -- WFI, R339
  | cMv (a : Fin 32) (d : Fin 32) -- C_MV, R146
  | cAdd (a : Fin 32) (d : Fin 32) -- C_ADD, R146
  | cSub (a : Fin 32) (d : Fin 32) -- C_SUB, R146
  | cAddi (imm : BitVec 5) (d : Fin 32) -- C_ADDI, R146
  | cLi (imm : BitVec 5) (d : Fin 32) -- C_LI, R146
  | cSlli (imm : BitVec 5) (d : Fin 32) -- C_SLLI, R146
  | cSrai (imm : BitVec 5) (d : Fin 32) -- C_SRAI, R146
  | cAnd (a : Fin 32) (d : Fin 32) -- C_AND, R146
  | cLdd (a : Fin 32) (d : Fin 32) -- C_LDD, R146
  | cStd (a : Fin 32) (d : Fin 32) -- C_STD, R146
  | cLdw (a : Fin 32) (d : Fin 32) -- C_LDW, R146
  | cStw (a : Fin 32) (d : Fin 32) -- C_STW, R146
  | cBeqz (imm : BitVec 5) (d : Fin 32) -- C_BEQZ, R146
  | cBnez (imm : BitVec 5) (d : Fin 32) -- C_BNEZ, R146
  | cJ (off : BitVec 10) -- C_J, R146
  | cJr (a : Fin 32) (link : Bool) -- C_JR, R146
  | cRep (m : BitVec 4) (n : BitVec 6) -- C_REP, R92
  | cEndh -- C_ENDH, R146
  | cNop -- C_NOP, R146
  | cYield -- C_YIELD, R317
  | waitEnd (c : CoreId) (k : Slot) -- WAIT_END, R7
  | matrixComplete (c : CoreId) (k : Slot) -- MATRIX_COMPLETE, R227
  | lockRetry (c : CoreId) (k : Slot) -- LOCK_RETRY, R39
  | mwaitTimeout (c : CoreId) (k : Slot) -- MWAIT_TIMEOUT, R177
  | yieldExpire (c : CoreId) (k : Slot) -- YIELD_EXPIRE, R317
  | barcfgWrite (op : CtrlOp) (a : Fin 32) (d : Fin 32) -- BARCFG_WRITE, R173
  | tqcfgWrite (op : CtrlOp) (a : Fin 32) (d : Fin 32) -- TQCFG_WRITE, R66
  | tdcfgWrite (op : CtrlOp) (a : Fin 32) (d : Fin 32) -- TDCFG_WRITE, R70
  | flagsRead (d : Fin 32) -- FLAGS_READ, R128
  | flagsWrite (op : CtrlOp) (a : Fin 32) (d : Fin 32) -- FLAGS_WRITE, R128
  | controlRegisterWrite (op : CtrlOp) (n : BitVec 10) (a : Fin 32) (d : Fin 32) -- CONTROL_REGISTER_WRITE, R148
  | messageAdmit (c : CoreId) -- MESSAGE_ADMIT, R48
  | completionPost (c : CoreId) (k : Slot) -- COMPLETION_POST, R54
  | stealRequest (cl : ClusterId) -- STEAL_REQUEST, R69
  | stealServe (thief : ClusterId) (victim : ClusterId) -- STEAL_SERVE, R69
  | donationAppend (cl : ClusterId) -- DONATION_APPEND, R69
  | commandEnqueue (c : CoreId) (k : Slot) -- COMMAND_ENQUEUE, R252
  | engineCommandStart (e : Engine) -- ENGINE_COMMAND_START, R59
  | sectorWrite (cmd : Nat) (n : Nat) -- SECTOR_WRITE, R247
  | pageWalk (cmd : Nat) -- PAGE_WALK, R351
  | migrateComplete (cmd : Nat) -- MIGRATE_COMPLETE, R282
  | atelierRoundStart -- ATELIER_ROUND_START, R279
  | pairQuiesced (i : Nat) -- PAIR_QUIESCED, R279
  | pairCopyDone (i : Nat) -- PAIR_COPY_DONE, R279
  | cleOperationStart (grp : Nat) -- CLE_OPERATION_START, R267
  | clePartialReceive (grp : Nat) (part : Partial) -- CLE_PARTIAL_RECEIVE, R271
  | heartbeatSend (die : Fin 8) -- HEARTBEAT_SEND, R386
  | heartbeatReceive (die : Fin 8) (mem : Nat) -- HEARTBEAT_RECEIVE, R386
  | suspectTimeout (die : Fin 8) (mem : Nat) -- SUSPECT_TIMEOUT, R386
  | viewProposalReceive (die : Fin 8) (grp : Nat) (pr : Proposal) -- VIEW_PROPOSAL_RECEIVE, R387
  | viewAckReceive (die : Fin 8) (grp : Nat) (mem : Nat) (view : Nat) -- VIEW_ACK_RECEIVE, R387
  | viewRefusalReceive (die : Fin 8) (grp : Nat) (held : Nat) (view : Nat) -- VIEW_REFUSAL_RECEIVE, R387
  | commitReceive (die : Fin 8) (grp : Nat) (pr : Proposal) -- COMMIT_RECEIVE, R272
  | proposalTimeout (die : Fin 8) (grp : Nat) -- PROPOSAL_TIMEOUT, R387
  | ackBindingExpire (die : Fin 8) (grp : Nat) -- ACK_BINDING_EXPIRE, R387
  | quorumTimeout (grp : Nat) -- QUORUM_TIMEOUT, R388
  | joinReceive (grp : Nat) (slice : Nat) -- JOIN_RECEIVE, R273
  | rejoinCommit (grp : Nat) -- REJOIN_COMMIT, R273
  | heartbeatLossTimeout (die : Fin 8) -- HEARTBEAT_LOSS_TIMEOUT, R385
  | fatalFaultReport (die : Fin 8) -- FATAL_FAULT_REPORT, R385
  | correctedError (o : ScoreObj) -- CORRECTED_ERROR, R380
  | uncorrectableError (o : UncObj) -- UNCORRECTABLE_ERROR, R385
  | scoreHalving -- SCORE_HALVING, R380
  | targetedTestStart (o : ScoreObj) -- TARGETED_TEST_START, R383
  | testHoldTimeout (o : ScoreObj) -- TEST_HOLD_TIMEOUT, R383
  | targetedTestComplete (o : ScoreObj) (pass : Bool) -- TARGETED_TEST_COMPLETE, R384
  | ageingFit (o : AgeObj) (margin : Nat) (drift : Int) -- AGEING_FIT, R393
  | vfLoop (cl : ClusterId) (ceiling : Fin 4) (millivolt : Nat) -- VF_LOOP, R394
  | droop (cl : ClusterId) (stretch : Nat) -- DROOP, R394
  | equalisationLoop (l : LinkId) (setting : Nat) (below : Bool) -- EQUALISATION_LOOP, R394
  | scrubLoop (die : Fin 8) (rate : Nat) -- SCRUB_LOOP, R394
  | actfcstUpdate (c : CoreId) -- ACTFCST_UPDATE, R323
  | clockChange (cl : ClusterId) -- CLOCK_CHANGE, R326
  | preemptAck (panel : Nat) (e : Engine) -- PREEMPT_ACK, R318
  | preemptTimeout (panel : Nat) -- PREEMPT_TIMEOUT, R322
  | saveComplete (panel : Nat) -- SAVE_COMPLETE, R347
  | saveStop (panel : Nat) (reason : BitVec 2) (cursor : BitVec 40) -- SAVE_STOP, R347
  | restoreComplete (panel : Nat) -- RESTORE_COMPLETE, R348
  | checkpointComplete -- CHECKPOINT_COMPLETE, R396
  | launchDone (panel : Nat) -- LAUNCH_DONE, R313
  | packetInject (pk : Nat) -- PACKET_INJECT, R358
  | flitEject (pk : Nat) (fidx : Nat) -- FLIT_EJECT, R358
  | ucieFlitReceive (l : LinkId) (lseq : BitVec 16) (crcGood : Bool) -- UCIE_FLIT_RECEIVE, R361
  | nakReceive (l : LinkId) -- NAK_RECEIVE, R361
  | linkLockLoss (l : LinkId) -- LINK_LOCK_LOSS, R361
  | retrainComplete (l : LinkId) -- RETRAIN_COMPLETE, R361
  | e2eAckReceive (pk : Nat) -- E2E_ACK_RECEIVE, R362
  | e2eNakReceive (pk : Nat) -- E2E_NAK_RECEIVE, R362
  | e2eResendTimeout (pk : Nat) -- E2E_RESEND_TIMEOUT, R362
  | circuitUp (idx : Fin 256) -- CIRCUIT_UP, R365
  | fabricForward (fp : FabricPacket) -- FABRIC_FORWARD, R366
  | cxlPortDown (port : Fin 8) -- CXL_PORT_DOWN, R376
  | powerGood -- POWER_GOOD, R369
  | romStageDone (die : Fin 8) -- ROM_STAGE_DONE, R369
  | linkTrainingDone -- LINK_TRAINING_DONE, R369
  | masterElection -- MASTER_ELECTION, R369
  | firmwareDistribute (image : List (BitVec 8)) -- FIRMWARE_DISTRIBUTE, R369
  | firmwareVerify (die : Fin 8) -- FIRMWARE_VERIFY, R370
  | srsStart -- SRS_START, R369
  | packageIdWrite (id : BitVec 9) -- PACKAGE_ID_WRITE, R367
  | resetRequest -- RESET_REQUEST, R378
  | emergencyKill -- EMERGENCY_KILL, R378
  | jobConnect (job : Nat) (svc : Service) -- JOB_CONNECT, R372
  | panelCreate (rq : Req) -- PANEL_CREATE, R303
  | panelRelease (rq : Req) -- PANEL_RELEASE, R405
  | imageLoad (rq : Req) (img : RoutineImage) -- IMAGE_LOAD, R95
  | launch (rq : Req) -- LAUNCH, R62
  | read (rq : Req) -- READ, R373
  | write (rq : Req) -- WRITE, R373
  | hold (rq : Req) -- HOLD, R318
  | resumeRequest (rq : Req) -- RESUME_REQUEST, R320
  | swapOut (rq : Req) -- SWAP_OUT, R344
  | swapIn (rq : Req) -- SWAP_IN, R344
  | save (rq : Req) -- SAVE, R347
  | restore (rq : Req) -- RESTORE, R348
  | kill (rq : Req) -- KILL, R310
  | groupCreate (rq : Req) -- GROUP_CREATE, R259
  | sptLoad (rq : Req) -- SPT_LOAD, R251
  | tierMap (rq : Req) -- TIER_MAP, R376
  | circuit (rq : Req) -- CIRCUIT, R364
  | state (rq : Req) -- STATE, R373
  | health (rq : Req) -- HEALTH, R392
  | attest (rq : Req) -- ATTEST, R371
  | checkpoint (rq : Req) -- CHECKPOINT, R395
  | report (rq : Req) -- REPORT, R374
  | map (rq : Req) -- MAP, R375
  | dieSupplyLoss (die : Fin 8) -- DIE_SUPPLY_LOSS, R385
  | dieSupplyReturn (die : Fin 8) -- DIE_SUPPLY_RETURN, R385
  | circuitTornDown (idx : Fin 256) -- CIRCUIT_TORN_DOWN, R365
  | connectionClose (job : Nat) -- CONNECTION_CLOSE, R374
  deriving DecidableEq, Repr

/-- True of a row with an encoding: an instruction; false of an event. -/
def Instr.isInstr : Instr → Bool
  | .waitEnd .. | .matrixComplete .. | .lockRetry .. | .mwaitTimeout .. | .yieldExpire .. | .barcfgWrite ..
  | .tqcfgWrite .. | .tdcfgWrite .. | .flagsRead .. | .flagsWrite .. | .controlRegisterWrite ..
  | .messageAdmit .. | .completionPost .. | .stealRequest .. | .stealServe .. | .donationAppend ..
  | .commandEnqueue .. | .engineCommandStart .. | .sectorWrite .. | .pageWalk .. | .migrateComplete ..
  | .atelierRoundStart | .pairQuiesced .. | .pairCopyDone .. | .cleOperationStart .. | .clePartialReceive ..
  | .heartbeatSend .. | .heartbeatReceive .. | .suspectTimeout .. | .viewProposalReceive ..
  | .viewAckReceive .. | .viewRefusalReceive .. | .commitReceive .. | .proposalTimeout ..
  | .ackBindingExpire .. | .quorumTimeout .. | .joinReceive .. | .rejoinCommit .. | .heartbeatLossTimeout ..
  | .fatalFaultReport .. | .correctedError .. | .uncorrectableError .. | .scoreHalving
  | .targetedTestStart .. | .testHoldTimeout .. | .targetedTestComplete .. | .ageingFit .. | .vfLoop ..
  | .droop .. | .equalisationLoop .. | .scrubLoop .. | .actfcstUpdate .. | .clockChange .. | .preemptAck ..
  | .preemptTimeout .. | .saveComplete .. | .saveStop .. | .restoreComplete .. | .checkpointComplete
  | .launchDone .. | .packetInject .. | .flitEject .. | .ucieFlitReceive .. | .nakReceive ..
  | .linkLockLoss .. | .retrainComplete .. | .e2eAckReceive .. | .e2eNakReceive .. | .e2eResendTimeout ..
  | .circuitUp .. | .fabricForward .. | .cxlPortDown .. | .powerGood | .romStageDone .. | .linkTrainingDone
  | .masterElection | .firmwareDistribute .. | .firmwareVerify .. | .srsStart | .packageIdWrite ..
  | .resetRequest | .emergencyKill | .jobConnect .. | .panelCreate .. | .panelRelease .. | .imageLoad ..
  | .launch .. | .read .. | .write .. | .hold .. | .resumeRequest .. | .swapOut .. | .swapIn .. | .save ..
  | .restore .. | .kill .. | .groupCreate .. | .sptLoad .. | .tierMap .. | .circuit .. | .state ..
  | .health .. | .attest .. | .checkpoint .. | .report .. | .map .. | .dieSupplyLoss .. | .dieSupplyReturn ..
  | .circuitTornDown .. | .connectionClose .. => false
  | _ => true

end Sys2Proof
end

