-- ==== Sys2Proof/Machine/State.lean ====
section
/-!
DEFINITION. The state of one SNH-DX8 package as plain data: every register, queue, table and memory that spec/ gives
the machine, the reasons a step can stop, and the state after reset. INVENTORY.md '## State' names the rule of each field.
-/

namespace Sys2Proof.Machine

/-- Why the machine stops. -/
inductive Fault where
  /-- An event row named a happening whose occasion is not in the state (an answer to a packet never sent). Raised by the
  events of 95_what_each_step_holds alone. Safe: no such step exists in the hardware. -/
  | notEnabled (event : String)
  deriving DecidableEq, Repr

/-- Why the machine has no meaning for an instruction. -/
inductive Refusal where
  /-- An arm of `exec` that has no meaning yet. Safe: nothing is claimed of it. -/
  | notModelled (mnemonic : String)
  deriving DecidableEq, Repr

/-- Context states (03 Table 03-1). -/
inductive Run where
  | dormant | ready | blocked | stopped | swapped
  deriving DecidableEq, Repr, Inhabited

/-- A repeat in progress (04 R91, 18 R338): its prefix stands at the pc. -/
structure Rep where
  n : Nat
  mask : BitVec 4
  idx : Nat
  deriving DecidableEq, Repr

/-- Where a waiting instruction of the pc stood when it became an unfinished one (18 R329): its address, the g registers
and the repeat then; younger instructions may have issued since (DESIGN CHOICE, assumption log 2). -/
structure Ahead where
  pc : Word
  g : Vector Word 32
  rep : Option Rep
  deriving DecidableEq, Repr

/-- An unfinished waiting instruction (18 R330, Table 18-7). `from_` is where it issued; none if a return or a stop issued
it again (18 R335, R340). -/
structure Entry where
  word : BitVec 32
  compact : Bool
  a : Word
  b : Word
  d : Word
  from_ : Option Ahead := none
  deriving DecidableEq, Repr

/-- What a Wait of 00 R7 waits for, as data. -/
inductive Wait where
  | version (cl : Nat) (w : Nat) (old : BitVec 16)            -- LDV, 08 R165
  | plive (cl : Nat) (w : Nat)                                -- STV, 08 R166
  | lock (core : Nat) (q : Nat)                               -- 02 R39
  | barrier (panel : Nat) (b : Fin 16) (token : BitVec 4)     -- BARWAIT, 08 R175
  | monitor (until_ : Option Nat)                             -- MWAIT, 08 R177
  | queueRead (core : Nat) (q : Nat)                          -- 03 R56
  | queueWrite (core : Nat) (q : Nat)                         -- 03 R56
  | task (cl : Nat)                                           -- TASKTAKE, 03 R67
  | taskRoom (cl : Nat)                                       -- TASKADD, 03 R67
  | engine (e : Engine)                                       -- a full engine inbox, 03 R59
  | phase (key : Nat) (token : BitVec 4)                      -- TXBWAIT, 11 R245
  | sends                                                     -- a 17th message, 11 R235
  | sources                                                   -- FENCE.E, 08 R171
  | older                                                     -- older instructions of the context
  | commands                                                  -- ENDH, 11 R236
  | backWrites (cl : Nat) (i : Nat)                           -- PUBLISH, 11 R256
  | quiesced (core : Nat) (mask prev : BitVec 8)                  -- QUIESCE, 18 R341
  | event (admits : Nat) (posts : Nat)                        -- WFI, 18 R339
  | joined (grp : Nat)                                        -- CJOIN, 12 R262
  | left (grp : Nat) (slice : Nat)                            -- CLEAVE, 12 R262
  | rejoined (grp : Nat) (slice : Nat)                        -- CREJOIN, 12 R262
  | translated (panel : Nat) (va : Option Nat) (asid : Option Nat)  -- TLBINV, 18 R354
  | walker (die : Nat)                                        -- a 65th walk, 18 R353
  | reply (cmd : Nat)                                         -- TMSYNC, 10 R213
  deriving DecidableEq, Repr

/-- A wait in progress: for what, its place in the order of blocking (03 R56, R67), and the CYCLE it began. -/
structure Waiting where
  on : Wait
  since : Nat
  start : Nat
  deriving DecidableEq, Repr

/-- The armed monitor (08 R176): its 64-byte line, the events it has recorded, and whether its MWAIT may return early (R178). -/
structure Mon where
  line : Nat
  wrote : Bool := false
  posted : Bool := false
  early : Bool := false
  deriving DecidableEq, Repr

/-- A bound queue port (11 R237). -/
structure Port where
  q : Fin 32
  wr : Bool
  deriving DecidableEq, Repr

/-- The result of an MMA-family instruction before it completes (06 R127, 10 R227). -/
structure MatPend where
  vs : List (Fin 16 × VReg)
  zs : List (Fin 8 × ZReg)
  flags : BitVec 6
  deriving DecidableEq, Repr

/-- A cached leaf translation (18 R353), with the key of its page's first byte and the engine that serves it: a later remap of
the second tier leaves it as it is (19 R376). -/
structure TlbEntry where
  asid : BitVec 16
  va : Nat
  size : Nat
  pa : Nat
  rd : Bool
  wr : Bool
  key : Nat
  eng : Engine
  deriving DecidableEq, Repr

/-- The kind of an engine command (11 Table 11-5, 12 R264, R278, R280). `pair` is the copy of a pair of a round (12 R279);
`send` is a message of KIND 1 to 6 (03 R59), `header` the request of a TMSYNC (10 R213). -/
inductive CmdKind where
  | copy | fetch | store | tier | cred (op : Fin 5) | cbcast | cadj | migrate | mutcopy | popcmd | pair (i : Nat)
  | send (kind : Nat) | header
  deriving DecidableEq, Repr, Inhabited

/-- Where an engine command stands (11 R252, R253, 17 R319). -/
inductive CmdState where
  | queued | running | parked | done | failed (status : BitVec 8)
  deriving DecidableEq, Repr, Inhabited

/-- A byte to write under a mask (a 4-bit code is half of one). -/
structure Put where
  key : Nat
  mask : Byte
  val : Byte
  deriving DecidableEq, Repr

/-- A destination sector still to write (11 R247): its number, its bytes, the scratch core that must be up, the half bytes
to credit and the flags to OR; `back` is the core that data are pushed back to, with nothing to write there (10 R213). -/
structure Sector where
  n : Nat
  puts : List Put
  target : Option Nat
  credit : Nat
  flags : BitVec 6
  back : Option Nat := none
  deriving DecidableEq, Repr

/-- An open publish-table entry (11 Table 11-10). -/
structure Pub where
  front : Nat
  back : Nat
  len : Nat
  gen : BitVec 16
  deriving DecidableEq, Repr

/-- An engine command with everything captured at issue (11 R252, 12 R266, R278, R280), and its progress. `anew` holds the virtual
sectors that are to be translated by the tables as they stand (18 R355). Of a collective's command, `begun` says that its CLE has started
it, `changed` that a commit came over it while it was parked, and `outcome` holds its codes, witnesses, flags and REWRITTEN while they are
on their way from the leader (12 R268, R272). -/
structure Cmd where
  id : Nat
  kind : CmdKind
  engine : Engine
  core : Nat
  slot : Fin 8
  panel : Nat
  activation : Nat
  state : CmdState := .queued
  dst : Desc := 0
  src : Desc := 0
  wit : Desc := 0
  dstSlot : Fin 32 := 0
  witSlot : Option (Fin 32) := none
  winfmt : Vector (BitVec 10) 16 := .replicate 16 0
  winscale : Vector Word 16 := .replicate 16 0
  box : BitVec 512 := 0
  boxAddr : Nat := 0
  tag : Nat := 0
  bar : Option Nat := none
  tval : Word := 0
  data : VReg := 0
  total : Nat := 0
  got : Nat := 0
  nsec : Nat := 0
  sectors : List Sector := []
  fail : Option (BitVec 8) := none
  fronts : List Nat := []
  srcPub : List (Nat × Pub) := []
  srcRead : Bool := false
  ptbase : Word := 0
  asid : BitVec 16 := 0
  pages : List (Nat × Bool) := []
  walked : List TlbEntry := []
  anew : List Nat := []
  flags : BitVec 6 := 0
  source : Nat := 0
  target : Nat := 0
  targetPanel : Nat := 0
  handle : Nat := 0
  opseq : Nat := 0
  grp : Nat := 0
  slice : Nat := 0
  mode : Nat := 0
  values : List Nat := []
  leaf : List Val := []
  wits : List Nat := []
  rootRead : Bool := false
  sent : Bool := false
  surfaced : Bool := false
  begun : Bool := false
  changed : Bool := false
  outcome : Option (List Nat × List Nat × BitVec 6 × Bool) := none
  deriving DecidableEq, Repr, Inhabited

/-- A translation fault (18 R352). -/
structure XFault where
  va : Nat
  kind : Nat
  deriving DecidableEq, Repr

/-- A context (03 Table 03-2, 17 R302, 18 R327). -/
structure Ctx where
  run : Run
  pc : Word
  g : Vector Word 32
  v : Vector VReg 16
  p : Vector PReg 8
  z : Vector ZReg 8
  flags : BitVec 6
  frm : BitVec 2
  mfmt : BitVec 6
  f8sel : BitVec 5
  hkey : BitVec 10
  winfmt : Vector (BitVec 10) 16
  winscale : Vector Word 16
  mode : Bool
  pmode : Bool
  iprio : BitVec 6
  age : Nat
  lastIssue : Nat
  yieldUntil : Nat
  tcause : BitVec 17
  tval : Word
  epc : Word
  rep : Option Rep
  pend : List Entry
  ports : Vector (Option Port) 5
  payload : List Word
  act : Nat
  mon : Option Mon
  compq : List Word
  compHeld : List Word
  latch : Option XFault
  wait : Option Waiting
  mat : Option MatPend
  caught : Option Cmd
  posts : Nat
  deriving DecidableEq, Repr, Inhabited

/-- A context holding no activation, at the reset values of its registers (02 to 18; log 4 where none is given). -/
def Ctx.reset : Ctx where
  run := .dormant
  pc := 0
  g := .replicate 32 0
  v := .replicate 16 0
  p := .replicate 8 0
  z := .replicate 8 0
  flags := 0
  frm := 0
  mfmt := 0x1C
  f8sel := 0x03
  hkey := 0
  winfmt := .replicate 16 0x1C
  winscale := .replicate 16 0
  mode := false
  pmode := false
  iprio := 0
  age := 0
  lastIssue := 0
  yieldUntil := 0
  tcause := 0
  tval := 0
  epc := 0
  rep := none
  pend := []
  ports := .replicate 5 none
  payload := []
  act := 0
  mon := none
  compq := []
  compHeld := []
  latch := none
  wait := none
  mat := none
  caught := none
  posts := 0

/-- A weight-buffer slot (10 R222): tag, codes, records and metadata; `tr` says along which side the records run (R223). -/
structure WSlot where
  valid : Bool := false
  fmt : BitVec 6 := 0
  scaled : Bool := false
  sparse : Bool := false
  kn : BitVec 8 := 0
  tr : Bool := false
  codes : BitVec 4096 := 0
  records : BitVec 1024 := 0
  meta_ : BitVec 1024 := 0
  deriving DecidableEq, Repr, Inhabited

/-- A message (03 R44) with the panel it is addressed to (17 R308), its sender, and the CYCLE of its admission. `cmd` is the
MIGRATE whose completion it is (12 R282); `back` is the context and the completion word in which an engine reports its refusal
(03 R53); `unread` is where the payload of a SEND may still be read (11 R234). -/
structure Msg where
  h0 : Word
  h1 : Word
  payload : List Byte
  panel : Nat
  cross : Bool
  src : Nat
  srcSlot : Option Nat
  at_ : Nat
  launch : Option Nat := none
  cmd : Option Nat := none
  back : Option (Nat × Fin 8 × Word) := none
  unread : Option Nat := none
  deriving DecidableEq, Repr

/-- A suspicion score (20 R380, R381, R382). -/
structure Score where
  value : BitVec 16 := 0
  due : Bool := false
  dueAt : Nat := 0
  testing : Bool := false
  passed : Bool := false
  deriving DecidableEq, Repr, Inhabited

/-- A core (03 R41 to R56, 17 Table 17-1). -/
structure Core where
  ctxs : Vector Ctx 8
  maps : Vector Desc 32
  wbuf : Vector WSlot 32
  fitness : BitVec 32
  fitgen : BitVec 32
  actfcst : Word
  busyMat : Nat
  busyVec : Nat
  actAt : Nat
  routine : Vector Word 64
  rxctx : BitVec 8
  tvec : Word
  ptbase : Word
  asid : BitVec 16
  panelId : BitVec 32
  squeue : Vector (List Word) 8
  vqueue : Vector (List VReg) 2
  inbox : List Msg
  offers : List Msg
  admits : Nat
  locks : List (Nat × Nat)
  swq : BitVec 8
  atq : BitVec 8
  score : Score
  badMat : Bool
  banks : Vector Score 8
  tlb : List TlbEntry
  deriving DecidableEq, Repr, Inhabited

/-- A core after reset (17 Table 17-12). -/
def Core.reset : Core where
  ctxs := .replicate 8 .reset
  maps := .replicate 32 0
  wbuf := .replicate 32 {}
  fitness := 0
  fitgen := 0
  actfcst := 0
  busyMat := 0
  busyVec := 0
  actAt := 0
  routine := .replicate 64 0
  rxctx := 0xC0
  tvec := 0
  ptbase := 0
  asid := 0
  panelId := 0
  squeue := .replicate 8 []
  vqueue := .replicate 2 []
  inbox := []
  offers := []
  admits := 0
  locks := []
  swq := 0
  atq := 0
  score := {}
  badMat := false
  banks := .replicate 8 {}
  tlb := []

/-- A versioned word (02 R35). -/
structure VWord where
  ver : BitVec 16 := 0
  cur : Word := 0
  prev : Word := 0
  plive : Bool := false
  deriving DecidableEq, Repr

/-- A cluster (02 R35, 03 R63 to R71, 11 R254, 17 R325). -/
structure Cluster where
  words : List (Nat × VWord)
  tasks : List (BitVec 512)
  tqSize : BitVec 4
  tqBase : BitVec 25
  tqHead : BitVec 13
  tqTail : BitVec 13
  tdcfg : Word
  tdPos : Nat
  pub : Vector (Option Pub) 16
  xfuBox : List Nat
  starveAt : Option Nat
  victim : Option Nat
  asking : Bool
  donated : Option (List (BitVec 512))
  tlb : List TlbEntry
  retired : Bool
  clock : Nat
  clockNext : Nat
  clockChosen : Nat
  ceiling : Nat
  aged : Nat
  millivolt : Nat
  stretch : Nat
  endOfLife : Nat
  deriving DecidableEq, Repr

/-- A cluster after reset. Clock figures are MHz (01 R9). -/
def Cluster.reset : Cluster where
  words := []
  tasks := []
  tqSize := 0
  tqBase := 0
  tqHead := 0
  tqTail := 0
  tdcfg := 0
  tdPos := 0
  pub := .replicate 16 none
  xfuBox := []
  starveAt := none
  victim := none
  asking := false
  donated := none
  tlb := []
  retired := false
  clock := 1600
  clockNext := 1600
  clockChosen := 1600
  ceiling := 2100
  aged := 2100
  millivolt := 0
  stretch := 0
  endOfLife := 65535

/-- Stages of a die (19 Table 19-4, 20 R385). -/
inductive DieStage where
  | off | rom | heard | imaged | verified | live | absent | lost
  deriving DecidableEq, Repr

/-- A health record (20 Table 20-4). -/
structure HealthRec where
  seq : Nat
  source : Nat
  kind : Nat
  time : Nat
  object : Nat
  score : Nat
  detail : Nat
  deriving DecidableEq, Repr

/-- A view proposal held by a die (20 R387): the proposal, who acknowledged it, and when it was sent. -/
structure Proposing where
  prop : Proposal
  acks : List Nat
  sentAt : Nat
  abandoned : Bool
  refused : Bool
  deriving DecidableEq, Repr

/-- What one die's CLE keeps of one group (20 R386, R387). -/
structure Member where
  grp : Nat
  view : Nat
  live : List Nat
  bound : Option (Proposal × Nat)
  proposing : Option Proposing
  deriving DecidableEq, Repr

/-- A compute die (01 R11, 19 R368 to R371, 20 R386, R390). -/
structure Die where
  stage : DieStage
  skeBox : List Nat
  cleBox : List Nat
  cmeBox : List Nat
  easelBox : Vector (List Msg) 4
  spt : List (Nat × BitVec 2048)
  records : List HealthRec
  seq : Nat
  heard : List (Nat × Nat)
  suspects : List Nat
  lastBeat : Nat
  members : List Member
  walks : List (Nat × Nat)
  scrubHours : Nat
  measure : List Byte
  stackEol : Nat
  deriving DecidableEq, Repr

/-- A die without power. -/
def Die.reset : Die where
  stage := .off
  skeBox := []
  cleBox := []
  cmeBox := []
  easelBox := .replicate 4 []
  spt := []
  records := []
  seq := 0
  heard := []
  suspects := []
  lastBeat := 0
  members := []
  walks := []
  scrubHours := 24
  measure := []
  stackEol := 65535

/-- A panel barrier (08 R173, R174). -/
structure Barrier where
  count : BitVec 16 := 0
  arrived : BitVec 16 := 0
  phase : BitVec 4 := 0
  merge : BitVec 6 := 0
  last : BitVec 6 := 0
  deriving DecidableEq, Repr

/-- Why a panel is being collected (17 R318). -/
inductive HoldFor where
  | host (rq : Req) | savep (core : Nat) (slot : Fin 8) | restp (core : Nat) (slot : Fin 8) | test | checkpoint
  deriving DecidableEq, Repr

/-- A collection in progress (17 R318, R322): engines still to acknowledge, the state it began in, and the commands that
were parked before it. -/
structure Collect where
  why : HoldFor
  waiting : List Engine
  startAt : Nat
  from_ : Nat
  before : List Nat
  deriving DecidableEq, Repr

/-- A launch in progress (17 R313): messages still unanswered and the count refused. -/
structure Launch where
  rq : Req
  left : Nat
  refused : Nat
  deriving DecidableEq, Repr

/-- A save or restore in progress (18 R347, R348). -/
structure Saving where
  restore : Bool
  va : Nat
  space : Nat
  length : Nat
  seq : Nat
  cursor : Nat
  issuer : Option (Nat × Fin 8)
  dst : Fin 32
  rq : Option Req
  cycle : Nat
  deriving DecidableEq, Repr

/-- A READ or WRITE in progress (19 R373): the 32-byte accesses made, and the bytes read. -/
structure Bulk where
  rq : Req
  write : Bool
  made : Nat := 0
  got : List Byte := []
  deriving DecidableEq, Repr

/-- A panel (17 R303 to R306). `state` is a code of Table 17-4; `hostHeld` says that it is in state 3 at the host's request
(20 R383), `aside` that a stopped save is held for a test or a checkpoint, with the commands parked before (20 R383, R396). -/
structure Panel where
  num : Nat
  x0 : Nat
  y0 : Nat
  w : Nat
  h : Nat
  pfloor : Nat
  state : Nat
  job : Nat
  bars : Vector Barrier 16
  barIdx : Fin 16
  savecur : Word
  testHold : Bool
  lineage : Nat
  image : Option Nat
  launch : Option Launch
  launches : List Req
  waiting : List Req
  collect : Option Collect
  hostHeld : Bool
  aside : Option (List Nat)
  bulk : Option Bulk
  parked : List Nat
  saving : Option Saving
  issuer : Option (Nat × Fin 8)
  ptbase : Word
  asid : BitVec 16
  gone : List Nat
  root : Nat
  tables : List Nat
  deriving DecidableEq, Repr

/-- A slice registered with its die's CLE (12 R260, R262): its context and handle; `joining` until its CJOIN completes,
`rejoining` until the rejoin commit, `leftFrom` the OPSEQ from which it is retired. -/
structure Join where
  slice : Nat
  core : Nat
  slot : Fin 8
  panel : Nat
  handle : Nat
  leftFrom : Option Nat := none
  joining : Bool := false
  rejoining : Bool := false
  rejoinAt : Nat := 0
  deriving DecidableEq, Repr

/-- A collective operation (12 R267, R271): the view it runs under once the leader has started it, the slices whose
partial the leader has combined, the leaves of slices on other packages, and whether it is recomputed over survivors. `born`
is the view of the group when the operation became known. -/
structure CollOp where
  opseq : Nat
  born : Nat := 0
  view : Nat := 0
  live : List Nat := []
  started : Bool := false
  arrived : List Nat := []
  away : List (Nat × Leaf) := []
  rw : Bool := false
  ended : Bool := false
  deriving DecidableEq, Repr

/-- A group (12 R258, R259). -/
structure Group where
  num : Nat
  desc : Nat
  job : Nat
  ptbase : Word
  asid : BitVec 16
  slices : Nat
  slice : List (Nat × Bool)
  view : Nat
  live : List Nat
  commitSeq : Nat
  joins : List Join
  ops : List CollOp
  joinsHeard : List Nat
  away : List Nat
  hold : Option Nat
  stuckAt : Option Nat
  told : Bool
  deriving DecidableEq, Repr

/-- What a packet brings to its endpoint (19 R358): a message to a core; one to an engine (03 R59); sectors of an engine command; one
part of a partial of a CLE command, the last of which carries it whole; the results of an operation for one member (12 R268); an
engine's write from another package, to a core of a panel; or sectors on their way for a panel when the command's own was killed (17
R310). -/
inductive Body where
  | message (m : Msg)
  | order (m : Msg) (e : Engine)
  | result (cmd : Nat) (last : Bool)
  | sectors (cmd : Nat) (ns : List Nat)
  | leaf (cmd : Nat) (grp : Nat) (part : Option Partial)
  | write (panel : Nat)
  | loose (panel : Nat) (secs : List Sector)
  deriving DecidableEq, Repr

/-- A packet on its way (19 R356, R358, R362): its body, the bytes of its data flits, and the flits its endpoint holds.
`fabric` is the fabric header of one that leaves the package (19 R366): the destination package and the source package. `route` is
the links of the last attempt, and `lost` the flits of each attempt that were sent void (19 R363). -/
structure Packet where
  id : Nat
  src : Nat
  dst : Nat
  psn : BitVec 16
  body : Body
  data : List Byte
  injected : Bool := false
  held : List Nat := []
  delivered : Bool := false
  attempts : Nat := 0
  sentAt : Nat
  firstAt : Nat
  path : Nat := 0
  route : List LinkId := []
  lost : List (Nat × Nat) := []
  fabric : Option (Nat × Nat) := none
  deriving DecidableEq, Repr

/-- A UCIe flit in a retry buffer (19 R361): its LSEQ, the packet flits that it carries and of which attempt, and whether the receiver
has accepted it, which the sender learns by an ACK. -/
structure Retry where
  lseq : BitVec 16
  pk : Nat
  attempt : Nat := 1
  flits : List Nat
  void : Bool := false
  accepted : Bool := false
  deriving DecidableEq, Repr

/-- A link direction (19 R361, 20 R380). -/
structure Link where
  score : Score := {}
  expect : BitVec 16 := 0
  send : BitVec 16 := 0
  retry : List Retry := []
  naks : List Nat := []
  retraining : Bool := false
  disabled : Bool := false
  trains : List Nat := []
  setting : Nat := 0
  endOfLife : Nat := 65535
  slow : Nat := 0
  deriving DecidableEq, Repr

/-- A pair of a population round (12 R279). -/
structure Pair where
  winner : Nat
  loser : Nat
  seed : BitVec 32
  fwin : BitVec 32
  flose : BitVec 32
  quiesced : Bool := false
  finished : Bool := false
  failed : Bool := false
  deriving DecidableEq, Repr

/-- A population round in progress (12 R279). -/
structure Round where
  cmd : Nat
  pairs : List Pair
  firstSeq : Nat
  unwritten : Nat := 0
  logged : Nat := 0
  deriving DecidableEq, Repr

/-- A routine image loaded into a panel (04 R95). -/
structure Image where
  handle : Nat
  panel : Nat
  img : RoutineImage
  deriving DecidableEq, Repr

/-- A reply or report sent (19 R372, R374): the job, and its 32-byte header's fields with the payload. -/
structure Reply where
  job : Nat
  op : Nat
  status : Nat
  tag : Nat
  panel : Nat
  arg0 : Word
  arg1 : Word
  payload : List Byte
  deriving DecidableEq, Repr

/-- A job's connection, at the Ultra Ethernet port of a die, and the reports kept for it (01 R10, 19 R372, R374). -/
structure Job where
  num : Nat
  port : Nat := 0
  open_ : Bool
  kept : List Reply
  deriving DecidableEq, Repr

/-- A saved core block (18 Table 18-12): scratch is filled in from memory at a restore. -/
structure SavedCore where
  scratch : List Host.Cell
  core : Core
  words : List (Nat × VWord)
  deriving DecidableEq, Repr, Inhabited

/-- The parts of an image whose layout is open (18 Tables 18-11 to 18-12a): of a context, a weight-buffer slot, a core's registers and
queues, its vector queues, its inbox, a versioned word, and a publish entry. -/
inductive ImagePart where
  | context | weights | registers | vectors | inbox | word | publish
  deriving DecidableEq, Repr

/-- A panel image in HBM or the second tier (18 R346), and what no part of it is named to hold; DESIGN CHOICE, assumption log 11. -/
structure Saved where
  va : Nat
  space : Nat
  pa : Nat
  format : Nat
  panel : Nat
  x0 : Nat
  y0 : Nat
  w : Nat
  h : Nat
  length : Nat
  cycle : Nat
  seq : Nat
  committed : Bool
  cores : List SavedCore
  bars : Vector Barrier 16
  clusters : List Cluster
  parked : List Cmd
  deriving DecidableEq, Repr

/-- A checkpoint in progress (20 R396). -/
structure Check where
  rq : Req
  seg : Nat
  seq : Nat
  cycle : Nat
  holding : List Nat
  mine : List Nat
  killed : List Nat
  timedOut : Bool
  failed : Bool
  deriving DecidableEq, Repr

/-- What the issuing context is issuing: the word at its pc, or the head of its replay queue (18 R335). -/
inductive Source where
  | pc | entry
  deriving DecidableEq, Repr

/-- An event of the machine's own agents that is due: the event row of the same name, as data of the agenda
(DESIGN CHOICE, assumption log 7). -/
inductive Due where
  | completionPost (c : CoreId) (k : Slot) | messageAdmit (c : CoreId) | commandEnqueue (c : CoreId) (k : Slot)
  | mwaitTimeout (c : CoreId) (k : Slot) | yieldExpire (c : CoreId) (k : Slot)
  | stealRequest (cl : ClusterId) | stealServe (thief victim : ClusterId) | donationAppend (cl : ClusterId)
  | engineCommandStart (e : Engine) | sectorWrite (cmd n : Nat) | pageWalk (cmd : Nat) | migrateComplete (cmd : Nat)
  | atelierRoundStart | pairQuiesced (i : Nat) | pairCopyDone (i : Nat)
  | cleOperationStart (grp : Nat) | clePartialReceive (die : Option (Fin 8)) (grp : Nat) (part : Partial)
  | proposalTimeout (die : Fin 8) (grp : Nat) | ackBindingExpire (die : Fin 8) (grp : Nat) | quorumTimeout (grp : Nat)
  | viewProposalReceive (die : Fin 8) (grp : Nat) (pr : Proposal) | viewAckReceive (die : Fin 8) (grp mem view : Nat)
  | viewRefusalReceive (die : Fin 8) (grp held view : Nat) | commitReceive (die : Fin 8) (grp : Nat) (pr : Proposal)
  | joinReceive (grp slice : Nat) | rejoinCommit (grp : Nat)
  | scoreHalving | targetedTestStart (o : ScoreObj) | testHoldTimeout (o : ScoreObj) | actfcstUpdate (c : CoreId) | clockChange (cl : ClusterId)
  | preemptAck (panel : Nat) (e : Engine) | preemptTimeout (panel : Nat)
  | saveComplete (panel : Nat) | saveStop (panel : Nat) (reason : BitVec 2) (cursor : BitVec 40)
  | restoreComplete (panel : Nat) | checkpointComplete | launchDone (panel : Nat)
  | packetInject (pk : Nat) | flitEject (pk fidx : Nat) | e2eAckReceive (pk : Nat) | e2eResendTimeout (pk : Nat)
  | transitDone (pk : Nat)
  | mapDone (va : Nat) (rq : Req) | ucieFlitReceive (l : LinkId) (lseq : BitVec 16) | linkAck (l : LinkId) | nakReceive (l : LinkId)
  | retrainComplete (l : LinkId) | circuitUp (idx : Fin 256) | circuitTornDown (idx : Fin 256)
  | heartbeatSend (die : Fin 8) | heartbeatReceive (die : Fin 8) (mem : Nat) | suspectTimeout (die : Fin 8) (mem : Nat)
  | heartbeatLossTimeout (die : Fin 8) | fatalReport (die : Fin 8) | imageReceive (die : Fin 8) | bulkAccess (panel : Nat)
  deriving DecidableEq, Repr

/-- What the fabric agents send to another package beside packets: an end-to-end acknowledgement of a packet of a source there (19 R362,
R366), or a message of the view protocol for one of its members (20 R386, R387). -/
inductive Abroad where
  | ack (src dst : Nat) (psn : BitVec 16)
  | note (e : Due)
  deriving DecidableEq, Repr

/-- A choice of the outside (log 7, log 8): which due event is taken (`pick`), the extra cycles that pass, a core whose
cached translations leave its TLBs (18 R355), a context whose MWAIT returns early (08 R178), an entry of the connection
table that the SRS writes for a fabric path (19 R364), virtual sectors that a command translates by the tables as they stand (18
R355), and sectors of a SEND's payload that are read late (11 R234). -/
structure Choice where
  pick : Nat
  delay : Nat
  forget : Option Nat := none
  early : Option (CoreId × Slot) := none
  circuit : Option (Fin 256 × BitVec 128) := none
  anew : Option (Nat × List Nat) := none
  late : Option (Nat × List Nat) := none
  deriving DecidableEq, Repr

/-- The whole package, and the model's own bookkeeping (log 3, 7, 8). -/
structure State where
  mem : List Host.Cell
  poison : List Nat
  cores : List (Nat × Core)
  clusters : List (Nat × Cluster)
  dies : Vector Die 8
  panels : List Panel
  cycle : Nat
  pkgid : BitVec 9
  pkgidSet : Bool
  power : Bool
  board : List Nat
  master : Option (Fin 8)
  linksUp : Bool
  srs : Bool
  portsOpen : Bool
  firmware : List Byte
  groups : List Group
  cmds : List Cmd
  packets : List Packet
  psns : List (Nat × BitVec 16)
  rxPsns : List (Nat × BitVec 16)
  links : List (LinkId × Link)
  circuits : List (Nat × BitVec 128)
  circuitAt : List (Nat × Nat)
  tiers : List (Nat × (Nat × Nat))
  portsDown : List Nat
  atelierBox : List Nat
  round : Option Round
  jobs : List Job
  replies : List Reply
  reports : List Reply
  abroad : List (Nat × Abroad)
  images : List Image
  saved : List Saved
  checkpoint : Option Check
  checkSeq : Nat
  photonic : List HealthRec
  photonicSeq : Nat
  lastHalf : Nat
  names : Nat
  -- the model's own
  actor : CoreId
  slot : Slot
  source : Source
  turn : Nat
  tick : Nat
  fresh : Nat
  choices : List Choice
  urgent : List Due
  ring : List (Nat × Due)
  agenda : List Due
  timers : List (Nat × Due)
  inputs : List Instr
  deriving DecidableEq, Repr

/-- The state right after package reset, before power-good (19 R369): nothing runs, and every register holds its reset
value, or a value of the model's (DESIGN CHOICE, assumption log 4). -/
def State.reset : State where
  mem := []
  poison := []
  cores := []
  clusters := []
  dies := .replicate 8 .reset
  panels := []
  cycle := 0
  pkgid := 0
  pkgidSet := false
  power := false
  board := []
  master := none
  linksUp := false
  srs := false
  portsOpen := false
  firmware := []
  groups := []
  cmds := []
  packets := []
  psns := []
  rxPsns := []
  links := []
  circuits := []
  circuitAt := []
  tiers := []
  portsDown := []
  atelierBox := []
  round := none
  jobs := []
  replies := []
  reports := []
  abroad := []
  images := []
  saved := []
  checkpoint := none
  checkSeq := 0
  photonic := []
  photonicSeq := 0
  lastHalf := 0
  names := 1
  actor := 0
  slot := 0
  source := .pc
  turn := 0
  tick := 0
  fresh := 0
  choices := []
  urgent := []
  ring := []
  agenda := []
  timers := []
  inputs := []

end Sys2Proof.Machine

namespace Sys2Proof.Config

/-- The layout of a part of an image of which the specification names the contents and the size alone: an order of its bits, by the part
(18 Tables 18-11 to 18-12a); DESIGN CHOICE, assumption log 11. -/
opaque imageLayout : Machine.ImagePart → (n : Nat) → Equiv.Perm (BitVec n)
/-- What no part of a core block is named to hold, of an image without a record, by the bytes of the block (18 R346); DESIGN CHOICE,
assumption log 11. -/
opaque openCore : List Host.Cell → Machine.SavedCore
/-- The 256 bytes of a parked command, whose layout is open (18 Table 18-12a); DESIGN CHOICE, assumption log 11. -/
opaque parkedBytes : Machine.Cmd → BitVec 2048
/-- The parked command that 256 bytes stand for, in an image without a record of it (18 Table 18-12a); DESIGN CHOICE, assumption log 11. -/
opaque openParked : BitVec 2048 → Machine.Cmd

end Sys2Proof.Config
end

