-- ==== Sys2Proof/Machine/Memory.lean ====
section
/-!
DEFINITION. Memory as a sorted list of non-zero bytes, and the sparse maps of cores and clusters. One key space holds the
storage of the package: scratch byte `offset` of core c at c × 2^19 + offset (02 R19), HBM byte PA at 2^40 + PA and second
tier byte PA at 2^40 + PA too (18 R350: PA from 0x4000_0000_0000). An unlisted byte reads 0 (DESIGN CHOICE, assumption log 5).
-/

namespace Sys2Proof.Machine

/-- What an unlisted address reads as (DESIGN CHOICE, assumption log 5). -/
def Memory.blank : Byte := 0

/-- The canonical form: keys strictly rising, and no entry equal to `Memory.blank`. -/
def Memory.wf : List Host.Cell → Bool
  | [] => true
  | [c] => c.2 != Memory.blank
  | c :: d :: rest => decide (c.1 < d.1) && c.2 != Memory.blank && Memory.wf (d :: rest)

/-- The byte at a key. -/
def Memory.get : List Host.Cell → Nat → Byte
  | [], _ => Memory.blank
  | c :: rest, k => if c.1 = k then c.2 else Memory.get rest k

/-- Prepends a cell unless it reads as a blank one. -/
def Memory.cons (k : Nat) (b : Byte) (rest : List Host.Cell) : List Host.Cell :=
  if b = Memory.blank then rest else (k, b) :: rest

/-- Writes one byte and keeps the canonical form. -/
def Memory.set : List Host.Cell → Nat → Byte → List Host.Cell
  | [], k, b => Memory.cons k b []
  | c :: rest, k, b =>
    if c.1 < k then c :: Memory.set rest k b
    else if c.1 = k then Memory.cons k b rest
    else Memory.cons k b (c :: rest)

/-- The little-endian number in `n` bytes from a key (00 R4). -/
def Memory.read (m : List Host.Cell) (k : Nat) : Nat → Nat
  | 0 => 0
  | n + 1 => (Memory.get m k).toNat + 256 * Memory.read m (k + 1) n

/-- Writes `n` little-endian bytes of a number from a key (00 R4). -/
def Memory.write (m : List Host.Cell) (k : Nat) : Nat → Nat → List Host.Cell
  | 0, _ => m
  | n + 1, v => Memory.write (Memory.set m k (BitVec.ofNat 8 v)) (k + 1) n (v / 256)

/-- The bytes from a key. -/
def Memory.bytes (m : List Host.Cell) (k n : Nat) : List Byte :=
  (List.range n).map (fun i => Memory.get m (k + i))

/-- Writes a list of bytes from a key. -/
def Memory.put (m : List Host.Cell) (k : Nat) : List Byte → List Host.Cell
  | [] => m
  | b :: rest => Memory.put (Memory.set m k b) (k + 1) rest

/-- Zeroes the bytes of [lo, hi). -/
def Memory.clear (m : List Host.Cell) (lo hi : Nat) : List Host.Cell :=
  m.filter (fun c => !(decide (lo ≤ c.1) && decide (c.1 < hi)))

/-- The little-endian number of a list of bytes. -/
def numOf : List Byte → Nat
  | [] => 0
  | b :: rest => b.toNat + 256 * numOf rest

/-- `n` little-endian bytes of a number. -/
def bytesOf : Nat → Nat → List Byte
  | 0, _ => []
  | n + 1, v => BitVec.ofNat 8 v :: bytesOf n (v / 256)

/-- The value a sparse map holds for a key. -/
def SMap.get {α : Type} (m : List (Nat × α)) (d : α) (k : Nat) : α :=
  match m with
  | [] => d
  | e :: rest => if e.1 = k then e.2 else SMap.get rest d k

/-- Sets the value of a key, keys rising. -/
def SMap.set {α : Type} (m : List (Nat × α)) (k : Nat) (v : α) : List (Nat × α) :=
  match m with
  | [] => [(k, v)]
  | e :: rest => if e.1 < k then e :: SMap.set rest k v else if e.1 = k then (k, v) :: rest else (k, v) :: e :: rest

/-- Where HBM and the second tier stand in the key space. -/
def deviceBase : Nat := 2 ^ 40

/-- The first key of a core's region. -/
def regionBase (c : Nat) : Nat := c * 2 ^ 19

/-- Core `c`. -/
def State.core (s : State) (c : Nat) : Core := SMap.get s.cores .reset c
/-- Replaces core `c`. -/
def State.setCore (s : State) (c : Nat) (k : Core) : State := { s with cores := SMap.set s.cores c k }
/-- Context `k` of core `c`. -/
def State.ctx (s : State) (c : Nat) (k : Fin 8) : Ctx := (s.core c).ctxs[k]
/-- Replaces context `k` of core `c`. -/
def State.setCtx (s : State) (c : Nat) (k : Fin 8) (x : Ctx) : State :=
  s.setCore c { s.core c with ctxs := (s.core c).ctxs.set k x }
/-- Cluster `c` of the package: core / 64. -/
def State.cluster (s : State) (c : Nat) : Cluster := SMap.get s.clusters .reset c
/-- Replaces cluster `c`. -/
def State.setCluster (s : State) (c : Nat) (k : Cluster) : State := { s with clusters := SMap.set s.clusters c k }
/-- Die `d`. -/
def State.die (s : State) (d : Nat) : Die := s.dies[Fin.ofNat 8 d]
/-- Replaces die `d`. -/
def State.setDie (s : State) (d : Nat) (x : Die) : State := { s with dies := s.dies.set (Fin.ofNat 8 d) x }

/-- The issuing context's core, as a number. -/
def State.at_ (s : State) : Nat := s.actor.val
/-- The issuing context. -/
def State.me (s : State) : Ctx := s.ctx s.actor.val s.slot
/-- Replaces the issuing context. -/
def State.setMe (s : State) (x : Ctx) : State := s.setCtx s.actor.val s.slot x
/-- The issuing core. -/
def State.mine (s : State) : Core := s.core s.actor.val
/-- Replaces the issuing core. -/
def State.setMine (s : State) (x : Core) : State := s.setCore s.actor.val x
/-- The issuing context's cluster. -/
def State.clus (s : State) : Nat := s.actor.val / 64
/-- The issuing context's die. -/
def State.dieOf (s : State) : Nat := s.actor.val / 1024

/-- The package coordinates of a core (01 R12, 02 R17). -/
def coreX (c : Nat) : Nat :=
  let k := c % 64
  k % 2 + 2 * (k / 4 % 2) + 4 * (k / 16 % 2) + 8 * (c / 64 % 4) + 32 * (c / 1024 % 4)
@[inherit_doc coreX]
def coreY (c : Nat) : Nat :=
  let k := c % 64
  k / 2 % 2 + 2 * (k / 8 % 2) + 4 * (k / 32 % 2) + 8 * (c / 64 % 16 / 4) + 32 * (c / 4096)

/-- The core at package coordinates. -/
def coreAt (x y : Nat) : Nat :=
  4096 * (y / 32) + 1024 * (x / 32) + 64 * (4 * (y % 32 / 8) + x % 32 / 8) +
    (x % 2 + 2 * (y % 2) + 4 * (x / 2 % 2) + 8 * (y / 2 % 2) + 16 * (x / 4 % 2) + 32 * (y / 4 % 2))

/-- Whether a core lies in a panel's rectangle (17 R303). -/
def Panel.has (p : Panel) (c : Nat) : Bool :=
  decide (p.x0 ≤ coreX c) && decide (coreX c < p.x0 + p.w) && decide (p.y0 ≤ coreY c) && decide (coreY c < p.y0 + p.h)

/-- Whether a panel occupies its rectangle (17 R304). -/
def Panel.occupies (p : Panel) : Bool := p.state == 1 || p.state == 2 || p.state == 3 || p.state == 4 || p.state == 6 || p.state == 7

/-- Whether a panel is resident (17 Table 17-4). -/
def Panel.resident (p : Panel) : Bool := p.state == 2 || p.state == 3 || p.state == 7

/-- The cores of a rectangle, row by row. -/
def Panel.cores (p : Panel) : List Nat :=
  (List.range p.h).flatMap (fun j => (List.range p.w).map (fun i => coreAt (p.x0 + i) (p.y0 + j)))

/-- The panel that occupies a core. -/
def State.panelAt (s : State) (c : Nat) : Option Panel := s.panels.find? (fun p => p.occupies && p.has c)

/-- A panel by number. -/
def State.panel (s : State) (n : Nat) : Option Panel := s.panels.find? (fun p => p.num == n)

/-- Replaces the panel of the same number. -/
def State.setPanel (s : State) (p : Panel) : State :=
  { s with panels := s.panels.map (fun q => if q.num = p.num then p else q) }

/-- The issuing context's panel (02 R21). -/
def State.myPanel (s : State) : Option Panel := s.panelAt s.actor.val

/-- Whether a core lies in the issuing context's panel. -/
def State.inPanel (s : State) (c : Nat) : Bool :=
  match s.myPanel with
  | some p => p.has c
  | none => false

/-- Whether a die serves (19 R369, 20 R385). -/
def State.dieLive (s : State) (d : Nat) : Bool := (s.die d).stage == .live

/-- Whether a core is down (17 R307): its die is not live, its cluster is retired, or its panel lost the die and never
regains it (20 R385). -/
def State.coreDown (s : State) (c : Nat) : Bool :=
  !s.dieLive (c / 1024) || (s.cluster (c / 64)).retired ||
    (match s.panelAt c with | some p => p.gone.contains (c / 1024) | none => false)

/-- The buffer an access reaches through the publish table (11 R254): front and back exchange while GEN is odd. -/
def Pub.swap (p : Pub) (csa : Nat) : Option Nat :=
  if p.front ≤ csa && csa < p.front + 64 * p.len then
    some (if p.gen.getLsbD 0 then csa - p.front + p.back else csa)
  else if p.back ≤ csa && csa < p.back + 64 * p.len then
    some (if p.gen.getLsbD 0 then csa - p.back + p.front else csa)
  else none

/-- The byte of cluster scratch that a cluster scratch address reaches now. -/
def Cluster.phys (cl : Cluster) (csa : Nat) : Nat :=
  match cl.pub.toList.findSome? (fun e => e.bind (fun p => p.swap csa)) with
  | some k => k
  | none => csa

/-- The key of the byte that a scratch key reaches now. -/
def State.phys (s : State) (key : Nat) : Nat := key / 2 ^ 25 * 2 ^ 25 + (s.cluster (key / 2 ^ 25)).phys (key % 2 ^ 25)

/-- The number in `n` bytes of scratch within one 64-byte line. -/
def State.load (s : State) (key n : Nat) : Nat := Memory.read s.mem (s.phys key) n

/-- The byte at a scratch key as an access sees it. -/
def State.byte (s : State) (key : Nat) : Byte := Memory.get s.mem (s.phys key)

/-- The bytes of scratch from a key. -/
def State.bytes (s : State) (key n : Nat) : List Byte := (List.range n).map (fun i => s.byte (key + i))

/-- The agent of a write: a context, or an engine or the SRS. -/
abbrev Who := Option (Nat × Fin 8)

/-- Whether a context's monitor is armed on one of the lines of a write by another agent (08 R176). -/
def Ctx.sees (x : Ctx) (lines : List Nat) : Bool :=
  match x.mon with
  | some m => lines.contains m.line && !m.wrote
  | none => false

/-- Records reason 1 at a context (08 R176). -/
def Ctx.noteWrite (x : Ctx) : Ctx := { x with mon := x.mon.map (fun m => { m with wrote := true }) }

/-- Records a write at a core's monitors. -/
def Core.note (k : Core) (c : Nat) (who : Who) (lines : List Nat) : Core :=
  { k with ctxs := k.ctxs.mapIdx (fun i x =>
      if x.sees lines && who != some (c, Fin.ofNat 8 i) then x.noteWrite else x) }

/-- Records a write to lines of scratch at every monitor armed on them, but the writer's own (08 R176). -/
def State.note (s : State) (who : Who) (lines : List Nat) : State :=
  if s.cores.any (fun e => e.2.ctxs.toList.any (fun x => x.sees lines)) then
    { s with cores := s.cores.map (fun e => (e.1, e.2.note e.1 who lines)) }
  else s

/-- Writes `n` bytes of scratch within one 64-byte line. A location is an address (13 R283): a monitor sees a write at the
line it was armed on, whichever buffer the publish table puts there. -/
def State.store (s : State) (who : Who) (key n v : Nat) : State :=
  { s with mem := Memory.write s.mem (s.phys key) n v }.note who [key / 64]

/-- Puts bytes into memory from a key, each through the publish table. -/
def State.putMem (s : State) (key : Nat) : List Byte → List Host.Cell → List Host.Cell
  | [], m => m
  | b :: rest, m => State.putMem s (key + 1) rest (Memory.set m (s.phys key) b)

/-- Writes bytes of scratch from a key. -/
def State.putBytes (s : State) (who : Who) (key : Nat) (bs : List Byte) : State :=
  { s with mem := s.putMem key bs s.mem }.note who ((List.range bs.length).map (fun i => (key + i) / 64))

end Sys2Proof.Machine
end

