-- ==== Sys2Proof/WellFormed.lean ====
section
/-!
DEFINITION. When an instruction's fields are legal values (05 R103, Table 05-3, Table 05-4): the checks on sub-fields
that the field types do not already make.
-/

namespace Sys2Proof

/-- Every sub-field of Table 05-3 and Table 05-4 holds a legal value. An event is well formed as its types stand. -/
def Instr.wf : Instr → Bool
  | .sext sz _ _ => decide (sz.toNat ≠ 3)
  | .zext sz _ _ => decide (sz.toNat ≠ 3)
  | .ldb _ sc _ _ _ => decide (sc.toNat < 5)
  | .ldbu _ sc _ _ _ => decide (sc.toNat < 5)
  | .ldh _ sc _ _ _ => decide (sc.toNat < 5)
  | .ldhu _ sc _ _ _ => decide (sc.toNat < 5)
  | .ldw _ sc _ _ _ => decide (sc.toNat < 5)
  | .ldwu _ sc _ _ _ => decide (sc.toNat < 5)
  | .ldd _ sc _ _ _ => decide (sc.toNat < 5)
  | .stb _ sc _ _ _ => decide (sc.toNat < 5)
  | .sth _ sc _ _ _ => decide (sc.toNat < 5)
  | .stw _ sc _ _ _ => decide (sc.toNat < 5)
  | .std _ sc _ _ _ => decide (sc.toNat < 5)
  | .amoadd _ ord _ _ _ _ => decide (ord.toNat ≠ 3)
  | .amoand _ ord _ _ _ _ => decide (ord.toNat ≠ 3)
  | .amoor _ ord _ _ _ _ => decide (ord.toNat ≠ 3)
  | .amoxor _ ord _ _ _ _ => decide (ord.toNat ≠ 3)
  | .amomin _ ord _ _ _ _ => decide (ord.toNat ≠ 3)
  | .amomax _ ord _ _ _ _ => decide (ord.toNat ≠ 3)
  | .amominu _ ord _ _ _ _ => decide (ord.toNat ≠ 3)
  | .amomaxu _ ord _ _ _ _ => decide (ord.toNat ≠ 3)
  | .amoswp _ ord _ _ _ _ => decide (ord.toNat ≠ 3)
  | .amocas _ ord _ _ _ _ => decide (ord.toNat ≠ 3)
  | .amofadd _ ord _ _ _ _ => decide (ord.toNat ≠ 3)
  | .mma _ _ k _ _ _ => decide (k.toNat ≠ 3)
  | .mchk k _ _ _ => decide (k.toNat ≠ 3)
  | .vadd e _ _ _ _ => decide (e.toNat < 12)
  | .vsub e _ _ _ _ => decide (e.toNat < 12)
  | .vmul e _ _ _ _ => decide (e.toNat < 12)
  | .vfma e _ _ _ _ => decide (e.toNat < 12)
  | .vmin e _ _ _ _ => decide (e.toNat < 12)
  | .vmax e _ _ _ _ => decide (e.toNat < 12)
  | .vabs e _ _ _ => decide (e.toNat < 12)
  | .vneg e _ _ _ => decide (e.toNat < 12)
  | .vdiv e _ _ _ _ => decide (e.toNat < 12)
  | .vsqrt e _ _ _ => decide (e.toNat < 12)
  | .vrsqrt e _ _ _ => decide (e.toNat < 12)
  | .vrcp e _ _ _ => decide (e.toNat < 12)
  | .vexp2 e _ _ _ => decide (e.toNat < 12)
  | .vlog2 e _ _ _ => decide (e.toNat < 12)
  | .vand e _ _ _ _ => decide (e.toNat < 12)
  | .vor e _ _ _ _ => decide (e.toNat < 12)
  | .vxor e _ _ _ _ => decide (e.toNat < 12)
  | .vshl e _ _ _ _ => decide (e.toNat < 12)
  | .vshr e _ _ _ _ => decide (e.toNat < 12)
  | .vsel e _ _ _ _ => decide (e.toNat < 12)
  | .vcmpeq e _ _ _ _ => decide (e.toNat < 12)
  | .vcmplt e _ _ _ _ => decide (e.toNat < 12)
  | .vcmple e _ _ _ _ => decide (e.toNat < 12)
  | .vcvt e _ _ _ _ => decide (e.toNat < 12)
  | .vaddw e _ _ _ _ => decide (e.toNat < 12)
  | .vmacw e _ _ _ _ => decide (e.toNat < 12)
  | .vnarrow e _ _ _ _ => decide (e.toNat < 12)
  | .vadds e _ _ _ _ => decide (e.toNat < 12)
  | .vclamp e _ _ _ _ => decide (e.toNat < 12)
  | .vscan e _ _ _ _ => decide (e.toNat < 12)
  | .vredsum e _ _ _ => decide (e.toNat < 12)
  | .vredmax e _ _ _ => decide (e.toNat < 12)
  | .vredmin e _ _ _ => decide (e.toNat < 12)
  | .vperm e _ _ _ _ => decide (e.toNat < 12)
  | .vbcast e _ _ _ => decide (e.toNat < 12)
  | .vins e _ _ _ _ => decide (e.toNat < 12)
  | .vext e _ _ _ => decide (e.toNat < 12)
  | .vzero e _ _ => decide (e.toNat < 12)
  | .vmov e _ _ _ => decide (e.toNat < 12)
  | .viota e _ _ _ => decide (e.toNat < 12)
  | .vld e _ _ _ _ => decide (e.toNat < 12)
  | .vst e _ _ _ _ => decide (e.toNat < 12)
  | .vlds e _ _ _ _ => decide (e.toNat < 12)
  | .vsts e _ _ _ _ => decide (e.toNat < 12)
  | .vgath e _ _ _ _ => decide (e.toNat < 12)
  | .vscat e _ _ _ _ => decide (e.toNat < 12)
  | .vwmax e n _ a _ => decide (e.toNat < 12 ∧ a.val + n.toNat < 16)
  | .vwmin e n _ a _ => decide (e.toNat < 12 ∧ a.val + n.toNat < 16)
  | .vwmed e n _ a _ => decide (e.toNat < 12 ∧ a.val + n.toNat < 16)
  | .vwclamp e n _ a _ => decide (e.toNat < 12 ∧ a.val + n.toNat < 16)
  | .vwssum e n _ a _ => decide (e.toNat < 12 ∧ a.val + n.toNat < 16)
  | .vadj e n _ kd _ => decide (e.toNat < 12 ∧ kd.toNat + n.toNat < 16)
  | .cadj mw _ _ _ => decide (mw.val ≠ 31)
  | .cRep m _ => decide (m.toNat ≠ 0)
  | _ => true

end Sys2Proof
end

