-- ==== Sys2Proof/Decode.lean ====
section
/-!
DEFINITION. The decoder of 05_opcode_map.md (R98 to R105), total on any bytes, rejecting by name, and after it the
encoder, written from the same tables. Events of the opcode table have no encoding.
The privilege check of R98 is made where an instruction runs (R104): decoding depends on the bits alone (R99).
-/

namespace Sys2Proof

/-- The step of R98 at which an encoding fails; every one of them raises ILLEGAL. -/
inductive Reject where
  | short          -- fewer bytes than the instruction needs
  | compactOp      -- COP 0 or 21 to 31 (R105)
  | compactField   -- a field breaks Table 05-4
  | major          -- unassigned major (Table 05-1)
  | selector       -- unassigned selector (Table 05-2)
  | subfield       -- a sub-field breaks Table 05-3
  | reserved       -- a reserved field is not zero (R102)
  deriving DecidableEq, Repr

/-- The instruction, or the named rejection when the condition fails. -/
def need (c : Prop) [Decidable c] (r : Reject) (i : Except Reject Instr) : Except Reject Instr :=
  if c then i else .error r

/-- Major 0x01, INT (05 Table 05-2). -/
def decInt (w : Nat) : Except Reject Instr :=
  match fld w 22 5 with
  | 0 => need (fld w 28 4 = 0) .reserved (.ok (.add (bitOf w 27) (Fin.ofNat 32 (fld w 17 5)) (Fin.ofNat 32 (fld w 12 5)) (Fin.ofNat 32 (fld w 7 5))))
  | 1 => need (fld w 28 4 = 0) .reserved (.ok (.sub (bitOf w 27) (Fin.ofNat 32 (fld w 17 5)) (Fin.ofNat 32 (fld w 12 5)) (Fin.ofNat 32 (fld w 7 5))))
  | 2 => need (fld w 28 4 = 0) .reserved (.ok (.and (bitOf w 27) (Fin.ofNat 32 (fld w 17 5)) (Fin.ofNat 32 (fld w 12 5)) (Fin.ofNat 32 (fld w 7 5))))
  | 3 => need (fld w 28 4 = 0) .reserved (.ok (.or (bitOf w 27) (Fin.ofNat 32 (fld w 17 5)) (Fin.ofNat 32 (fld w 12 5)) (Fin.ofNat 32 (fld w 7 5))))
  | 4 => need (fld w 28 4 = 0) .reserved (.ok (.xor (bitOf w 27) (Fin.ofNat 32 (fld w 17 5)) (Fin.ofNat 32 (fld w 12 5)) (Fin.ofNat 32 (fld w 7 5))))
  | 5 => need (fld w 28 4 = 0) .reserved (.ok (.andn (bitOf w 27) (Fin.ofNat 32 (fld w 17 5)) (Fin.ofNat 32 (fld w 12 5)) (Fin.ofNat 32 (fld w 7 5))))
  | 6 => need (fld w 28 4 = 0) .reserved (.ok (.sll (bitOf w 27) (Fin.ofNat 32 (fld w 17 5)) (Fin.ofNat 32 (fld w 12 5)) (Fin.ofNat 32 (fld w 7 5))))
  | 7 => need (fld w 28 4 = 0) .reserved (.ok (.srl (bitOf w 27) (Fin.ofNat 32 (fld w 17 5)) (Fin.ofNat 32 (fld w 12 5)) (Fin.ofNat 32 (fld w 7 5))))
  | 8 => need (fld w 28 4 = 0) .reserved (.ok (.sra (bitOf w 27) (Fin.ofNat 32 (fld w 17 5)) (Fin.ofNat 32 (fld w 12 5)) (Fin.ofNat 32 (fld w 7 5))))
  | 9 => need (fld w 28 4 = 0) .reserved (.ok (.rol (bitOf w 27) (Fin.ofNat 32 (fld w 17 5)) (Fin.ofNat 32 (fld w 12 5)) (Fin.ofNat 32 (fld w 7 5))))
  | 10 => need (fld w 28 4 = 0) .reserved (.ok (.mul (bitOf w 27) (Fin.ofNat 32 (fld w 17 5)) (Fin.ofNat 32 (fld w 12 5)) (Fin.ofNat 32 (fld w 7 5))))
  | 11 => need (fld w 28 4 = 0) .reserved (.ok (.mulh (bitOf w 27) (Fin.ofNat 32 (fld w 17 5)) (Fin.ofNat 32 (fld w 12 5)) (Fin.ofNat 32 (fld w 7 5))))
  | 12 => need (fld w 28 4 = 0) .reserved (.ok (.mulhu (bitOf w 27) (Fin.ofNat 32 (fld w 17 5)) (Fin.ofNat 32 (fld w 12 5)) (Fin.ofNat 32 (fld w 7 5))))
  | 13 => need (fld w 28 4 = 0) .reserved (.ok (.div (bitOf w 27) (Fin.ofNat 32 (fld w 17 5)) (Fin.ofNat 32 (fld w 12 5)) (Fin.ofNat 32 (fld w 7 5))))
  | 14 => need (fld w 28 4 = 0) .reserved (.ok (.divu (bitOf w 27) (Fin.ofNat 32 (fld w 17 5)) (Fin.ofNat 32 (fld w 12 5)) (Fin.ofNat 32 (fld w 7 5))))
  | 15 => need (fld w 28 4 = 0) .reserved (.ok (.rem (bitOf w 27) (Fin.ofNat 32 (fld w 17 5)) (Fin.ofNat 32 (fld w 12 5)) (Fin.ofNat 32 (fld w 7 5))))
  | 16 => need (fld w 28 4 = 0) .reserved (.ok (.remu (bitOf w 27) (Fin.ofNat 32 (fld w 17 5)) (Fin.ofNat 32 (fld w 12 5)) (Fin.ofNat 32 (fld w 7 5))))
  | 17 => need (fld w 28 4 = 0) .reserved (.ok (.min (bitOf w 27) (Fin.ofNat 32 (fld w 17 5)) (Fin.ofNat 32 (fld w 12 5)) (Fin.ofNat 32 (fld w 7 5))))
  | 18 => need (fld w 28 4 = 0) .reserved (.ok (.max (bitOf w 27) (Fin.ofNat 32 (fld w 17 5)) (Fin.ofNat 32 (fld w 12 5)) (Fin.ofNat 32 (fld w 7 5))))
  | 19 => need (fld w 28 4 = 0) .reserved (.ok (.minu (bitOf w 27) (Fin.ofNat 32 (fld w 17 5)) (Fin.ofNat 32 (fld w 12 5)) (Fin.ofNat 32 (fld w 7 5))))
  | 20 => need (fld w 28 4 = 0) .reserved (.ok (.maxu (bitOf w 27) (Fin.ofNat 32 (fld w 17 5)) (Fin.ofNat 32 (fld w 12 5)) (Fin.ofNat 32 (fld w 7 5))))
  | 21 => need (fld w 28 4 = 0) .reserved (.ok (.slt (bitOf w 27) (Fin.ofNat 32 (fld w 17 5)) (Fin.ofNat 32 (fld w 12 5)) (Fin.ofNat 32 (fld w 7 5))))
  | 22 => need (fld w 28 4 = 0) .reserved (.ok (.sltu (bitOf w 27) (Fin.ofNat 32 (fld w 17 5)) (Fin.ofNat 32 (fld w 12 5)) (Fin.ofNat 32 (fld w 7 5))))
  | 23 => need (fld w 17 5 = 0 ∧ fld w 28 4 = 0) .reserved (.ok (.clz (bitOf w 27) (Fin.ofNat 32 (fld w 12 5)) (Fin.ofNat 32 (fld w 7 5))))
  | 24 => need (fld w 17 5 = 0 ∧ fld w 28 4 = 0) .reserved (.ok (.ctz (bitOf w 27) (Fin.ofNat 32 (fld w 12 5)) (Fin.ofNat 32 (fld w 7 5))))
  | 25 => need (fld w 17 5 = 0 ∧ fld w 28 4 = 0) .reserved (.ok (.popc (bitOf w 27) (Fin.ofNat 32 (fld w 12 5)) (Fin.ofNat 32 (fld w 7 5))))
  | 26 => need (fld w 17 2 ≠ 3) .subfield (need (fld w 19 3 = 0 ∧ fld w 27 5 = 0) .reserved (.ok (.sext (BitVec.ofNat 2 (fld w 17 2)) (Fin.ofNat 32 (fld w 12 5)) (Fin.ofNat 32 (fld w 7 5)))))
  | 27 => need (fld w 17 2 ≠ 3) .subfield (need (fld w 19 3 = 0 ∧ fld w 27 5 = 0) .reserved (.ok (.zext (BitVec.ofNat 2 (fld w 17 2)) (Fin.ofNat 32 (fld w 12 5)) (Fin.ofNat 32 (fld w 7 5)))))
  | _ => .error .selector

/-- Major 0x02, ADDI (05 Table 05-2). -/
def decAddi (w : Nat) : Except Reject Instr := .ok (.addi (BitVec.ofNat 15 (fld w 17 15)) (Fin.ofNat 32 (fld w 12 5)) (Fin.ofNat 32 (fld w 7 5)))

/-- Major 0x03, ANDI (05 Table 05-2). -/
def decAndi (w : Nat) : Except Reject Instr := .ok (.andi (BitVec.ofNat 15 (fld w 17 15)) (Fin.ofNat 32 (fld w 12 5)) (Fin.ofNat 32 (fld w 7 5)))

/-- Major 0x04, ORI (05 Table 05-2). -/
def decOri (w : Nat) : Except Reject Instr := .ok (.ori (BitVec.ofNat 15 (fld w 17 15)) (Fin.ofNat 32 (fld w 12 5)) (Fin.ofNat 32 (fld w 7 5)))

/-- Major 0x05, XORI (05 Table 05-2). -/
def decXori (w : Nat) : Except Reject Instr := .ok (.xori (BitVec.ofNat 15 (fld w 17 15)) (Fin.ofNat 32 (fld w 12 5)) (Fin.ofNat 32 (fld w 7 5)))

/-- Major 0x06, SLTI (05 Table 05-2). -/
def decSlti (w : Nat) : Except Reject Instr := .ok (.slti (BitVec.ofNat 15 (fld w 17 15)) (Fin.ofNat 32 (fld w 12 5)) (Fin.ofNat 32 (fld w 7 5)))

/-- Major 0x07, SLTIU (05 Table 05-2). -/
def decSltiu (w : Nat) : Except Reject Instr := .ok (.sltiu (BitVec.ofNat 15 (fld w 17 15)) (Fin.ofNat 32 (fld w 12 5)) (Fin.ofNat 32 (fld w 7 5)))

/-- Major 0x08, SHI (05 Table 05-2). -/
def decShi (w : Nat) : Except Reject Instr :=
  match fld w 23 2 with
  | 0 => need (fld w 26 6 = 0) .reserved (.ok (.slli (bitOf w 25) (BitVec.ofNat 6 (fld w 17 6)) (Fin.ofNat 32 (fld w 12 5)) (Fin.ofNat 32 (fld w 7 5))))
  | 1 => need (fld w 26 6 = 0) .reserved (.ok (.srli (bitOf w 25) (BitVec.ofNat 6 (fld w 17 6)) (Fin.ofNat 32 (fld w 12 5)) (Fin.ofNat 32 (fld w 7 5))))
  | 2 => need (fld w 26 6 = 0) .reserved (.ok (.srai (bitOf w 25) (BitVec.ofNat 6 (fld w 17 6)) (Fin.ofNat 32 (fld w 12 5)) (Fin.ofNat 32 (fld w 7 5))))
  | _ => .error .selector

/-- Major 0x09, LUI (05 Table 05-2). -/
def decLui (w : Nat) : Except Reject Instr := .ok (.lui (BitVec.ofNat 20 (fld w 12 20)) (Fin.ofNat 32 (fld w 7 5)))

/-- Major 0x0A, AUIPC (05 Table 05-2). -/
def decAuipc (w : Nat) : Except Reject Instr := .ok (.auipc (BitVec.ofNat 20 (fld w 12 20)) (Fin.ofNat 32 (fld w 7 5)))

/-- Major 0x0B, BR (05 Table 05-2). -/
def decBr (w : Nat) : Except Reject Instr :=
  match fld w 17 3 with
  | 0 => .ok (.beq (BitVec.ofNat 12 (fld w 20 12)) (Fin.ofNat 32 (fld w 12 5)) (Fin.ofNat 32 (fld w 7 5)))
  | 1 => .ok (.bne (BitVec.ofNat 12 (fld w 20 12)) (Fin.ofNat 32 (fld w 12 5)) (Fin.ofNat 32 (fld w 7 5)))
  | 2 => .ok (.blt (BitVec.ofNat 12 (fld w 20 12)) (Fin.ofNat 32 (fld w 12 5)) (Fin.ofNat 32 (fld w 7 5)))
  | 3 => .ok (.bge (BitVec.ofNat 12 (fld w 20 12)) (Fin.ofNat 32 (fld w 12 5)) (Fin.ofNat 32 (fld w 7 5)))
  | 4 => .ok (.bltu (BitVec.ofNat 12 (fld w 20 12)) (Fin.ofNat 32 (fld w 12 5)) (Fin.ofNat 32 (fld w 7 5)))
  | 5 => .ok (.bgeu (BitVec.ofNat 12 (fld w 20 12)) (Fin.ofNat 32 (fld w 12 5)) (Fin.ofNat 32 (fld w 7 5)))
  | _ => .error .selector

/-- Major 0x0C, JAL (05 Table 05-2). -/
def decJal (w : Nat) : Except Reject Instr := .ok (.jal (BitVec.ofNat 20 (fld w 12 20)) (Fin.ofNat 32 (fld w 7 5)))

/-- Major 0x0D, JALR (05 Table 05-2). -/
def decJalr (w : Nat) : Except Reject Instr := .ok (.jalr (BitVec.ofNat 15 (fld w 17 15)) (Fin.ofNat 32 (fld w 12 5)) (Fin.ofNat 32 (fld w 7 5)))

/-- Major 0x0E, LD (05 Table 05-2). -/
def decLd (w : Nat) : Except Reject Instr :=
  match fld w 17 3 with
  | 0 => need (fld w 22 3 < 5) .subfield (need (fld w 21 1 = 0) .reserved (.ok (.ldb (BitVec.ofNat 7 (fld w 25 7)) (BitVec.ofNat 3 (fld w 22 3)) (bitOf w 20) (Fin.ofNat 32 (fld w 12 5)) (Fin.ofNat 32 (fld w 7 5)))))
  | 4 => need (fld w 22 3 < 5) .subfield (need (fld w 21 1 = 0) .reserved (.ok (.ldbu (BitVec.ofNat 7 (fld w 25 7)) (BitVec.ofNat 3 (fld w 22 3)) (bitOf w 20) (Fin.ofNat 32 (fld w 12 5)) (Fin.ofNat 32 (fld w 7 5)))))
  | 1 => need (fld w 22 3 < 5) .subfield (need (fld w 21 1 = 0) .reserved (.ok (.ldh (BitVec.ofNat 7 (fld w 25 7)) (BitVec.ofNat 3 (fld w 22 3)) (bitOf w 20) (Fin.ofNat 32 (fld w 12 5)) (Fin.ofNat 32 (fld w 7 5)))))
  | 5 => need (fld w 22 3 < 5) .subfield (need (fld w 21 1 = 0) .reserved (.ok (.ldhu (BitVec.ofNat 7 (fld w 25 7)) (BitVec.ofNat 3 (fld w 22 3)) (bitOf w 20) (Fin.ofNat 32 (fld w 12 5)) (Fin.ofNat 32 (fld w 7 5)))))
  | 2 => need (fld w 22 3 < 5) .subfield (need (fld w 21 1 = 0) .reserved (.ok (.ldw (BitVec.ofNat 7 (fld w 25 7)) (BitVec.ofNat 3 (fld w 22 3)) (bitOf w 20) (Fin.ofNat 32 (fld w 12 5)) (Fin.ofNat 32 (fld w 7 5)))))
  | 6 => need (fld w 22 3 < 5) .subfield (need (fld w 21 1 = 0) .reserved (.ok (.ldwu (BitVec.ofNat 7 (fld w 25 7)) (BitVec.ofNat 3 (fld w 22 3)) (bitOf w 20) (Fin.ofNat 32 (fld w 12 5)) (Fin.ofNat 32 (fld w 7 5)))))
  | 3 => need (fld w 22 3 < 5) .subfield (need (fld w 21 1 = 0) .reserved (.ok (.ldd (BitVec.ofNat 7 (fld w 25 7)) (BitVec.ofNat 3 (fld w 22 3)) (bitOf w 20) (Fin.ofNat 32 (fld w 12 5)) (Fin.ofNat 32 (fld w 7 5)))))
  | _ => .error .selector

/-- Major 0x0F, ST (05 Table 05-2). -/
def decSt (w : Nat) : Except Reject Instr :=
  match fld w 17 3 with
  | 0 => need (fld w 22 3 < 5) .subfield (need (fld w 20 1 = 0) .reserved (.ok (.stb (BitVec.ofNat 7 (fld w 25 7)) (BitVec.ofNat 3 (fld w 22 3)) (bitOf w 21) (Fin.ofNat 32 (fld w 12 5)) (Fin.ofNat 32 (fld w 7 5)))))
  | 1 => need (fld w 22 3 < 5) .subfield (need (fld w 20 1 = 0) .reserved (.ok (.sth (BitVec.ofNat 7 (fld w 25 7)) (BitVec.ofNat 3 (fld w 22 3)) (bitOf w 21) (Fin.ofNat 32 (fld w 12 5)) (Fin.ofNat 32 (fld w 7 5)))))
  | 2 => need (fld w 22 3 < 5) .subfield (need (fld w 20 1 = 0) .reserved (.ok (.stw (BitVec.ofNat 7 (fld w 25 7)) (BitVec.ofNat 3 (fld w 22 3)) (bitOf w 21) (Fin.ofNat 32 (fld w 12 5)) (Fin.ofNat 32 (fld w 7 5)))))
  | 3 => need (fld w 22 3 < 5) .subfield (need (fld w 20 1 = 0) .reserved (.ok (.std (BitVec.ofNat 7 (fld w 25 7)) (BitVec.ofNat 3 (fld w 22 3)) (bitOf w 21) (Fin.ofNat 32 (fld w 12 5)) (Fin.ofNat 32 (fld w 7 5)))))
  | _ => .error .selector

/-- Major 0x10, ATOM (05 Table 05-2). -/
def decAtom (w : Nat) : Except Reject Instr :=
  match fld w 22 5 with
  | 0 => need (fld w 17 5 = 0 ∧ fld w 29 1 = 0) .reserved (.ok (.ldl (BitVec.ofNat 2 (fld w 30 2)) (bitOf w 28) (bitOf w 27) (Fin.ofNat 32 (fld w 12 5)) (Fin.ofNat 32 (fld w 7 5))))
  | 1 => need (fld w 7 5 = 0 ∧ fld w 28 1 = 0) .reserved (.ok (.stu (BitVec.ofNat 2 (fld w 30 2)) (bitOf w 29) (bitOf w 27) (Fin.ofNat 32 (fld w 17 5)) (Fin.ofNat 32 (fld w 12 5))))
  | 2 => need (fld w 28 2 ≠ 3) .subfield (.ok (.amoadd (BitVec.ofNat 2 (fld w 30 2)) (BitVec.ofNat 2 (fld w 28 2)) (bitOf w 27) (Fin.ofNat 32 (fld w 17 5)) (Fin.ofNat 32 (fld w 12 5)) (Fin.ofNat 32 (fld w 7 5))))
  | 3 => need (fld w 28 2 ≠ 3) .subfield (.ok (.amoand (BitVec.ofNat 2 (fld w 30 2)) (BitVec.ofNat 2 (fld w 28 2)) (bitOf w 27) (Fin.ofNat 32 (fld w 17 5)) (Fin.ofNat 32 (fld w 12 5)) (Fin.ofNat 32 (fld w 7 5))))
  | 4 => need (fld w 28 2 ≠ 3) .subfield (.ok (.amoor (BitVec.ofNat 2 (fld w 30 2)) (BitVec.ofNat 2 (fld w 28 2)) (bitOf w 27) (Fin.ofNat 32 (fld w 17 5)) (Fin.ofNat 32 (fld w 12 5)) (Fin.ofNat 32 (fld w 7 5))))
  | 5 => need (fld w 28 2 ≠ 3) .subfield (.ok (.amoxor (BitVec.ofNat 2 (fld w 30 2)) (BitVec.ofNat 2 (fld w 28 2)) (bitOf w 27) (Fin.ofNat 32 (fld w 17 5)) (Fin.ofNat 32 (fld w 12 5)) (Fin.ofNat 32 (fld w 7 5))))
  | 6 => need (fld w 28 2 ≠ 3) .subfield (.ok (.amomin (BitVec.ofNat 2 (fld w 30 2)) (BitVec.ofNat 2 (fld w 28 2)) (bitOf w 27) (Fin.ofNat 32 (fld w 17 5)) (Fin.ofNat 32 (fld w 12 5)) (Fin.ofNat 32 (fld w 7 5))))
  | 7 => need (fld w 28 2 ≠ 3) .subfield (.ok (.amomax (BitVec.ofNat 2 (fld w 30 2)) (BitVec.ofNat 2 (fld w 28 2)) (bitOf w 27) (Fin.ofNat 32 (fld w 17 5)) (Fin.ofNat 32 (fld w 12 5)) (Fin.ofNat 32 (fld w 7 5))))
  | 8 => need (fld w 28 2 ≠ 3) .subfield (.ok (.amominu (BitVec.ofNat 2 (fld w 30 2)) (BitVec.ofNat 2 (fld w 28 2)) (bitOf w 27) (Fin.ofNat 32 (fld w 17 5)) (Fin.ofNat 32 (fld w 12 5)) (Fin.ofNat 32 (fld w 7 5))))
  | 9 => need (fld w 28 2 ≠ 3) .subfield (.ok (.amomaxu (BitVec.ofNat 2 (fld w 30 2)) (BitVec.ofNat 2 (fld w 28 2)) (bitOf w 27) (Fin.ofNat 32 (fld w 17 5)) (Fin.ofNat 32 (fld w 12 5)) (Fin.ofNat 32 (fld w 7 5))))
  | 10 => need (fld w 28 2 ≠ 3) .subfield (.ok (.amoswp (BitVec.ofNat 2 (fld w 30 2)) (BitVec.ofNat 2 (fld w 28 2)) (bitOf w 27) (Fin.ofNat 32 (fld w 17 5)) (Fin.ofNat 32 (fld w 12 5)) (Fin.ofNat 32 (fld w 7 5))))
  | 11 => need (fld w 28 2 ≠ 3) .subfield (.ok (.amocas (BitVec.ofNat 2 (fld w 30 2)) (BitVec.ofNat 2 (fld w 28 2)) (bitOf w 27) (Fin.ofNat 32 (fld w 17 5)) (Fin.ofNat 32 (fld w 12 5)) (Fin.ofNat 32 (fld w 7 5))))
  | 12 => need (fld w 28 2 ≠ 3) .subfield (.ok (.amofadd (BitVec.ofNat 2 (fld w 30 2)) (BitVec.ofNat 2 (fld w 28 2)) (bitOf w 27) (Fin.ofNat 32 (fld w 17 5)) (Fin.ofNat 32 (fld w 12 5)) (Fin.ofNat 32 (fld w 7 5))))
  | _ => .error .selector

/-- Major 0x11, VER (05 Table 05-2). -/
def decVer (w : Nat) : Except Reject Instr :=
  match fld w 22 5 with
  | 0 => need (fld w 27 5 = 0) .reserved (.ok (.ldv (Fin.ofNat 32 (fld w 17 5)) (Fin.ofNat 32 (fld w 12 5)) (Fin.ofNat 32 (fld w 7 5))))
  | 1 => need (fld w 27 5 = 0) .reserved (.ok (.stv (Fin.ofNat 32 (fld w 17 5)) (Fin.ofNat 32 (fld w 12 5)) (Fin.ofNat 32 (fld w 7 5))))
  | 2 => need (fld w 7 5 = 0 ∧ fld w 27 5 = 0) .reserved (.ok (.vrcl (Fin.ofNat 32 (fld w 17 5)) (Fin.ofNat 32 (fld w 12 5))))
  | 3 => need (fld w 17 5 = 0 ∧ fld w 27 5 = 0) .reserved (.ok (.vprobe (Fin.ofNat 32 (fld w 12 5)) (Fin.ofNat 32 (fld w 7 5))))
  | _ => .error .selector

/-- Major 0x12, SYNC (05 Table 05-2). -/
def decSync (w : Nat) : Except Reject Instr :=
  match fld w 22 5 with
  | 0 => need (fld w 7 15 = 0 ∧ fld w 30 2 = 0) .reserved (.ok (.fence (BitVec.ofNat 3 (fld w 27 3))))
  | 1 => need (fld w 7 15 = 0 ∧ fld w 30 2 = 0) .reserved (.ok (.fenceE (BitVec.ofNat 3 (fld w 27 3))))
  | 2 => need (fld w 7 15 = 0 ∧ fld w 27 5 = 0) .reserved (.ok (.fenceI))
  | 3 => need (fld w 17 5 = 0 ∧ fld w 27 5 = 0) .reserved (.ok (.bararv (Fin.ofNat 32 (fld w 12 5)) (Fin.ofNat 32 (fld w 7 5))))
  | 4 => need (fld w 27 5 = 0) .reserved (.ok (.barwait (Fin.ofNat 32 (fld w 17 5)) (Fin.ofNat 32 (fld w 12 5)) (Fin.ofNat 32 (fld w 7 5))))
  | 5 => need (fld w 7 5 = 0 ∧ fld w 17 5 = 0 ∧ fld w 27 5 = 0) .reserved (.ok (.marm (Fin.ofNat 32 (fld w 12 5))))
  | 6 => need (fld w 17 5 = 0 ∧ fld w 27 5 = 0) .reserved (.ok (.mwait (Fin.ofNat 32 (fld w 12 5)) (Fin.ofNat 32 (fld w 7 5))))
  | _ => .error .selector

/-- Major 0x13, MSG (05 Table 05-2). -/
def decMsg (w : Nat) : Except Reject Instr :=
  match fld w 22 5 with
  | 0 => need (fld w 27 5 = 0) .reserved (.ok (.send (Fin.ofNat 32 (fld w 17 5)) (Fin.ofNat 32 (fld w 12 5)) (Fin.ofNat 32 (fld w 7 5))))
  | 1 => need (fld w 11 1 = 0 ∧ fld w 27 5 = 0) .reserved (.ok (.sendv (Fin.ofNat 32 (fld w 17 5)) (Fin.ofNat 32 (fld w 12 5)) (Fin.ofNat 16 (fld w 7 4))))
  | 2 => need (fld w 7 15 = 0 ∧ fld w 27 5 = 0) .reserved (.ok (.endh))
  | 3 => need (fld w 12 5 = 0 ∧ fld w 29 3 = 0) .reserved (.ok (.qbind (bitOf w 28) (bitOf w 27) (Fin.ofNat 32 (fld w 17 5)) (Fin.ofNat 32 (fld w 7 5))))
  | 4 => need (fld w 12 10 = 0 ∧ fld w 27 1 = 0 ∧ fld w 29 3 = 0) .reserved (.ok (.qunbind (bitOf w 28) (Fin.ofNat 32 (fld w 7 5))))
  | 5 => need (fld w 12 5 = 0 ∧ fld w 27 5 = 0) .reserved (.ok (.qpoll (Fin.ofNat 32 (fld w 17 5)) (Fin.ofNat 32 (fld w 7 5))))
  | 6 => need (fld w 7 5 = 0 ∧ fld w 17 5 = 0 ∧ fld w 27 5 = 0) .reserved (.ok (.taskadd (Fin.ofNat 32 (fld w 12 5))))
  | 7 => need (fld w 17 5 = 0 ∧ fld w 27 5 = 0) .reserved (.ok (.tasktake (Fin.ofNat 32 (fld w 12 5)) (Fin.ofNat 32 (fld w 7 5))))
  | 8 => need (fld w 12 10 = 0 ∧ fld w 27 5 = 0) .reserved (.ok (.tileget (Fin.ofNat 32 (fld w 7 5))))
  | _ => .error .selector

/-- Major 0x14, XFER (05 Table 05-2). -/
def decXfer (w : Nat) : Except Reject Instr :=
  match fld w 22 5 with
  | 0 => .ok (.copy (Fin.ofNat 32 (fld w 27 5)) (Fin.ofNat 32 (fld w 17 5)) (Fin.ofNat 32 (fld w 12 5)) (Fin.ofNat 32 (fld w 7 5)))
  | 1 => .ok (.fetch (Fin.ofNat 32 (fld w 27 5)) (Fin.ofNat 32 (fld w 17 5)) (Fin.ofNat 32 (fld w 12 5)) (Fin.ofNat 32 (fld w 7 5)))
  | 2 => need (fld w 11 1 = 0) .reserved (.ok (.store (Fin.ofNat 32 (fld w 27 5)) (Fin.ofNat 32 (fld w 17 5)) (Fin.ofNat 32 (fld w 12 5)) (Fin.ofNat 16 (fld w 7 4))))
  | 3 => .ok (.tier (Fin.ofNat 32 (fld w 27 5)) (Fin.ofNat 32 (fld w 17 5)) (Fin.ofNat 32 (fld w 12 5)) (Fin.ofNat 32 (fld w 7 5)))
  | 4 => need (fld w 12 10 = 0) .reserved (.ok (.txbinit (Fin.ofNat 32 (fld w 27 5)) (Fin.ofNat 32 (fld w 7 5))))
  | 5 => need (fld w 12 10 = 0) .reserved (.ok (.txbarv (Fin.ofNat 32 (fld w 27 5)) (Fin.ofNat 32 (fld w 7 5))))
  | 6 => need (fld w 17 5 = 0) .reserved (.ok (.txbwait (Fin.ofNat 32 (fld w 27 5)) (Fin.ofNat 32 (fld w 12 5)) (Fin.ofNat 32 (fld w 7 5))))
  | 7 => need (fld w 17 5 = 0) .reserved (.ok (.txbtest (Fin.ofNat 32 (fld w 27 5)) (Fin.ofNat 32 (fld w 12 5)) (Fin.ofNat 32 (fld w 7 5))))
  | 8 => need (fld w 17 5 = 0) .reserved (.ok (.shopen (Fin.ofNat 32 (fld w 27 5)) (Fin.ofNat 32 (fld w 12 5)) (Fin.ofNat 32 (fld w 7 5))))
  | 9 => need (fld w 21 1 = 0 ∧ fld w 27 5 = 0) .reserved (.ok (.publish (bitOf w 20) (BitVec.ofNat 3 (fld w 17 3)) (Fin.ofNat 32 (fld w 12 5)) (Fin.ofNat 32 (fld w 7 5))))
  | _ => .error .selector

/-- Major 0x15, TMAP (05 Table 05-2). -/
def decTmap (w : Nat) : Except Reject Instr :=
  match fld w 22 5 with
  | 0 => need (fld w 7 5 = 0 ∧ fld w 17 5 = 0) .reserved (.ok (.tmld (Fin.ofNat 32 (fld w 27 5)) (Fin.ofNat 32 (fld w 12 5))))
  | 1 => need (fld w 7 5 = 0 ∧ fld w 17 5 = 0) .reserved (.ok (.tmst (Fin.ofNat 32 (fld w 27 5)) (Fin.ofNat 32 (fld w 12 5))))
  | 2 => need (fld w 7 5 = 0) .reserved (.ok (.tmset (Fin.ofNat 32 (fld w 27 5)) (Fin.ofNat 32 (fld w 17 5)) (Fin.ofNat 32 (fld w 12 5))))
  | 3 => need (fld w 27 5 = 0) .reserved (.ok (.tmget (Fin.ofNat 32 (fld w 17 5)) (Fin.ofNat 32 (fld w 12 5)) (Fin.ofNat 32 (fld w 7 5))))
  | 4 => need (fld w 7 5 = 0 ∧ fld w 17 5 = 0 ∧ fld w 27 5 = 0) .reserved (.ok (.tmsync (Fin.ofNat 32 (fld w 12 5))))
  | 5 => need (fld w 18 4 = 0) .reserved (.ok (.wload (Fin.ofNat 32 (fld w 27 5)) (bitOf w 17) (Fin.ofNat 32 (fld w 12 5)) (Fin.ofNat 32 (fld w 7 5))))
  | 6 => need (fld w 12 10 = 0 ∧ fld w 27 5 = 0) .reserved (.ok (.wfree (Fin.ofNat 32 (fld w 7 5))))
  | 7 => need (fld w 11 1 = 0 ∧ fld w 19 3 = 0) .reserved (.ok (.mld (Fin.ofNat 32 (fld w 27 5)) (bitOf w 18) (bitOf w 17) (Fin.ofNat 32 (fld w 12 5)) (Fin.ofNat 16 (fld w 7 4))))
  | 8 => need (fld w 11 1 = 0 ∧ fld w 19 3 = 0) .reserved (.ok (.mst (Fin.ofNat 32 (fld w 27 5)) (bitOf w 18) (bitOf w 17) (Fin.ofNat 32 (fld w 12 5)) (Fin.ofNat 16 (fld w 7 4))))
  | _ => .error .selector

/-- Major 0x16, MAT (05 Table 05-2). -/
def decMat (w : Nat) : Except Reject Instr :=
  match fld w 22 5 with
  | 0 => need (fld w 20 2 ≠ 3) .subfield (need (fld w 7 1 = 0 ∧ fld w 29 3 = 0) .reserved (.ok (.mma (bitOf w 28) (bitOf w 27) (BitVec.ofNat 2 (fld w 20 2)) (Fin.ofNat 32 (fld w 15 5)) (Fin.ofNat 16 (fld w 11 4)) (Fin.ofNat 8 (fld w 8 3)))))
  | 1 => need (fld w 7 1 = 0 ∧ fld w 17 5 = 0 ∧ fld w 27 5 = 0) .reserved (.ok (.msoft (BitVec.ofNat 2 (fld w 15 2)) (Fin.ofNat 16 (fld w 11 4)) (Fin.ofNat 8 (fld w 8 3))))
  | 2 => need (fld w 7 1 = 0 ∧ fld w 11 4 = 0 ∧ fld w 17 5 = 0 ∧ fld w 27 5 = 0) .reserved (.ok (.msfin (BitVec.ofNat 2 (fld w 15 2)) (Fin.ofNat 8 (fld w 8 3))))
  | 3 => need (fld w 7 8 = 0 ∧ fld w 17 5 = 0 ∧ fld w 27 5 = 0) .reserved (.ok (.mzero (BitVec.ofNat 2 (fld w 15 2))))
  | 4 => need (fld w 20 2 ≠ 3) .subfield (need (fld w 7 1 = 0 ∧ fld w 27 5 = 0) .reserved (.ok (.mchk (BitVec.ofNat 2 (fld w 20 2)) (Fin.ofNat 32 (fld w 15 5)) (Fin.ofNat 16 (fld w 11 4)) (Fin.ofNat 8 (fld w 8 3)))))
  | _ => .error .selector

/-- Major 0x17, VARI (05 Table 05-2). -/
def decVari (w : Nat) : Except Reject Instr :=
  match fld w 26 5 with
  | 0 => need (fld w 22 4 < 12) .subfield (need (fld w 31 1 = 0) .reserved (.ok (.vadd (BitVec.ofNat 4 (fld w 22 4)) (Fin.ofNat 8 (fld w 19 3)) (Fin.ofNat 16 (fld w 15 4)) (Fin.ofNat 16 (fld w 11 4)) (Fin.ofNat 16 (fld w 7 4)))))
  | 1 => need (fld w 22 4 < 12) .subfield (need (fld w 31 1 = 0) .reserved (.ok (.vsub (BitVec.ofNat 4 (fld w 22 4)) (Fin.ofNat 8 (fld w 19 3)) (Fin.ofNat 16 (fld w 15 4)) (Fin.ofNat 16 (fld w 11 4)) (Fin.ofNat 16 (fld w 7 4)))))
  | 2 => need (fld w 22 4 < 12) .subfield (need (fld w 31 1 = 0) .reserved (.ok (.vmul (BitVec.ofNat 4 (fld w 22 4)) (Fin.ofNat 8 (fld w 19 3)) (Fin.ofNat 16 (fld w 15 4)) (Fin.ofNat 16 (fld w 11 4)) (Fin.ofNat 16 (fld w 7 4)))))
  | 3 => need (fld w 22 4 < 12) .subfield (need (fld w 31 1 = 0) .reserved (.ok (.vfma (BitVec.ofNat 4 (fld w 22 4)) (Fin.ofNat 8 (fld w 19 3)) (Fin.ofNat 16 (fld w 15 4)) (Fin.ofNat 16 (fld w 11 4)) (Fin.ofNat 16 (fld w 7 4)))))
  | 4 => need (fld w 22 4 < 12) .subfield (need (fld w 31 1 = 0) .reserved (.ok (.vmin (BitVec.ofNat 4 (fld w 22 4)) (Fin.ofNat 8 (fld w 19 3)) (Fin.ofNat 16 (fld w 15 4)) (Fin.ofNat 16 (fld w 11 4)) (Fin.ofNat 16 (fld w 7 4)))))
  | 5 => need (fld w 22 4 < 12) .subfield (need (fld w 31 1 = 0) .reserved (.ok (.vmax (BitVec.ofNat 4 (fld w 22 4)) (Fin.ofNat 8 (fld w 19 3)) (Fin.ofNat 16 (fld w 15 4)) (Fin.ofNat 16 (fld w 11 4)) (Fin.ofNat 16 (fld w 7 4)))))
  | 6 => need (fld w 22 4 < 12) .subfield (need (fld w 15 4 = 0 ∧ fld w 31 1 = 0) .reserved (.ok (.vabs (BitVec.ofNat 4 (fld w 22 4)) (Fin.ofNat 8 (fld w 19 3)) (Fin.ofNat 16 (fld w 11 4)) (Fin.ofNat 16 (fld w 7 4)))))
  | 7 => need (fld w 22 4 < 12) .subfield (need (fld w 15 4 = 0 ∧ fld w 31 1 = 0) .reserved (.ok (.vneg (BitVec.ofNat 4 (fld w 22 4)) (Fin.ofNat 8 (fld w 19 3)) (Fin.ofNat 16 (fld w 11 4)) (Fin.ofNat 16 (fld w 7 4)))))
  | 8 => need (fld w 22 4 < 12) .subfield (need (fld w 31 1 = 0) .reserved (.ok (.vdiv (BitVec.ofNat 4 (fld w 22 4)) (Fin.ofNat 8 (fld w 19 3)) (Fin.ofNat 16 (fld w 15 4)) (Fin.ofNat 16 (fld w 11 4)) (Fin.ofNat 16 (fld w 7 4)))))
  | 9 => need (fld w 22 4 < 12) .subfield (need (fld w 15 4 = 0 ∧ fld w 31 1 = 0) .reserved (.ok (.vsqrt (BitVec.ofNat 4 (fld w 22 4)) (Fin.ofNat 8 (fld w 19 3)) (Fin.ofNat 16 (fld w 11 4)) (Fin.ofNat 16 (fld w 7 4)))))
  | 10 => need (fld w 22 4 < 12) .subfield (need (fld w 15 4 = 0 ∧ fld w 31 1 = 0) .reserved (.ok (.vrsqrt (BitVec.ofNat 4 (fld w 22 4)) (Fin.ofNat 8 (fld w 19 3)) (Fin.ofNat 16 (fld w 11 4)) (Fin.ofNat 16 (fld w 7 4)))))
  | 11 => need (fld w 22 4 < 12) .subfield (need (fld w 15 4 = 0 ∧ fld w 31 1 = 0) .reserved (.ok (.vrcp (BitVec.ofNat 4 (fld w 22 4)) (Fin.ofNat 8 (fld w 19 3)) (Fin.ofNat 16 (fld w 11 4)) (Fin.ofNat 16 (fld w 7 4)))))
  | 12 => need (fld w 22 4 < 12) .subfield (need (fld w 15 4 = 0 ∧ fld w 31 1 = 0) .reserved (.ok (.vexp2 (BitVec.ofNat 4 (fld w 22 4)) (Fin.ofNat 8 (fld w 19 3)) (Fin.ofNat 16 (fld w 11 4)) (Fin.ofNat 16 (fld w 7 4)))))
  | 13 => need (fld w 22 4 < 12) .subfield (need (fld w 15 4 = 0 ∧ fld w 31 1 = 0) .reserved (.ok (.vlog2 (BitVec.ofNat 4 (fld w 22 4)) (Fin.ofNat 8 (fld w 19 3)) (Fin.ofNat 16 (fld w 11 4)) (Fin.ofNat 16 (fld w 7 4)))))
  | 14 => need (fld w 22 4 < 12) .subfield (need (fld w 31 1 = 0) .reserved (.ok (.vand (BitVec.ofNat 4 (fld w 22 4)) (Fin.ofNat 8 (fld w 19 3)) (Fin.ofNat 16 (fld w 15 4)) (Fin.ofNat 16 (fld w 11 4)) (Fin.ofNat 16 (fld w 7 4)))))
  | 15 => need (fld w 22 4 < 12) .subfield (need (fld w 31 1 = 0) .reserved (.ok (.vor (BitVec.ofNat 4 (fld w 22 4)) (Fin.ofNat 8 (fld w 19 3)) (Fin.ofNat 16 (fld w 15 4)) (Fin.ofNat 16 (fld w 11 4)) (Fin.ofNat 16 (fld w 7 4)))))
  | 16 => need (fld w 22 4 < 12) .subfield (need (fld w 31 1 = 0) .reserved (.ok (.vxor (BitVec.ofNat 4 (fld w 22 4)) (Fin.ofNat 8 (fld w 19 3)) (Fin.ofNat 16 (fld w 15 4)) (Fin.ofNat 16 (fld w 11 4)) (Fin.ofNat 16 (fld w 7 4)))))
  | 17 => need (fld w 22 4 < 12) .subfield (.ok (.vshl (BitVec.ofNat 4 (fld w 22 4)) (Fin.ofNat 8 (fld w 19 3)) (Fin.ofNat 32 (fld w 31 1 * 16 + fld w 15 4)) (Fin.ofNat 16 (fld w 11 4)) (Fin.ofNat 16 (fld w 7 4))))
  | 18 => need (fld w 22 4 < 12) .subfield (.ok (.vshr (BitVec.ofNat 4 (fld w 22 4)) (Fin.ofNat 8 (fld w 19 3)) (Fin.ofNat 32 (fld w 31 1 * 16 + fld w 15 4)) (Fin.ofNat 16 (fld w 11 4)) (Fin.ofNat 16 (fld w 7 4))))
  | 19 => need (fld w 22 4 < 12) .subfield (need (fld w 31 1 = 0) .reserved (.ok (.vsel (BitVec.ofNat 4 (fld w 22 4)) (Fin.ofNat 8 (fld w 19 3)) (Fin.ofNat 16 (fld w 15 4)) (Fin.ofNat 16 (fld w 11 4)) (Fin.ofNat 16 (fld w 7 4)))))
  | 20 => need (fld w 22 4 < 12) .subfield (need (fld w 10 1 = 0 ∧ fld w 31 1 = 0) .reserved (.ok (.vcmpeq (BitVec.ofNat 4 (fld w 22 4)) (Fin.ofNat 8 (fld w 19 3)) (Fin.ofNat 16 (fld w 15 4)) (Fin.ofNat 16 (fld w 11 4)) (Fin.ofNat 8 (fld w 7 3)))))
  | 21 => need (fld w 22 4 < 12) .subfield (need (fld w 10 1 = 0 ∧ fld w 31 1 = 0) .reserved (.ok (.vcmplt (BitVec.ofNat 4 (fld w 22 4)) (Fin.ofNat 8 (fld w 19 3)) (Fin.ofNat 16 (fld w 15 4)) (Fin.ofNat 16 (fld w 11 4)) (Fin.ofNat 8 (fld w 7 3)))))
  | 22 => need (fld w 22 4 < 12) .subfield (need (fld w 10 1 = 0 ∧ fld w 31 1 = 0) .reserved (.ok (.vcmple (BitVec.ofNat 4 (fld w 22 4)) (Fin.ofNat 8 (fld w 19 3)) (Fin.ofNat 16 (fld w 15 4)) (Fin.ofNat 16 (fld w 11 4)) (Fin.ofNat 8 (fld w 7 3)))))
  | 23 => need (fld w 22 4 < 12) .subfield (need (fld w 31 1 = 0) .reserved (.ok (.vcvt (BitVec.ofNat 4 (fld w 22 4)) (Fin.ofNat 8 (fld w 19 3)) (BitVec.ofNat 4 (fld w 15 4)) (Fin.ofNat 16 (fld w 11 4)) (Fin.ofNat 16 (fld w 7 4)))))
  | 24 => need (fld w 22 4 < 12) .subfield (need (fld w 31 1 = 0) .reserved (.ok (.vaddw (BitVec.ofNat 4 (fld w 22 4)) (Fin.ofNat 8 (fld w 19 3)) (Fin.ofNat 16 (fld w 15 4)) (Fin.ofNat 16 (fld w 11 4)) (Fin.ofNat 16 (fld w 7 4)))))
  | 25 => need (fld w 22 4 < 12) .subfield (need (fld w 31 1 = 0) .reserved (.ok (.vmacw (BitVec.ofNat 4 (fld w 22 4)) (Fin.ofNat 8 (fld w 19 3)) (Fin.ofNat 16 (fld w 15 4)) (Fin.ofNat 16 (fld w 11 4)) (Fin.ofNat 16 (fld w 7 4)))))
  | 26 => need (fld w 22 4 < 12) .subfield (need (fld w 16 3 = 0 ∧ fld w 31 1 = 0) .reserved (.ok (.vnarrow (BitVec.ofNat 4 (fld w 22 4)) (Fin.ofNat 8 (fld w 19 3)) (bitOf w 15) (Fin.ofNat 16 (fld w 11 4)) (Fin.ofNat 16 (fld w 7 4)))))
  | 27 => need (fld w 22 4 < 12) .subfield (need (fld w 31 1 = 0) .reserved (.ok (.vadds (BitVec.ofNat 4 (fld w 22 4)) (Fin.ofNat 8 (fld w 19 3)) (Fin.ofNat 16 (fld w 15 4)) (Fin.ofNat 16 (fld w 11 4)) (Fin.ofNat 16 (fld w 7 4)))))
  | 28 => need (fld w 22 4 < 12) .subfield (.ok (.vclamp (BitVec.ofNat 4 (fld w 22 4)) (Fin.ofNat 8 (fld w 19 3)) (Fin.ofNat 32 (fld w 31 1 * 16 + fld w 15 4)) (Fin.ofNat 16 (fld w 11 4)) (Fin.ofNat 16 (fld w 7 4))))
  | _ => .error .selector

/-- Major 0x18, VRED (05 Table 05-2). -/
def decVred (w : Nat) : Except Reject Instr :=
  match fld w 26 5 with
  | 0 => need (fld w 22 4 < 12) .subfield (.ok (.vscan (BitVec.ofNat 4 (fld w 22 4)) (Fin.ofNat 8 (fld w 19 3)) (Fin.ofNat 32 (fld w 31 1 * 16 + fld w 15 4)) (Fin.ofNat 16 (fld w 11 4)) (Fin.ofNat 16 (fld w 7 4))))
  | 1 => need (fld w 22 4 < 12) .subfield (need (fld w 15 4 = 0 ∧ fld w 31 1 = 0) .reserved (.ok (.vredsum (BitVec.ofNat 4 (fld w 22 4)) (Fin.ofNat 8 (fld w 19 3)) (Fin.ofNat 16 (fld w 11 4)) (Fin.ofNat 16 (fld w 7 4)))))
  | 2 => need (fld w 22 4 < 12) .subfield (need (fld w 15 4 = 0 ∧ fld w 31 1 = 0) .reserved (.ok (.vredmax (BitVec.ofNat 4 (fld w 22 4)) (Fin.ofNat 8 (fld w 19 3)) (Fin.ofNat 16 (fld w 11 4)) (Fin.ofNat 16 (fld w 7 4)))))
  | 3 => need (fld w 22 4 < 12) .subfield (need (fld w 15 4 = 0 ∧ fld w 31 1 = 0) .reserved (.ok (.vredmin (BitVec.ofNat 4 (fld w 22 4)) (Fin.ofNat 8 (fld w 19 3)) (Fin.ofNat 16 (fld w 11 4)) (Fin.ofNat 16 (fld w 7 4)))))
  | 4 => need (fld w 22 4 < 12) .subfield (need (fld w 31 1 = 0) .reserved (.ok (.vperm (BitVec.ofNat 4 (fld w 22 4)) (Fin.ofNat 8 (fld w 19 3)) (Fin.ofNat 16 (fld w 15 4)) (Fin.ofNat 16 (fld w 11 4)) (Fin.ofNat 16 (fld w 7 4)))))
  | 5 => need (fld w 22 4 < 12) .subfield (need (fld w 11 4 = 0) .reserved (.ok (.vbcast (BitVec.ofNat 4 (fld w 22 4)) (Fin.ofNat 8 (fld w 19 3)) (Fin.ofNat 32 (fld w 31 1 * 16 + fld w 15 4)) (Fin.ofNat 16 (fld w 7 4)))))
  | 6 => need (fld w 22 4 < 12) .subfield (.ok (.vins (BitVec.ofNat 4 (fld w 22 4)) (Fin.ofNat 8 (fld w 19 3)) (Fin.ofNat 32 (fld w 31 1 * 16 + fld w 15 4)) (Fin.ofNat 16 (fld w 11 4)) (Fin.ofNat 16 (fld w 7 4))))
  | 7 => need (fld w 22 4 < 12) .subfield (need (fld w 7 4 = 0) .reserved (.ok (.vext (BitVec.ofNat 4 (fld w 22 4)) (Fin.ofNat 8 (fld w 19 3)) (Fin.ofNat 32 (fld w 31 1 * 16 + fld w 15 4)) (Fin.ofNat 16 (fld w 11 4)))))
  | 8 => need (fld w 22 4 < 12) .subfield (need (fld w 11 8 = 0 ∧ fld w 31 1 = 0) .reserved (.ok (.vzero (BitVec.ofNat 4 (fld w 22 4)) (Fin.ofNat 8 (fld w 19 3)) (Fin.ofNat 16 (fld w 7 4)))))
  | 9 => need (fld w 22 4 < 12) .subfield (need (fld w 15 4 = 0 ∧ fld w 31 1 = 0) .reserved (.ok (.vmov (BitVec.ofNat 4 (fld w 22 4)) (Fin.ofNat 8 (fld w 19 3)) (Fin.ofNat 16 (fld w 11 4)) (Fin.ofNat 16 (fld w 7 4)))))
  | 10 => need (fld w 22 4 < 12) .subfield (need (fld w 11 4 = 0) .reserved (.ok (.viota (BitVec.ofNat 4 (fld w 22 4)) (Fin.ofNat 8 (fld w 19 3)) (Fin.ofNat 32 (fld w 31 1 * 16 + fld w 15 4)) (Fin.ofNat 16 (fld w 7 4)))))
  | _ => .error .selector

/-- Major 0x19, VMEM (05 Table 05-2). -/
def decVmem (w : Nat) : Except Reject Instr :=
  match fld w 28 3 with
  | 0 => need (fld w 24 4 < 12) .subfield (need (fld w 31 1 = 0) .reserved (.ok (.vld (BitVec.ofNat 4 (fld w 24 4)) (Fin.ofNat 8 (fld w 21 3)) (Fin.ofNat 32 (fld w 16 5)) (Fin.ofNat 32 (fld w 11 5)) (Fin.ofNat 16 (fld w 7 4)))))
  | 1 => need (fld w 24 4 < 12) .subfield (need (fld w 31 1 = 0) .reserved (.ok (.vst (BitVec.ofNat 4 (fld w 24 4)) (Fin.ofNat 8 (fld w 21 3)) (Fin.ofNat 32 (fld w 16 5)) (Fin.ofNat 32 (fld w 11 5)) (Fin.ofNat 16 (fld w 7 4)))))
  | 2 => need (fld w 24 4 < 12) .subfield (need (fld w 31 1 = 0) .reserved (.ok (.vlds (BitVec.ofNat 4 (fld w 24 4)) (Fin.ofNat 8 (fld w 21 3)) (Fin.ofNat 32 (fld w 16 5)) (Fin.ofNat 32 (fld w 11 5)) (Fin.ofNat 16 (fld w 7 4)))))
  | 3 => need (fld w 24 4 < 12) .subfield (need (fld w 31 1 = 0) .reserved (.ok (.vsts (BitVec.ofNat 4 (fld w 24 4)) (Fin.ofNat 8 (fld w 21 3)) (Fin.ofNat 32 (fld w 16 5)) (Fin.ofNat 32 (fld w 11 5)) (Fin.ofNat 16 (fld w 7 4)))))
  | 4 => need (fld w 24 4 < 12) .subfield (need (fld w 20 1 = 0 ∧ fld w 31 1 = 0) .reserved (.ok (.vgath (BitVec.ofNat 4 (fld w 24 4)) (Fin.ofNat 8 (fld w 21 3)) (Fin.ofNat 16 (fld w 16 4)) (Fin.ofNat 32 (fld w 11 5)) (Fin.ofNat 16 (fld w 7 4)))))
  | 5 => need (fld w 24 4 < 12) .subfield (need (fld w 20 1 = 0 ∧ fld w 31 1 = 0) .reserved (.ok (.vscat (BitVec.ofNat 4 (fld w 24 4)) (Fin.ofNat 8 (fld w 21 3)) (Fin.ofNat 16 (fld w 16 4)) (Fin.ofNat 32 (fld w 11 5)) (Fin.ofNat 16 (fld w 7 4)))))
  | _ => .error .selector

/-- Major 0x1A, VWIT (05 Table 05-2). -/
def decVwit (w : Nat) : Except Reject Instr :=
  match fld w 27 4 with
  | 0 => need (fld w 23 4 < 12 ∧ fld w 11 4 + fld w 19 4 < 16) .subfield (need (fld w 31 1 = 0) .reserved (.ok (.vwmax (BitVec.ofNat 4 (fld w 23 4)) (BitVec.ofNat 4 (fld w 19 4)) (Fin.ofNat 16 (fld w 15 4)) (Fin.ofNat 16 (fld w 11 4)) (Fin.ofNat 16 (fld w 7 4)))))
  | 1 => need (fld w 23 4 < 12 ∧ fld w 11 4 + fld w 19 4 < 16) .subfield (need (fld w 31 1 = 0) .reserved (.ok (.vwmin (BitVec.ofNat 4 (fld w 23 4)) (BitVec.ofNat 4 (fld w 19 4)) (Fin.ofNat 16 (fld w 15 4)) (Fin.ofNat 16 (fld w 11 4)) (Fin.ofNat 16 (fld w 7 4)))))
  | 2 => need (fld w 23 4 < 12 ∧ fld w 11 4 + fld w 19 4 < 16) .subfield (need (fld w 31 1 = 0) .reserved (.ok (.vwmed (BitVec.ofNat 4 (fld w 23 4)) (BitVec.ofNat 4 (fld w 19 4)) (Fin.ofNat 16 (fld w 15 4)) (Fin.ofNat 16 (fld w 11 4)) (Fin.ofNat 16 (fld w 7 4)))))
  | 3 => need (fld w 23 4 < 12 ∧ fld w 11 4 + fld w 19 4 < 16) .subfield (need (fld w 31 1 = 0) .reserved (.ok (.vwclamp (BitVec.ofNat 4 (fld w 23 4)) (BitVec.ofNat 4 (fld w 19 4)) (Fin.ofNat 16 (fld w 15 4)) (Fin.ofNat 16 (fld w 11 4)) (Fin.ofNat 16 (fld w 7 4)))))
  | 4 => need (fld w 23 4 < 12 ∧ fld w 11 4 + fld w 19 4 < 16) .subfield (need (fld w 31 1 = 0) .reserved (.ok (.vwssum (BitVec.ofNat 4 (fld w 23 4)) (BitVec.ofNat 4 (fld w 19 4)) (Fin.ofNat 16 (fld w 15 4)) (Fin.ofNat 16 (fld w 11 4)) (Fin.ofNat 16 (fld w 7 4)))))
  | 5 => need (fld w 23 4 < 12 ∧ fld w 11 4 + fld w 19 4 < 16) .subfield (need (fld w 31 1 = 0) .reserved (.ok (.vadj (BitVec.ofNat 4 (fld w 23 4)) (BitVec.ofNat 4 (fld w 19 4)) (Fin.ofNat 16 (fld w 15 4)) (BitVec.ofNat 4 (fld w 11 4)) (Fin.ofNat 16 (fld w 7 4)))))
  | _ => .error .selector

/-- Major 0x1B, COLL (05 Table 05-2). -/
def decColl (w : Nat) : Except Reject Instr :=
  match fld w 27 5 with
  | 0 => need (fld w 22 5 = 31) .reserved (.ok (.credSum (Fin.ofNat 32 (fld w 17 5)) (Fin.ofNat 32 (fld w 12 5)) (Fin.ofNat 32 (fld w 7 5))))
  | 1 => .ok (.credMax (Fin.ofNat 32 (fld w 22 5)) (Fin.ofNat 32 (fld w 17 5)) (Fin.ofNat 32 (fld w 12 5)) (Fin.ofNat 32 (fld w 7 5)))
  | 2 => .ok (.credMin (Fin.ofNat 32 (fld w 22 5)) (Fin.ofNat 32 (fld w 17 5)) (Fin.ofNat 32 (fld w 12 5)) (Fin.ofNat 32 (fld w 7 5)))
  | 3 => .ok (.credMed (Fin.ofNat 32 (fld w 22 5)) (Fin.ofNat 32 (fld w 17 5)) (Fin.ofNat 32 (fld w 12 5)) (Fin.ofNat 32 (fld w 7 5)))
  | 4 => .ok (.credSsum (Fin.ofNat 32 (fld w 22 5)) (Fin.ofNat 32 (fld w 17 5)) (Fin.ofNat 32 (fld w 12 5)) (Fin.ofNat 32 (fld w 7 5)))
  | 5 => need (fld w 22 5 = 31) .reserved (.ok (.cbcast (Fin.ofNat 32 (fld w 17 5)) (Fin.ofNat 32 (fld w 12 5)) (Fin.ofNat 32 (fld w 7 5))))
  | 6 => need (fld w 22 5 ≠ 31) .subfield (.ok (.cadj (Fin.ofNat 32 (fld w 22 5)) (Fin.ofNat 32 (fld w 17 5)) (Fin.ofNat 32 (fld w 12 5)) (Fin.ofNat 32 (fld w 7 5))))
  | 7 => need (fld w 12 15 = 31744) .reserved (.ok (.cjoin (Fin.ofNat 32 (fld w 7 5))))
  | 8 => need (fld w 12 15 = 31744) .reserved (.ok (.cleave (Fin.ofNat 32 (fld w 7 5))))
  | 9 => need (fld w 12 15 = 31744) .reserved (.ok (.cview (Fin.ofNat 32 (fld w 7 5))))
  | 10 => need (fld w 12 15 = 31744) .reserved (.ok (.crejoin (Fin.ofNat 32 (fld w 7 5))))
  | _ => .error .selector

/-- Major 0x1C, POP (05 Table 05-2). -/
def decPop (w : Nat) : Except Reject Instr :=
  match fld w 22 5 with
  | 0 => need (fld w 7 5 = 0 ∧ fld w 27 5 = 0) .reserved (.ok (.fitset (Fin.ofNat 32 (fld w 17 5)) (Fin.ofNat 32 (fld w 12 5))))
  | 1 => need (fld w 7 5 = 0 ∧ fld w 17 5 = 0 ∧ fld w 27 5 = 0) .reserved (.ok (.popcmd (Fin.ofNat 32 (fld w 12 5))))
  | 2 => need (fld w 7 5 = 0 ∧ fld w 17 5 = 0 ∧ fld w 27 5 = 0) .reserved (.ok (.migrate (Fin.ofNat 32 (fld w 12 5))))
  | 3 => need (fld w 7 5 = 0 ∧ fld w 27 5 = 0) .reserved (.ok (.mutcopy (Fin.ofNat 32 (fld w 17 5)) (Fin.ofNat 32 (fld w 12 5))))
  | _ => .error .selector

/-- Major 0x3C, CTRL (05 Table 05-2). -/
def decCtrl (w : Nat) : Except Reject Instr :=
  match fld w 22 5 with
  | 0 => need (fld w 12 5 = 0) .reserved (.ok (.mfc (BitVec.ofNat 10 (fld w 27 5 * 32 + fld w 17 5)) (Fin.ofNat 32 (fld w 7 5))))
  | 1 => need (fld w 7 5 = 0) .reserved (.ok (.mtc (BitVec.ofNat 10 (fld w 27 5 * 32 + fld w 17 5)) (Fin.ofNat 32 (fld w 12 5))))
  | 2 => .ok (.msetb (BitVec.ofNat 10 (fld w 27 5 * 32 + fld w 17 5)) (Fin.ofNat 32 (fld w 12 5)) (Fin.ofNat 32 (fld w 7 5)))
  | 3 => .ok (.mclrb (BitVec.ofNat 10 (fld w 27 5 * 32 + fld w 17 5)) (Fin.ofNat 32 (fld w 12 5)) (Fin.ofNat 32 (fld w 7 5)))
  | _ => .error .selector

/-- Major 0x3D, SYS (05 Table 05-2). -/
def decSys (w : Nat) : Except Reject Instr :=
  match fld w 22 5 with
  | 0 => need (fld w 7 5 = 0 ∧ fld w 17 5 = 0 ∧ fld w 27 5 = 0) .reserved (.ok (.trap (Fin.ofNat 32 (fld w 12 5))))
  | 1 => need (fld w 7 5 = 0 ∧ fld w 17 5 = 0 ∧ fld w 27 5 = 0) .reserved (.ok (.brk (Fin.ofNat 32 (fld w 12 5))))
  | 2 => need (fld w 7 15 = 0 ∧ fld w 27 5 = 0) .reserved (.ok (.eret))
  | 3 => need (fld w 17 5 = 0 ∧ fld w 27 5 = 0) .reserved (.ok (.reinj (Fin.ofNat 32 (fld w 12 5)) (Fin.ofNat 32 (fld w 7 5))))
  | 4 =>
    match fld w 27 5 with
    | 0 => need (fld w 7 5 = 0) .reserved (.ok (.tlbinv (Fin.ofNat 32 (fld w 17 5)) (Fin.ofNat 32 (fld w 12 5))))
    | 1 => need (fld w 7 10 = 0) .reserved (.ok (.tlbinvAsid (Fin.ofNat 32 (fld w 17 5))))
    | 2 => need (fld w 7 15 = 0) .reserved (.ok (.tlbinvAll))
    | _ => .error .subfield
  | 5 => need (fld w 28 4 = 0) .reserved (.ok (.quiesce (bitOf w 27) (Fin.ofNat 32 (fld w 17 5)) (Fin.ofNat 32 (fld w 12 5)) (Fin.ofNat 32 (fld w 7 5))))
  | 6 => need (fld w 27 5 = 0) .reserved (.ok (.resume (Fin.ofNat 32 (fld w 17 5)) (Fin.ofNat 32 (fld w 12 5)) (Fin.ofNat 32 (fld w 7 5))))
  | 7 => need (fld w 7 5 = 0 ∧ fld w 17 5 = 0 ∧ fld w 27 5 = 0) .reserved (.ok (.pkill (Fin.ofNat 32 (fld w 12 5))))
  | 8 => need (fld w 17 5 = 0 ∧ fld w 27 5 = 0) .reserved (.ok (.savep (Fin.ofNat 32 (fld w 12 5)) (Fin.ofNat 32 (fld w 7 5))))
  | 9 => need (fld w 17 5 = 0 ∧ fld w 27 5 = 0) .reserved (.ok (.restp (Fin.ofNat 32 (fld w 12 5)) (Fin.ofNat 32 (fld w 7 5))))
  | 10 => need (fld w 7 15 = 0 ∧ fld w 27 5 = 0) .reserved (.ok (.wfi))
  | _ => .error .selector

/-- A 32-bit word, `w % 2 = 1` (R98, R100). -/
def decode32 (w : Nat) : Except Reject Instr :=
  match fld w 1 6 with
  | 1 => decInt w
  | 2 => decAddi w
  | 3 => decAndi w
  | 4 => decOri w
  | 5 => decXori w
  | 6 => decSlti w
  | 7 => decSltiu w
  | 8 => decShi w
  | 9 => decLui w
  | 10 => decAuipc w
  | 11 => decBr w
  | 12 => decJal w
  | 13 => decJalr w
  | 14 => decLd w
  | 15 => decSt w
  | 16 => decAtom w
  | 17 => decVer w
  | 18 => decSync w
  | 19 => decMsg w
  | 20 => decXfer w
  | 21 => decTmap w
  | 22 => decMat w
  | 23 => decVari w
  | 24 => decVred w
  | 25 => decVmem w
  | 26 => decVwit w
  | 27 => decColl w
  | 28 => decPop w
  | 60 => decCtrl w
  | 61 => decSys w
  | _ => .error .major

/-- A compact halfword, `w % 2 = 0` (R105, Table 05-4). -/
def decode16 (w : Nat) : Except Reject Instr :=
  match fld w 1 5 with
  | 1 => .ok (.cMv (Fin.ofNat 32 (fld w 11 5)) (Fin.ofNat 32 (fld w 6 5)))
  | 2 => .ok (.cAdd (Fin.ofNat 32 (fld w 11 5)) (Fin.ofNat 32 (fld w 6 5)))
  | 3 => .ok (.cSub (Fin.ofNat 32 (fld w 11 5)) (Fin.ofNat 32 (fld w 6 5)))
  | 4 => .ok (.cAddi (BitVec.ofNat 5 (fld w 11 5)) (Fin.ofNat 32 (fld w 6 5)))
  | 5 => .ok (.cLi (BitVec.ofNat 5 (fld w 11 5)) (Fin.ofNat 32 (fld w 6 5)))
  | 6 => .ok (.cSlli (BitVec.ofNat 5 (fld w 11 5)) (Fin.ofNat 32 (fld w 6 5)))
  | 7 => .ok (.cSrai (BitVec.ofNat 5 (fld w 11 5)) (Fin.ofNat 32 (fld w 6 5)))
  | 8 => .ok (.cAnd (Fin.ofNat 32 (fld w 11 5)) (Fin.ofNat 32 (fld w 6 5)))
  | 9 => .ok (.cLdd (Fin.ofNat 32 (fld w 11 5)) (Fin.ofNat 32 (fld w 6 5)))
  | 10 => .ok (.cStd (Fin.ofNat 32 (fld w 11 5)) (Fin.ofNat 32 (fld w 6 5)))
  | 11 => .ok (.cLdw (Fin.ofNat 32 (fld w 11 5)) (Fin.ofNat 32 (fld w 6 5)))
  | 12 => .ok (.cStw (Fin.ofNat 32 (fld w 11 5)) (Fin.ofNat 32 (fld w 6 5)))
  | 13 => .ok (.cBeqz (BitVec.ofNat 5 (fld w 11 5)) (Fin.ofNat 32 (fld w 6 5)))
  | 14 => .ok (.cBnez (BitVec.ofNat 5 (fld w 11 5)) (Fin.ofNat 32 (fld w 6 5)))
  | 15 => .ok (.cJ (BitVec.ofNat 10 (fld w 6 5 * 32 + fld w 11 5)))
  | 16 => need (fld w 7 4 = 0) .compactField (.ok (.cJr (Fin.ofNat 32 (fld w 11 5)) (bitOf w 6)))
  | 17 => need (fld w 12 4 ≠ 0) .compactField (.ok (.cRep (BitVec.ofNat 4 (fld w 12 4)) (BitVec.ofNat 6 (fld w 6 6))))
  | 18 => need (fld w 6 10 = 0) .compactField (.ok (.cEndh))
  | 19 => need (fld w 6 10 = 0) .compactField (.ok (.cNop))
  | 20 => need (fld w 6 10 = 0) .compactField (.ok (.cYield))
  | _ => .error .compactOp

/-- The instruction at the head of a list of bytes, with its length in bytes (R74, R98). -/
def decode : List Byte → Except Reject (Instr × Nat)
  | b0 :: b1 :: rest =>
    let h0 := b0.toNat + 256 * b1.toNat
    if h0 % 2 = 0 then (decode16 h0).map (fun i => (i, 2))
    else
      match rest with
      | b2 :: b3 :: _ => (decode32 (h0 + 65536 * (b2.toNat + 256 * b3.toNat))).map (fun i => (i, 4))
      | _ => .error .short
  | _ => .error .short

/-- Byte `k` of a number, little-endian (00 R4). -/
def byteAt (w k : Nat) : Byte := BitVec.ofNat 8 (w / 256 ^ k)

/-- The four bytes of a word or the two of a halfword, zero above `nbits`. -/
def tableBytes (nbits w : Nat) : List Byte :=
  let v := w % 2 ^ nbits
  [byteAt v 0, byteAt v 1, byteAt v 2, byteAt v 3]

/-- The instruction the decoder reads from an instruction whose bits are `w`. -/
def decodeTableWord (nbits w : Nat) : Option Instr :=
  match decode (tableBytes nbits w) with
  | .ok (i, _) => some i
  | .error _ => none

/-- The length of an instruction in bytes (R74); 0 for an event. -/
def Instr.len : Instr → Nat
  | .cMv .. | .cAdd .. | .cSub .. | .cAddi .. | .cLi .. | .cSlli .. | .cSrai .. | .cAnd .. | .cLdd ..
  | .cStd .. | .cLdw .. | .cStw .. | .cBeqz .. | .cBnez .. | .cJ .. | .cJr .. | .cRep .. | .cEndh | .cNop
  | .cYield => 2
  | i => if i.isInstr then 4 else 0

/-! Packing of field values at their positions into a word. -/
def pk1 (base v0 k0 : Nat) : Nat := base + v0 * 2 ^ k0
def pk2 (base v0 k0 v1 k1 : Nat) : Nat := base + v0 * 2 ^ k0 + v1 * 2 ^ k1
def pk3 (base v0 k0 v1 k1 v2 k2 : Nat) : Nat := base + v0 * 2 ^ k0 + v1 * 2 ^ k1 + v2 * 2 ^ k2
def pk4 (base v0 k0 v1 k1 v2 k2 v3 k3 : Nat) : Nat := base + v0 * 2 ^ k0 + v1 * 2 ^ k1 + v2 * 2 ^ k2 + v3 * 2 ^ k3
def pk5 (base v0 k0 v1 k1 v2 k2 v3 k3 v4 k4 : Nat) : Nat := base + v0 * 2 ^ k0 + v1 * 2 ^ k1 + v2 * 2 ^ k2 + v3 * 2 ^ k3 + v4 * 2 ^ k4
def pk6 (base v0 k0 v1 k1 v2 k2 v3 k3 v4 k4 v5 k5 : Nat) : Nat := base + v0 * 2 ^ k0 + v1 * 2 ^ k1 + v2 * 2 ^ k2 + v3 * 2 ^ k3 + v4 * 2 ^ k4 + v5 * 2 ^ k5

/-- The word (or halfword) of an instruction, from the encoding tables of 04 and 05; 0 for an event. -/
def Instr.word : Instr → Nat
  | .add w b a d => pk4 0x3 (b2n w) 27 b.val 17 a.val 12 d.val 7
  | .sub w b a d => pk4 0x400003 (b2n w) 27 b.val 17 a.val 12 d.val 7
  | .and w b a d => pk4 0x800003 (b2n w) 27 b.val 17 a.val 12 d.val 7
  | .or w b a d => pk4 0xC00003 (b2n w) 27 b.val 17 a.val 12 d.val 7
  | .xor w b a d => pk4 0x1000003 (b2n w) 27 b.val 17 a.val 12 d.val 7
  | .andn w b a d => pk4 0x1400003 (b2n w) 27 b.val 17 a.val 12 d.val 7
  | .sll w b a d => pk4 0x1800003 (b2n w) 27 b.val 17 a.val 12 d.val 7
  | .srl w b a d => pk4 0x1C00003 (b2n w) 27 b.val 17 a.val 12 d.val 7
  | .sra w b a d => pk4 0x2000003 (b2n w) 27 b.val 17 a.val 12 d.val 7
  | .rol w b a d => pk4 0x2400003 (b2n w) 27 b.val 17 a.val 12 d.val 7
  | .mul w b a d => pk4 0x2800003 (b2n w) 27 b.val 17 a.val 12 d.val 7
  | .mulh w b a d => pk4 0x2C00003 (b2n w) 27 b.val 17 a.val 12 d.val 7
  | .mulhu w b a d => pk4 0x3000003 (b2n w) 27 b.val 17 a.val 12 d.val 7
  | .div w b a d => pk4 0x3400003 (b2n w) 27 b.val 17 a.val 12 d.val 7
  | .divu w b a d => pk4 0x3800003 (b2n w) 27 b.val 17 a.val 12 d.val 7
  | .rem w b a d => pk4 0x3C00003 (b2n w) 27 b.val 17 a.val 12 d.val 7
  | .remu w b a d => pk4 0x4000003 (b2n w) 27 b.val 17 a.val 12 d.val 7
  | .min w b a d => pk4 0x4400003 (b2n w) 27 b.val 17 a.val 12 d.val 7
  | .max w b a d => pk4 0x4800003 (b2n w) 27 b.val 17 a.val 12 d.val 7
  | .minu w b a d => pk4 0x4C00003 (b2n w) 27 b.val 17 a.val 12 d.val 7
  | .maxu w b a d => pk4 0x5000003 (b2n w) 27 b.val 17 a.val 12 d.val 7
  | .slt w b a d => pk4 0x5400003 (b2n w) 27 b.val 17 a.val 12 d.val 7
  | .sltu w b a d => pk4 0x5800003 (b2n w) 27 b.val 17 a.val 12 d.val 7
  | .clz w a d => pk3 0x5C00003 (b2n w) 27 a.val 12 d.val 7
  | .ctz w a d => pk3 0x6000003 (b2n w) 27 a.val 12 d.val 7
  | .popc w a d => pk3 0x6400003 (b2n w) 27 a.val 12 d.val 7
  | .sext sz a d => pk3 0x6800003 sz.toNat 17 a.val 12 d.val 7
  | .zext sz a d => pk3 0x6C00003 sz.toNat 17 a.val 12 d.val 7
  | .addi imm a d => pk3 0x5 imm.toNat 17 a.val 12 d.val 7
  | .andi imm a d => pk3 0x7 imm.toNat 17 a.val 12 d.val 7
  | .ori imm a d => pk3 0x9 imm.toNat 17 a.val 12 d.val 7
  | .xori imm a d => pk3 0xB imm.toNat 17 a.val 12 d.val 7
  | .slti imm a d => pk3 0xD imm.toNat 17 a.val 12 d.val 7
  | .sltiu imm a d => pk3 0xF imm.toNat 17 a.val 12 d.val 7
  | .slli w sh a d => pk4 0x11 (b2n w) 25 sh.toNat 17 a.val 12 d.val 7
  | .srli w sh a d => pk4 0x800011 (b2n w) 25 sh.toNat 17 a.val 12 d.val 7
  | .srai w sh a d => pk4 0x1000011 (b2n w) 25 sh.toNat 17 a.val 12 d.val 7
  | .lui imm d => pk2 0x13 imm.toNat 12 d.val 7
  | .auipc imm d => pk2 0x15 imm.toNat 12 d.val 7
  | .beq off b a => pk3 0x17 off.toNat 20 b.val 12 a.val 7
  | .bne off b a => pk3 0x20017 off.toNat 20 b.val 12 a.val 7
  | .blt off b a => pk3 0x40017 off.toNat 20 b.val 12 a.val 7
  | .bge off b a => pk3 0x60017 off.toNat 20 b.val 12 a.val 7
  | .bltu off b a => pk3 0x80017 off.toNat 20 b.val 12 a.val 7
  | .bgeu off b a => pk3 0xA0017 off.toNat 20 b.val 12 a.val 7
  | .jal off d => pk2 0x19 off.toNat 12 d.val 7
  | .jalr imm a d => pk3 0x1B imm.toNat 17 a.val 12 d.val 7
  | .ldb off sc acq a t => pk5 0x1D off.toNat 25 sc.toNat 22 (b2n acq) 20 a.val 12 t.val 7
  | .ldbu off sc acq a t => pk5 0x8001D off.toNat 25 sc.toNat 22 (b2n acq) 20 a.val 12 t.val 7
  | .ldh off sc acq a t => pk5 0x2001D off.toNat 25 sc.toNat 22 (b2n acq) 20 a.val 12 t.val 7
  | .ldhu off sc acq a t => pk5 0xA001D off.toNat 25 sc.toNat 22 (b2n acq) 20 a.val 12 t.val 7
  | .ldw off sc acq a t => pk5 0x4001D off.toNat 25 sc.toNat 22 (b2n acq) 20 a.val 12 t.val 7
  | .ldwu off sc acq a t => pk5 0xC001D off.toNat 25 sc.toNat 22 (b2n acq) 20 a.val 12 t.val 7
  | .ldd off sc acq a t => pk5 0x6001D off.toNat 25 sc.toNat 22 (b2n acq) 20 a.val 12 t.val 7
  | .stb off sc rel a t => pk5 0x1F off.toNat 25 sc.toNat 22 (b2n rel) 21 a.val 12 t.val 7
  | .sth off sc rel a t => pk5 0x2001F off.toNat 25 sc.toNat 22 (b2n rel) 21 a.val 12 t.val 7
  | .stw off sc rel a t => pk5 0x4001F off.toNat 25 sc.toNat 22 (b2n rel) 21 a.val 12 t.val 7
  | .std off sc rel a t => pk5 0x6001F off.toNat 25 sc.toNat 22 (b2n rel) 21 a.val 12 t.val 7
  | .ldl sc acq w a d => pk5 0x21 sc.toNat 30 (b2n acq) 28 (b2n w) 27 a.val 12 d.val 7
  | .stu sc rel w b a => pk5 0x400021 sc.toNat 30 (b2n rel) 29 (b2n w) 27 b.val 17 a.val 12
  | .amoadd sc ord w b a d => pk6 0x800021 sc.toNat 30 ord.toNat 28 (b2n w) 27 b.val 17 a.val 12 d.val 7
  | .amoand sc ord w b a d => pk6 0xC00021 sc.toNat 30 ord.toNat 28 (b2n w) 27 b.val 17 a.val 12 d.val 7
  | .amoor sc ord w b a d => pk6 0x1000021 sc.toNat 30 ord.toNat 28 (b2n w) 27 b.val 17 a.val 12 d.val 7
  | .amoxor sc ord w b a d => pk6 0x1400021 sc.toNat 30 ord.toNat 28 (b2n w) 27 b.val 17 a.val 12 d.val 7
  | .amomin sc ord w b a d => pk6 0x1800021 sc.toNat 30 ord.toNat 28 (b2n w) 27 b.val 17 a.val 12 d.val 7
  | .amomax sc ord w b a d => pk6 0x1C00021 sc.toNat 30 ord.toNat 28 (b2n w) 27 b.val 17 a.val 12 d.val 7
  | .amominu sc ord w b a d => pk6 0x2000021 sc.toNat 30 ord.toNat 28 (b2n w) 27 b.val 17 a.val 12 d.val 7
  | .amomaxu sc ord w b a d => pk6 0x2400021 sc.toNat 30 ord.toNat 28 (b2n w) 27 b.val 17 a.val 12 d.val 7
  | .amoswp sc ord w b a d => pk6 0x2800021 sc.toNat 30 ord.toNat 28 (b2n w) 27 b.val 17 a.val 12 d.val 7
  | .amocas sc ord w b a d => pk6 0x2C00021 sc.toNat 30 ord.toNat 28 (b2n w) 27 b.val 17 a.val 12 d.val 7
  | .amofadd sc ord w b a d => pk6 0x3000021 sc.toNat 30 ord.toNat 28 (b2n w) 27 b.val 17 a.val 12 d.val 7
  | .ldv b a d => pk3 0x23 b.val 17 a.val 12 d.val 7
  | .stv b a d => pk3 0x400023 b.val 17 a.val 12 d.val 7
  | .vrcl b a => pk2 0x800023 b.val 17 a.val 12
  | .vprobe a d => pk2 0xC00023 a.val 12 d.val 7
  | .fence sc => pk1 0x25 sc.toNat 27
  | .fenceE sc => pk1 0x400025 sc.toNat 27
  | .fenceI => 0x800025
  | .bararv a d => pk2 0xC00025 a.val 12 d.val 7
  | .barwait b a d => pk3 0x1000025 b.val 17 a.val 12 d.val 7
  | .marm a => pk1 0x1400025 a.val 12
  | .mwait a d => pk2 0x1800025 a.val 12 d.val 7
  | .send b a d => pk3 0x27 b.val 17 a.val 12 d.val 7
  | .sendv b a v => pk3 0x400027 b.val 17 a.val 12 v.val 7
  | .endh => 0x800027
  | .qbind vq wr id d => pk4 0xC00027 (b2n vq) 28 (b2n wr) 27 id.val 17 d.val 7
  | .qunbind vq d => pk2 0x1000027 (b2n vq) 28 d.val 7
  | .qpoll id d => pk2 0x1400027 id.val 17 d.val 7
  | .taskadd a => pk1 0x1800027 a.val 12
  | .tasktake a d => pk2 0x1C00027 a.val 12 d.val 7
  | .tileget d => pk1 0x2000027 d.val 7
  | .copy g mt ms d => pk4 0x29 g.val 27 mt.val 17 ms.val 12 d.val 7
  | .fetch g mt ms d => pk4 0x400029 g.val 27 mt.val 17 ms.val 12 d.val 7
  | .store g mt s v => pk4 0x800029 g.val 27 mt.val 17 s.val 12 v.val 7
  | .tier g mt ms d => pk4 0xC00029 g.val 27 mt.val 17 ms.val 12 d.val 7
  | .txbinit g d => pk2 0x1000029 g.val 27 d.val 7
  | .txbarv g d => pk2 0x1400029 g.val 27 d.val 7
  | .txbwait g s d => pk3 0x1800029 g.val 27 s.val 12 d.val 7
  | .txbtest g s d => pk3 0x1C00029 g.val 27 s.val 12 d.val 7
  | .shopen g s d => pk3 0x2000029 g.val 27 s.val 12 d.val 7
  | .publish close sc ms d => pk4 0x2400029 (b2n close) 20 sc.toNat 17 ms.val 12 d.val 7
  | .tmld g ms => pk2 0x2B g.val 27 ms.val 12
  | .tmst g ms => pk2 0x40002B g.val 27 ms.val 12
  | .tmset g f ms => pk3 0x80002B g.val 27 f.val 17 ms.val 12
  | .tmget f ms d => pk3 0xC0002B f.val 17 ms.val 12 d.val 7
  | .tmsync ms => pk1 0x100002B ms.val 12
  | .wload g tr ms d => pk4 0x140002B g.val 27 (b2n tr) 17 ms.val 12 d.val 7
  | .wfree d => pk1 0x180002B d.val 7
  | .mld g pair tr ms v => pk5 0x1C0002B g.val 27 (b2n pair) 18 (b2n tr) 17 ms.val 12 v.val 7
  | .mst g pair tr ms v => pk5 0x200002B g.val 27 (b2n pair) 18 (b2n tr) 17 ms.val 12 v.val 7
  | .mma chk z k wb a c => pk6 0x2D (b2n chk) 28 (b2n z) 27 k.toNat 20 wb.val 15 a.val 11 c.val 8
  | .msoft k a c => pk3 0x40002D k.toNat 15 a.val 11 c.val 8
  | .msfin k c => pk2 0x80002D k.toNat 15 c.val 8
  | .mzero k => pk1 0xC0002D k.toNat 15
  | .mchk k wb a c => pk4 0x100002D k.toNat 20 wb.val 15 a.val 11 c.val 8
  | .vadd e p b a d => pk5 0x2F e.toNat 22 p.val 19 b.val 15 a.val 11 d.val 7
  | .vsub e p b a d => pk5 0x400002F e.toNat 22 p.val 19 b.val 15 a.val 11 d.val 7
  | .vmul e p b a d => pk5 0x800002F e.toNat 22 p.val 19 b.val 15 a.val 11 d.val 7
  | .vfma e p b a d => pk5 0xC00002F e.toNat 22 p.val 19 b.val 15 a.val 11 d.val 7
  | .vmin e p b a d => pk5 0x1000002F e.toNat 22 p.val 19 b.val 15 a.val 11 d.val 7
  | .vmax e p b a d => pk5 0x1400002F e.toNat 22 p.val 19 b.val 15 a.val 11 d.val 7
  | .vabs e p a d => pk4 0x1800002F e.toNat 22 p.val 19 a.val 11 d.val 7
  | .vneg e p a d => pk4 0x1C00002F e.toNat 22 p.val 19 a.val 11 d.val 7
  | .vdiv e p b a d => pk5 0x2000002F e.toNat 22 p.val 19 b.val 15 a.val 11 d.val 7
  | .vsqrt e p a d => pk4 0x2400002F e.toNat 22 p.val 19 a.val 11 d.val 7
  | .vrsqrt e p a d => pk4 0x2800002F e.toNat 22 p.val 19 a.val 11 d.val 7
  | .vrcp e p a d => pk4 0x2C00002F e.toNat 22 p.val 19 a.val 11 d.val 7
  | .vexp2 e p a d => pk4 0x3000002F e.toNat 22 p.val 19 a.val 11 d.val 7
  | .vlog2 e p a d => pk4 0x3400002F e.toNat 22 p.val 19 a.val 11 d.val 7
  | .vand e p b a d => pk5 0x3800002F e.toNat 22 p.val 19 b.val 15 a.val 11 d.val 7
  | .vor e p b a d => pk5 0x3C00002F e.toNat 22 p.val 19 b.val 15 a.val 11 d.val 7
  | .vxor e p b a d => pk5 0x4000002F e.toNat 22 p.val 19 b.val 15 a.val 11 d.val 7
  | .vshl e p g a d => pk6 0x4400002F e.toNat 22 p.val 19 (g.val / 16) 31 (g.val % 16) 15 a.val 11 d.val 7
  | .vshr e p g a d => pk6 0x4800002F e.toNat 22 p.val 19 (g.val / 16) 31 (g.val % 16) 15 a.val 11 d.val 7
  | .vsel e p b a d => pk5 0x4C00002F e.toNat 22 p.val 19 b.val 15 a.val 11 d.val 7
  | .vcmpeq e p b a pd => pk5 0x5000002F e.toNat 22 p.val 19 b.val 15 a.val 11 pd.val 7
  | .vcmplt e p b a pd => pk5 0x5400002F e.toNat 22 p.val 19 b.val 15 a.val 11 pd.val 7
  | .vcmple e p b a pd => pk5 0x5800002F e.toNat 22 p.val 19 b.val 15 a.val 11 pd.val 7
  | .vcvt e p t a d => pk5 0x5C00002F e.toNat 22 p.val 19 t.toNat 15 a.val 11 d.val 7
  | .vaddw e p b a d => pk5 0x6000002F e.toNat 22 p.val 19 b.val 15 a.val 11 d.val 7
  | .vmacw e p b a d => pk5 0x6400002F e.toNat 22 p.val 19 b.val 15 a.val 11 d.val 7
  | .vnarrow e p sat a d => pk5 0x6800002F e.toNat 22 p.val 19 (b2n sat) 15 a.val 11 d.val 7
  | .vadds e p b a d => pk5 0x6C00002F e.toNat 22 p.val 19 b.val 15 a.val 11 d.val 7
  | .vclamp e p g a d => pk6 0x7000002F e.toNat 22 p.val 19 (g.val / 16) 31 (g.val % 16) 15 a.val 11 d.val 7
  | .vscan e p g a d => pk6 0x31 e.toNat 22 p.val 19 (g.val / 16) 31 (g.val % 16) 15 a.val 11 d.val 7
  | .vredsum e p a d => pk4 0x4000031 e.toNat 22 p.val 19 a.val 11 d.val 7
  | .vredmax e p a d => pk4 0x8000031 e.toNat 22 p.val 19 a.val 11 d.val 7
  | .vredmin e p a d => pk4 0xC000031 e.toNat 22 p.val 19 a.val 11 d.val 7
  | .vperm e p b a d => pk5 0x10000031 e.toNat 22 p.val 19 b.val 15 a.val 11 d.val 7
  | .vbcast e p g d => pk5 0x14000031 e.toNat 22 p.val 19 (g.val / 16) 31 (g.val % 16) 15 d.val 7
  | .vins e p g a d => pk6 0x18000031 e.toNat 22 p.val 19 (g.val / 16) 31 (g.val % 16) 15 a.val 11 d.val 7
  | .vext e p g a => pk5 0x1C000031 e.toNat 22 p.val 19 (g.val / 16) 31 (g.val % 16) 15 a.val 11
  | .vzero e p d => pk3 0x20000031 e.toNat 22 p.val 19 d.val 7
  | .vmov e p a d => pk4 0x24000031 e.toNat 22 p.val 19 a.val 11 d.val 7
  | .viota e p g d => pk5 0x28000031 e.toNat 22 p.val 19 (g.val / 16) 31 (g.val % 16) 15 d.val 7
  | .vld e p gb ga d => pk5 0x33 e.toNat 24 p.val 21 gb.val 16 ga.val 11 d.val 7
  | .vst e p gb ga d => pk5 0x10000033 e.toNat 24 p.val 21 gb.val 16 ga.val 11 d.val 7
  | .vlds e p gb ga d => pk5 0x20000033 e.toNat 24 p.val 21 gb.val 16 ga.val 11 d.val 7
  | .vsts e p gb ga d => pk5 0x30000033 e.toNat 24 p.val 21 gb.val 16 ga.val 11 d.val 7
  | .vgath e p i ga d => pk5 0x40000033 e.toNat 24 p.val 21 i.val 16 ga.val 11 d.val 7
  | .vscat e p i ga d => pk5 0x50000033 e.toNat 24 p.val 21 i.val 16 ga.val 11 d.val 7
  | .vwmax e n w a d => pk5 0x35 e.toNat 23 n.toNat 19 w.val 15 a.val 11 d.val 7
  | .vwmin e n w a d => pk5 0x8000035 e.toNat 23 n.toNat 19 w.val 15 a.val 11 d.val 7
  | .vwmed e n w a d => pk5 0x10000035 e.toNat 23 n.toNat 19 w.val 15 a.val 11 d.val 7
  | .vwclamp e n w a d => pk5 0x18000035 e.toNat 23 n.toNat 19 w.val 15 a.val 11 d.val 7
  | .vwssum e n w a d => pk5 0x20000035 e.toNat 23 n.toNat 19 w.val 15 a.val 11 d.val 7
  | .vadj e n w kd d => pk5 0x28000035 e.toNat 23 n.toNat 19 w.val 15 kd.toNat 11 d.val 7
  | .credSum mb ma g => pk3 0x7C00037 mb.val 17 ma.val 12 g.val 7
  | .credMax mw mb ma g => pk4 0x8000037 mw.val 22 mb.val 17 ma.val 12 g.val 7
  | .credMin mw mb ma g => pk4 0x10000037 mw.val 22 mb.val 17 ma.val 12 g.val 7
  | .credMed mw mb ma g => pk4 0x18000037 mw.val 22 mb.val 17 ma.val 12 g.val 7
  | .credSsum mw mb ma g => pk4 0x20000037 mw.val 22 mb.val 17 ma.val 12 g.val 7
  | .cbcast mb ma g => pk3 0x2FC00037 mb.val 17 ma.val 12 g.val 7
  | .cadj mw mb ma g => pk4 0x30000037 mw.val 22 mb.val 17 ma.val 12 g.val 7
  | .cjoin g => pk1 0x3FC00037 g.val 7
  | .cleave g => pk1 0x47C00037 g.val 7
  | .cview g => pk1 0x4FC00037 g.val 7
  | .crejoin g => pk1 0x57C00037 g.val 7
  | .fitset b a => pk2 0x39 b.val 17 a.val 12
  | .popcmd a => pk1 0x400039 a.val 12
  | .migrate a => pk1 0x800039 a.val 12
  | .mutcopy b a => pk2 0xC00039 b.val 17 a.val 12
  | .mfc n d => pk3 0x79 (n.toNat / 32) 27 (n.toNat % 32) 17 d.val 7
  | .mtc n a => pk3 0x400079 (n.toNat / 32) 27 (n.toNat % 32) 17 a.val 12
  | .msetb n a d => pk4 0x800079 (n.toNat / 32) 27 (n.toNat % 32) 17 a.val 12 d.val 7
  | .mclrb n a d => pk4 0xC00079 (n.toNat / 32) 27 (n.toNat % 32) 17 a.val 12 d.val 7
  | .trap a => pk1 0x7B a.val 12
  | .brk a => pk1 0x40007B a.val 12
  | .eret => 0x80007B
  | .reinj a d => pk2 0xC0007B a.val 12 d.val 7
  | .tlbinv b a => pk2 0x100007B b.val 17 a.val 12
  | .tlbinvAsid b => pk1 0x900007B b.val 17
  | .tlbinvAll => 0x1100007B
  | .quiesce drain b a d => pk4 0x140007B (b2n drain) 27 b.val 17 a.val 12 d.val 7
  | .resume b a d => pk3 0x180007B b.val 17 a.val 12 d.val 7
  | .pkill a => pk1 0x1C0007B a.val 12
  | .savep a d => pk2 0x200007B a.val 12 d.val 7
  | .restp a d => pk2 0x240007B a.val 12 d.val 7
  | .wfi => 0x280007B
  | .cMv a d => pk2 0x2 a.val 11 d.val 6
  | .cAdd a d => pk2 0x4 a.val 11 d.val 6
  | .cSub a d => pk2 0x6 a.val 11 d.val 6
  | .cAddi imm d => pk2 0x8 imm.toNat 11 d.val 6
  | .cLi imm d => pk2 0xA imm.toNat 11 d.val 6
  | .cSlli imm d => pk2 0xC imm.toNat 11 d.val 6
  | .cSrai imm d => pk2 0xE imm.toNat 11 d.val 6
  | .cAnd a d => pk2 0x10 a.val 11 d.val 6
  | .cLdd a d => pk2 0x12 a.val 11 d.val 6
  | .cStd a d => pk2 0x14 a.val 11 d.val 6
  | .cLdw a d => pk2 0x16 a.val 11 d.val 6
  | .cStw a d => pk2 0x18 a.val 11 d.val 6
  | .cBeqz imm d => pk2 0x1A imm.toNat 11 d.val 6
  | .cBnez imm d => pk2 0x1C imm.toNat 11 d.val 6
  | .cJ off => pk2 0x1E (off.toNat / 32) 6 (off.toNat % 32) 11
  | .cJr a link => pk2 0x20 a.val 11 (b2n link) 6
  | .cRep m n => pk2 0x22 m.toNat 12 n.toNat 6
  | .cEndh => 0x24
  | .cNop => 0x26
  | .cYield => 0x28
  | _ => 0

/-- The bytes of an instruction, little-endian (R4, R74); none for an event. -/
def encode (i : Instr) : List Byte :=
  (List.range i.len).map (byteAt i.word)

end Sys2Proof
end

