-- ==== Sys2Proof/Machine/Regs.lean ====
section
/-!
DEFINITION. What each instruction names (04 R75 to R90), its class at a stop (18 Table 18-5), how it may issue behind an
unfinished instruction (18 R329), and how a repeat steps it (04 R91, R92, 05 R104).
-/

namespace Sys2Proof

/-- Classes at a trap or stop (18 Table 18-5). -/
inductive Cls where
  | serial | waiting | finishing
  deriving DecidableEq, Repr

/-- How a younger instruction may issue behind unfinished ones (18 R329; DESIGN CHOICE, assumption log 2): not at all, whole
(scalar and register-only, or an MFC that never waits), for its checks only (a scalar access), or as one more unfinished
instruction. -/
inductive Look where
  | none | whole | check | queue
  deriving DecidableEq, Repr

/-- The registers an instruction names: g sources in the A, B and D places of 18 Table 18-7 (a G or GA field in the A
place, an MS or GB field in the B place: DESIGN CHOICE, assumption log 2), the g destination, v sources and the v destination. -/
structure Regs where
  a : Option (Fin 32) := none
  b : Option (Fin 32) := none
  d : Option (Fin 32) := none
  dst : Option (Fin 32) := none
  vs : List (Fin 16) := []
  vd : Option (Fin 16) := none
  deriving DecidableEq, Repr

/-- The registers each instruction names. An event names none. VFMA reads its old VD, so a write-bound VD is named as a source
(09 R185; DESIGN CHOICE, assumption log 85). -/
def Instr.regs : Instr → Regs
  | .add _ b a d => { a := some a, b := some b, dst := some d }
  | .sub _ b a d => { a := some a, b := some b, dst := some d }
  | .and _ b a d => { a := some a, b := some b, dst := some d }
  | .or _ b a d => { a := some a, b := some b, dst := some d }
  | .xor _ b a d => { a := some a, b := some b, dst := some d }
  | .andn _ b a d => { a := some a, b := some b, dst := some d }
  | .sll _ b a d => { a := some a, b := some b, dst := some d }
  | .srl _ b a d => { a := some a, b := some b, dst := some d }
  | .sra _ b a d => { a := some a, b := some b, dst := some d }
  | .rol _ b a d => { a := some a, b := some b, dst := some d }
  | .mul _ b a d => { a := some a, b := some b, dst := some d }
  | .mulh _ b a d => { a := some a, b := some b, dst := some d }
  | .mulhu _ b a d => { a := some a, b := some b, dst := some d }
  | .div _ b a d => { a := some a, b := some b, dst := some d }
  | .divu _ b a d => { a := some a, b := some b, dst := some d }
  | .rem _ b a d => { a := some a, b := some b, dst := some d }
  | .remu _ b a d => { a := some a, b := some b, dst := some d }
  | .min _ b a d => { a := some a, b := some b, dst := some d }
  | .max _ b a d => { a := some a, b := some b, dst := some d }
  | .minu _ b a d => { a := some a, b := some b, dst := some d }
  | .maxu _ b a d => { a := some a, b := some b, dst := some d }
  | .slt _ b a d => { a := some a, b := some b, dst := some d }
  | .sltu _ b a d => { a := some a, b := some b, dst := some d }
  | .clz _ a d => { a := some a, dst := some d }
  | .ctz _ a d => { a := some a, dst := some d }
  | .popc _ a d => { a := some a, dst := some d }
  | .sext _ a d => { a := some a, dst := some d }
  | .zext _ a d => { a := some a, dst := some d }
  | .addi _ a d => { a := some a, dst := some d }
  | .andi _ a d => { a := some a, dst := some d }
  | .ori _ a d => { a := some a, dst := some d }
  | .xori _ a d => { a := some a, dst := some d }
  | .slti _ a d => { a := some a, dst := some d }
  | .sltiu _ a d => { a := some a, dst := some d }
  | .slli _ _ a d => { a := some a, dst := some d }
  | .srli _ _ a d => { a := some a, dst := some d }
  | .srai _ _ a d => { a := some a, dst := some d }
  | .lui _ d => { dst := some d }
  | .auipc _ d => { dst := some d }
  | .beq _ b a => { a := some a, b := some b }
  | .bne _ b a => { a := some a, b := some b }
  | .blt _ b a => { a := some a, b := some b }
  | .bge _ b a => { a := some a, b := some b }
  | .bltu _ b a => { a := some a, b := some b }
  | .bgeu _ b a => { a := some a, b := some b }
  | .jal _ d => { dst := some d }
  | .jalr _ a d => { a := some a, dst := some d }
  | .ldb _ _ _ a t => { a := some a, dst := some t }
  | .ldbu _ _ _ a t => { a := some a, dst := some t }
  | .ldh _ _ _ a t => { a := some a, dst := some t }
  | .ldhu _ _ _ a t => { a := some a, dst := some t }
  | .ldw _ _ _ a t => { a := some a, dst := some t }
  | .ldwu _ _ _ a t => { a := some a, dst := some t }
  | .ldd _ _ _ a t => { a := some a, dst := some t }
  | .stb _ _ _ a t => { a := some a, d := some t }
  | .sth _ _ _ a t => { a := some a, d := some t }
  | .stw _ _ _ a t => { a := some a, d := some t }
  | .std _ _ _ a t => { a := some a, d := some t }
  | .ldl _ _ _ a d => { a := some a, dst := some d }
  | .stu _ _ _ b a => { a := some a, b := some b }
  | .amoadd _ _ _ b a d => { a := some a, b := some b, dst := some d }
  | .amoand _ _ _ b a d => { a := some a, b := some b, dst := some d }
  | .amoor _ _ _ b a d => { a := some a, b := some b, dst := some d }
  | .amoxor _ _ _ b a d => { a := some a, b := some b, dst := some d }
  | .amomin _ _ _ b a d => { a := some a, b := some b, dst := some d }
  | .amomax _ _ _ b a d => { a := some a, b := some b, dst := some d }
  | .amominu _ _ _ b a d => { a := some a, b := some b, dst := some d }
  | .amomaxu _ _ _ b a d => { a := some a, b := some b, dst := some d }
  | .amoswp _ _ _ b a d => { a := some a, b := some b, dst := some d }
  | .amocas _ _ _ b a d => { a := some a, b := some b, d := some d, dst := some d }
  | .amofadd _ _ _ b a d => { a := some a, b := some b, dst := some d }
  | .ldv b a d => { a := some a, b := some b, dst := some d }
  | .stv b a d => { a := some a, b := some b, d := some d }
  | .vrcl b a => { a := some a, b := some b }
  | .vprobe a d => { a := some a, dst := some d }
  | .bararv a d => { a := some a, dst := some d }
  | .barwait b a d => { a := some a, b := some b, dst := some d }
  | .marm a => { a := some a }
  | .mwait a d => { a := some a, dst := some d }
  | .send b a d => { a := some a, b := some b, d := some d }
  | .sendv b a v => { a := some a, b := some b, vs := [v] }
  | .qpoll _ d => { dst := some d }
  | .taskadd a => { a := some a }
  | .tasktake a d => { a := some a, dst := some d }
  | .tileget d => { dst := some d }
  | .copy g _ _ d => { a := some g, d := some d }
  | .fetch g _ _ d => { a := some g, d := some d }
  | .store g _ s v => { a := some g, b := some s, vs := [v] }
  | .tier g _ _ d => { a := some g, d := some d }
  | .txbinit g d => { a := some g, d := some d }
  | .txbarv g d => { a := some g, dst := some d }
  | .txbwait g s d => { a := some g, b := some s, dst := some d }
  | .txbtest g s d => { a := some g, b := some s, dst := some d }
  | .shopen g _ d => { a := some g, dst := some d }
  | .publish _ _ _ d => { dst := some d }
  | .tmld g _ => { a := some g }
  | .tmst g _ => { a := some g }
  | .tmset g _ _ => { a := some g }
  | .tmget _ _ d => { dst := some d }
  | .wload g _ _ _ => { a := some g }
  | .mld g _ _ _ v => { a := some g, vd := some v }
  | .mst g _ _ _ v => { a := some g, vs := [v] }
  | .mma _ _ _ _ a _ => { vs := [a] }
  | .msoft _ a _ => { vs := [a], vd := some a }
  | .mchk _ _ a _ => { vs := [a] }
  | .vadd _ _ b a d => { vs := [a, b], vd := some d }
  | .vsub _ _ b a d => { vs := [a, b], vd := some d }
  | .vmul _ _ b a d => { vs := [a, b], vd := some d }
  | .vfma _ _ b a d => { vs := [a, b, d], vd := some d }
  | .vmin _ _ b a d => { vs := [a, b], vd := some d }
  | .vmax _ _ b a d => { vs := [a, b], vd := some d }
  | .vabs _ _ a d => { vs := [a], vd := some d }
  | .vneg _ _ a d => { vs := [a], vd := some d }
  | .vdiv _ _ b a d => { vs := [a, b], vd := some d }
  | .vsqrt _ _ a d => { vs := [a], vd := some d }
  | .vrsqrt _ _ a d => { vs := [a], vd := some d }
  | .vrcp _ _ a d => { vs := [a], vd := some d }
  | .vexp2 _ _ a d => { vs := [a], vd := some d }
  | .vlog2 _ _ a d => { vs := [a], vd := some d }
  | .vand _ _ b a d => { vs := [a, b], vd := some d }
  | .vor _ _ b a d => { vs := [a, b], vd := some d }
  | .vxor _ _ b a d => { vs := [a, b], vd := some d }
  | .vshl _ _ g a d => { b := some g, vs := [a], vd := some d }
  | .vshr _ _ g a d => { b := some g, vs := [a], vd := some d }
  | .vsel _ _ b a d => { vs := [a, b], vd := some d }
  | .vcmpeq _ _ b a _ => { vs := [a, b] }
  | .vcmplt _ _ b a _ => { vs := [a, b] }
  | .vcmple _ _ b a _ => { vs := [a, b] }
  | .vcvt _ _ _ a d => { vs := [a], vd := some d }
  | .vaddw _ _ b a d => { vs := [a, b], vd := some d }
  | .vmacw _ _ b a d => { vs := [a, b, d], vd := some d }
  | .vnarrow _ _ _ a d => { vs := [a], vd := some d }
  | .vadds _ _ b a d => { vs := [a, b], vd := some d }
  | .vclamp _ _ g a d => { b := some g, vs := [a], vd := some d }
  | .vscan _ _ g a d => { b := some g, vs := [a], vd := some d }
  | .vredsum _ _ a d => { vs := [a], vd := some d }
  | .vredmax _ _ a d => { vs := [a], vd := some d }
  | .vredmin _ _ a d => { vs := [a], vd := some d }
  | .vperm _ _ b a d => { vs := [a, b], vd := some d }
  | .vbcast _ _ g d => { b := some g, vd := some d }
  | .vins _ _ g a d => { b := some g, vs := [a], vd := some d }
  | .vext _ _ g a => { b := some g, dst := some g, vs := [a] }
  | .vzero _ _ d => { vd := some d }
  | .vmov _ _ a d => { vs := [a], vd := some d }
  | .viota _ _ g d => { b := some g, vd := some d }
  | .vld _ _ gb ga d => { a := some ga, b := some gb, vd := some d }
  | .vst _ _ gb ga d => { a := some ga, b := some gb, vs := [d] }
  | .vlds _ _ gb ga d => { a := some ga, b := some gb, vd := some d }
  | .vsts _ _ gb ga d => { a := some ga, b := some gb, vs := [d] }
  | .vgath _ _ i ga d => { a := some ga, vs := [i], vd := some d }
  | .vscat _ _ i ga d => { a := some ga, vs := [i, d] }
  | .vwmax _ _ _ a d => { vs := [a], vd := some d }
  | .vwmin _ _ _ a d => { vs := [a], vd := some d }
  | .vwmed _ _ _ a d => { vs := [a], vd := some d }
  | .vwclamp _ _ _ a d => { vs := [a], vd := some d }
  | .vwssum _ _ _ a d => { vs := [a], vd := some d }
  | .vadj _ _ w _ d => { vs := [w, d], vd := some d }
  | .credSum _ _ g => { a := some g }
  | .credMax _ _ _ g => { a := some g }
  | .credMin _ _ _ g => { a := some g }
  | .credMed _ _ _ g => { a := some g }
  | .credSsum _ _ _ g => { a := some g }
  | .cbcast _ _ g => { a := some g }
  | .cadj _ _ _ g => { a := some g }
  | .cjoin g => { a := some g }
  | .cleave g => { a := some g }
  | .cview g => { a := some g }
  | .crejoin g => { a := some g }
  | .fitset b a => { a := some a, b := some b }
  | .popcmd a => { a := some a }
  | .migrate a => { a := some a }
  | .mutcopy b a => { a := some a, b := some b }
  | .mfc _ d => { dst := some d }
  | .mtc _ a => { a := some a }
  | .msetb _ a d => { a := some a, dst := some d }
  | .mclrb _ a d => { a := some a, dst := some d }
  | .trap a => { a := some a }
  | .brk a => { a := some a }
  | .reinj a d => { a := some a, dst := some d }
  | .tlbinv b a => { a := some a, b := some b }
  | .tlbinvAsid b => { b := some b }
  | .quiesce _ b a d => { a := some a, b := some b, dst := some d }
  | .resume b a d => { a := some a, b := some b, dst := some d }
  | .pkill a => { a := some a }
  | .savep a d => { a := some a, dst := some d }
  | .restp a d => { a := some a, dst := some d }
  | .cMv a d => { a := some a, dst := some d }
  | .cAdd a d => { a := some a, d := some d, dst := some d }
  | .cSub a d => { a := some a, d := some d, dst := some d }
  | .cAddi _ d => { d := some d, dst := some d }
  | .cLi _ d => { dst := some d }
  | .cSlli _ d => { d := some d, dst := some d }
  | .cSrai _ d => { d := some d, dst := some d }
  | .cAnd a d => { a := some a, d := some d, dst := some d }
  | .cLdd a d => { a := some a, dst := some d }
  | .cStd a d => { a := some a, d := some d }
  | .cLdw a d => { a := some a, dst := some d }
  | .cStw a d => { a := some a, d := some d }
  | .cBeqz _ d => { d := some d }
  | .cBnez _ d => { d := some d }
  | .cJr a link => { a := some a, dst := if link then some 1 else none }
  | _ => {}

/-- The class of an instruction (18 Table 18-5); one that names a bound port is waiting unless serialising. -/
def Instr.cls : Instr → Cls
  | .auipc .. | .beq .. | .bne .. | .blt .. | .bge .. | .bltu .. | .bgeu .. | .jal .. | .jalr .. | .bararv ..
  | .endh | .txbarv .. | .mfc .. | .mtc .. | .msetb .. | .mclrb .. | .trap .. | .brk .. | .eret | .reinj ..
  | .tlbinv .. | .tlbinvAsid .. | .tlbinvAll | .quiesce .. | .resume .. | .pkill .. | .savep .. | .restp ..
  | .wfi | .cBeqz .. | .cBnez .. | .cJ .. | .cJr .. | .cRep .. | .cEndh => .serial
  | .ldl .. | .stu .. | .amoadd .. | .amoand .. | .amoor .. | .amoxor .. | .amomin .. | .amomax .. | .amominu ..
  | .amomaxu .. | .amoswp .. | .amocas .. | .amofadd .. | .ldv .. | .stv .. | .fence .. | .fenceE ..
  | .barwait .. | .mwait .. | .send .. | .sendv .. | .taskadd .. | .tasktake .. | .copy .. | .fetch ..
  | .store .. | .tier .. | .txbwait .. | .txbtest .. | .publish .. | .tmsync .. | .credSum .. | .credMax ..
  | .credMin .. | .credMed .. | .credSsum .. | .cbcast .. | .cadj .. | .cjoin .. | .cleave .. | .cview ..
  | .crejoin .. | .popcmd .. | .migrate .. | .mutcopy .. => .waiting
  | .mma chk _ _ _ _ _ => if chk then .serial else .finishing
  | _ => .finishing

/-- How an instruction may issue behind an unfinished one. -/
def Instr.look : Instr → Look
  | .add .. | .sub .. | .and .. | .or .. | .xor .. | .andn .. | .sll .. | .srl .. | .sra .. | .rol .. | .mul ..
  | .mulh .. | .mulhu .. | .div .. | .divu .. | .rem .. | .remu .. | .min .. | .max .. | .minu .. | .maxu ..
  | .slt .. | .sltu .. | .clz .. | .ctz .. | .popc .. | .sext .. | .zext .. | .addi .. | .andi .. | .ori ..
  | .xori .. | .slti .. | .sltiu .. | .slli .. | .srli .. | .srai .. | .lui .. | .auipc .. | .beq .. | .bne ..
  | .blt .. | .bge .. | .bltu .. | .bgeu .. | .jal .. | .jalr .. | .trap .. | .brk .. | .cMv .. | .cAdd ..
  | .cSub .. | .cAddi .. | .cLi .. | .cSlli .. | .cSrai .. | .cAnd .. | .cBeqz .. | .cBnez .. | .cJ .. | .cJr ..
  | .cNop | .cYield => .whole
  | .mfc n _ => if n.toNat = 0x007 ∨ n.toNat = 0x00F then .whole else .none
  | .ldb .. | .ldbu .. | .ldh .. | .ldhu .. | .ldw .. | .ldwu .. | .ldd .. | .stb .. | .sth .. | .stw ..
  | .std .. | .vrcl .. | .vprobe .. | .marm .. | .cLdd .. | .cStd .. | .cLdw .. | .cStw .. => .check
  | .ldl .. | .stu .. | .amoadd .. | .amoand .. | .amoor .. | .amoxor .. | .amomin .. | .amomax .. | .amominu ..
  | .amomaxu .. | .amoswp .. | .amocas .. | .amofadd .. | .ldv .. | .stv .. | .fence .. | .fenceE .. | .barwait ..
  | .mwait .. | .taskadd .. | .tasktake .. | .txbwait .. | .txbtest .. => .queue
  | _ => .none

/-- True of the operations on a cluster's task queue and tile dispenser, which nothing younger issues before (14 R294). -/
def Instr.clusterOp : Instr → Bool
  | .taskadd .. | .tasktake .. | .tileget .. => true
  | _ => false

/-- True of an MFC of CYCLE or PKGID, which waits for nothing older (07 R152, R154). -/
def Instr.neverWaits : Instr → Bool
  | .mfc n _ => n.toNat == 0x007 || n.toNat == 0x00F
  | _ => false

/-- The width of a lane of an element type (06 Table 06-5). -/
def etBits (e : BitVec 4) : Nat := ((Fmt.ofET e.toNat 0).map Fmt.bits).getD 8

/-- The registers of a group or a run from its base, in order (09 R181, 12 R275). -/
def groupRegs (d : Fin 16) (r : Nat) : List (Fin 16) := (List.range r).map (fun k => Fin.ofNat 16 (d.val + k))

/-- The ratio r of a narrow type to its wide type (09 Table 09-4). -/
def wideRatio (e : BitVec 4) : Nat := Nat.min 4 (32 / etBits e)

/-- Every v register that an instruction reads as a source, those of pairs, groups and runs among them (18 Table 18-6,
VHELD; 09 R181, R192 to R194, 10 R219, R226 to R230, 12 R275, R276). -/
def Instr.vSources : Instr → List (Fin 16)
  | .mst _ pair _ _ v => groupRegs v (if pair then 2 else 1)
  | .mma _ z _ _ a c => a :: (if z then [] else groupRegs (Fin.ofNat 16 (2 * c.val)) 2)
  | .msoft _ a c => groupRegs a 2 ++ groupRegs (Fin.ofNat 16 (2 * c.val)) 2
  | .msfin _ c => groupRegs (Fin.ofNat 16 (2 * c.val)) 2
  | .vcvt e _ t a _ => groupRegs a (etBits t / Nat.min (etBits t) (etBits e))
  | .vmacw e _ b a d => [a, b] ++ groupRegs d (wideRatio e)
  | .vnarrow e _ _ a _ => groupRegs a (wideRatio e)
  | .vwmax _ n _ a _ => groupRegs a (n.toNat + 1)
  | .vwmin _ n _ a _ => groupRegs a (n.toNat + 1)
  | .vwmed _ n _ a _ => groupRegs a (n.toNat + 1)
  | .vwclamp _ n _ a _ => groupRegs a (n.toNat + 1)
  | .vwssum _ n _ a _ => groupRegs a (n.toNat + 1)
  | i => i.regs.vs

/-- A field stepped by a repeat (04 R91): its value and the highest register it may reach. -/
abbrev RepField := Option (Nat × Nat)

/-- The fields that mask bits 0 to 3 of a repeat step (04 Table 04-14), none where the target has no register there. A VC
pair counts by pairs, so its step of 2 is 1 here. -/
def Instr.repFields : Instr → List RepField
  | .add _ b a d => [some (d.val, 31), some (a.val, 31), some (b.val, 31)]
  | .sub _ b a d => [some (d.val, 31), some (a.val, 31), some (b.val, 31)]
  | .and _ b a d => [some (d.val, 31), some (a.val, 31), some (b.val, 31)]
  | .or _ b a d => [some (d.val, 31), some (a.val, 31), some (b.val, 31)]
  | .xor _ b a d => [some (d.val, 31), some (a.val, 31), some (b.val, 31)]
  | .andn _ b a d => [some (d.val, 31), some (a.val, 31), some (b.val, 31)]
  | .sll _ b a d => [some (d.val, 31), some (a.val, 31), some (b.val, 31)]
  | .srl _ b a d => [some (d.val, 31), some (a.val, 31), some (b.val, 31)]
  | .sra _ b a d => [some (d.val, 31), some (a.val, 31), some (b.val, 31)]
  | .rol _ b a d => [some (d.val, 31), some (a.val, 31), some (b.val, 31)]
  | .mul _ b a d => [some (d.val, 31), some (a.val, 31), some (b.val, 31)]
  | .mulh _ b a d => [some (d.val, 31), some (a.val, 31), some (b.val, 31)]
  | .mulhu _ b a d => [some (d.val, 31), some (a.val, 31), some (b.val, 31)]
  | .div _ b a d => [some (d.val, 31), some (a.val, 31), some (b.val, 31)]
  | .divu _ b a d => [some (d.val, 31), some (a.val, 31), some (b.val, 31)]
  | .rem _ b a d => [some (d.val, 31), some (a.val, 31), some (b.val, 31)]
  | .remu _ b a d => [some (d.val, 31), some (a.val, 31), some (b.val, 31)]
  | .min _ b a d => [some (d.val, 31), some (a.val, 31), some (b.val, 31)]
  | .max _ b a d => [some (d.val, 31), some (a.val, 31), some (b.val, 31)]
  | .minu _ b a d => [some (d.val, 31), some (a.val, 31), some (b.val, 31)]
  | .maxu _ b a d => [some (d.val, 31), some (a.val, 31), some (b.val, 31)]
  | .slt _ b a d => [some (d.val, 31), some (a.val, 31), some (b.val, 31)]
  | .sltu _ b a d => [some (d.val, 31), some (a.val, 31), some (b.val, 31)]
  | .clz _ a d => [some (d.val, 31), some (a.val, 31)]
  | .ctz _ a d => [some (d.val, 31), some (a.val, 31)]
  | .popc _ a d => [some (d.val, 31), some (a.val, 31)]
  | .sext _ a d => [some (d.val, 31), some (a.val, 31)]
  | .zext _ a d => [some (d.val, 31), some (a.val, 31)]
  | .addi _ a d => [some (d.val, 31), some (a.val, 31)]
  | .andi _ a d => [some (d.val, 31), some (a.val, 31)]
  | .ori _ a d => [some (d.val, 31), some (a.val, 31)]
  | .xori _ a d => [some (d.val, 31), some (a.val, 31)]
  | .slti _ a d => [some (d.val, 31), some (a.val, 31)]
  | .sltiu _ a d => [some (d.val, 31), some (a.val, 31)]
  | .slli _ _ a d => [some (d.val, 31), some (a.val, 31)]
  | .srli _ _ a d => [some (d.val, 31), some (a.val, 31)]
  | .srai _ _ a d => [some (d.val, 31), some (a.val, 31)]
  | .lui _ d => [some (d.val, 31)]
  | .auipc _ d => [some (d.val, 31)]
  | .ldb _ _ _ a t => [some (t.val, 31), some (a.val, 31)]
  | .ldbu _ _ _ a t => [some (t.val, 31), some (a.val, 31)]
  | .ldh _ _ _ a t => [some (t.val, 31), some (a.val, 31)]
  | .ldhu _ _ _ a t => [some (t.val, 31), some (a.val, 31)]
  | .ldw _ _ _ a t => [some (t.val, 31), some (a.val, 31)]
  | .ldwu _ _ _ a t => [some (t.val, 31), some (a.val, 31)]
  | .ldd _ _ _ a t => [some (t.val, 31), some (a.val, 31)]
  | .stb _ _ _ a t => [some (t.val, 31), some (a.val, 31)]
  | .sth _ _ _ a t => [some (t.val, 31), some (a.val, 31)]
  | .stw _ _ _ a t => [some (t.val, 31), some (a.val, 31)]
  | .std _ _ _ a t => [some (t.val, 31), some (a.val, 31)]
  | .ldl _ _ _ a d => [some (d.val, 31), some (a.val, 31)]
  | .stu _ _ _ b a => [none, some (a.val, 31), some (b.val, 31)]
  | .amoadd _ _ _ b a d => [some (d.val, 31), some (a.val, 31), some (b.val, 31)]
  | .amoand _ _ _ b a d => [some (d.val, 31), some (a.val, 31), some (b.val, 31)]
  | .amoor _ _ _ b a d => [some (d.val, 31), some (a.val, 31), some (b.val, 31)]
  | .amoxor _ _ _ b a d => [some (d.val, 31), some (a.val, 31), some (b.val, 31)]
  | .amomin _ _ _ b a d => [some (d.val, 31), some (a.val, 31), some (b.val, 31)]
  | .amomax _ _ _ b a d => [some (d.val, 31), some (a.val, 31), some (b.val, 31)]
  | .amominu _ _ _ b a d => [some (d.val, 31), some (a.val, 31), some (b.val, 31)]
  | .amomaxu _ _ _ b a d => [some (d.val, 31), some (a.val, 31), some (b.val, 31)]
  | .amoswp _ _ _ b a d => [some (d.val, 31), some (a.val, 31), some (b.val, 31)]
  | .amocas _ _ _ b a d => [some (d.val, 31), some (a.val, 31), some (b.val, 31)]
  | .amofadd _ _ _ b a d => [some (d.val, 31), some (a.val, 31), some (b.val, 31)]
  | .ldv b a d => [some (d.val, 31), some (a.val, 31), some (b.val, 31)]
  | .stv b a d => [some (d.val, 31), some (a.val, 31), some (b.val, 31)]
  | .vrcl b a => [none, some (a.val, 31), some (b.val, 31)]
  | .vprobe a d => [some (d.val, 31), some (a.val, 31)]
  | .bararv a d => [some (d.val, 31), some (a.val, 31)]
  | .barwait b a d => [some (d.val, 31), some (a.val, 31), some (b.val, 31)]
  | .marm a => [none, some (a.val, 31)]
  | .mwait a d => [some (d.val, 31), some (a.val, 31)]
  | .send b a d => [some (d.val, 31), some (a.val, 31), some (b.val, 31)]
  | .sendv b a v => [some (v.val, 15), some (a.val, 31), some (b.val, 31)]
  | .qbind vq _ _ d => [some (d.val, if vq then 15 else 31)]
  | .qunbind vq d => [some (d.val, if vq then 15 else 31)]
  | .qpoll _ d => [some (d.val, 31)]
  | .taskadd a => [none, some (a.val, 31)]
  | .tasktake a d => [some (d.val, 31), some (a.val, 31)]
  | .tileget d => [some (d.val, 31)]
  | .copy g mt ms d => [some (d.val, 31), some (ms.val, 31), some (mt.val, 31), some (g.val, 31)]
  | .fetch g mt ms d => [some (d.val, 31), some (ms.val, 31), some (mt.val, 31), some (g.val, 31)]
  | .store g mt s v => [some (v.val, 15), some (s.val, 31), some (mt.val, 31), some (g.val, 31)]
  | .tier g mt ms d => [some (d.val, 31), some (ms.val, 31), some (mt.val, 31), some (g.val, 31)]
  | .txbinit g d => [some (d.val, 31), none, none, some (g.val, 31)]
  | .txbarv g d => [some (d.val, 31), none, none, some (g.val, 31)]
  | .txbwait g s d => [some (d.val, 31), some (s.val, 31), none, some (g.val, 31)]
  | .txbtest g s d => [some (d.val, 31), some (s.val, 31), none, some (g.val, 31)]
  | .shopen g s d => [some (d.val, 31), some (s.val, 31), none, some (g.val, 31)]
  | .publish _ _ ms d => [some (d.val, 31), some (ms.val, 31)]
  | .tmld g ms => [none, some (ms.val, 31), none, some (g.val, 31)]
  | .tmst g ms => [none, some (ms.val, 31), none, some (g.val, 31)]
  | .tmset g _ ms => [none, some (ms.val, 31), none, some (g.val, 31)]
  | .tmget _ ms d => [some (d.val, 31), some (ms.val, 31)]
  | .tmsync ms => [none, some (ms.val, 31)]
  | .wload g _ ms d => [some (d.val, 31), some (ms.val, 31), none, some (g.val, 31)]
  | .wfree d => [some (d.val, 31)]
  | .mld g _ _ ms v => [some (v.val, 15), some (ms.val, 31), none, some (g.val, 31)]
  | .mst g _ _ ms v => [some (v.val, 15), some (ms.val, 31), none, some (g.val, 31)]
  | .mma _ _ _ wb a c => [some (c.val, 7), some (a.val, 15), some (wb.val, 31)]
  | .msoft _ a c => [some (c.val, 7), some (a.val, 15)]
  | .msfin _ c => [some (c.val, 7)]
  | .mchk _ wb a c => [some (c.val, 7), some (a.val, 15), some (wb.val, 31)]
  | .vadd _ _ b a d => [some (d.val, 15), some (a.val, 15), some (b.val, 15)]
  | .vsub _ _ b a d => [some (d.val, 15), some (a.val, 15), some (b.val, 15)]
  | .vmul _ _ b a d => [some (d.val, 15), some (a.val, 15), some (b.val, 15)]
  | .vfma _ _ b a d => [some (d.val, 15), some (a.val, 15), some (b.val, 15)]
  | .vmin _ _ b a d => [some (d.val, 15), some (a.val, 15), some (b.val, 15)]
  | .vmax _ _ b a d => [some (d.val, 15), some (a.val, 15), some (b.val, 15)]
  | .vabs _ _ a d => [some (d.val, 15), some (a.val, 15)]
  | .vneg _ _ a d => [some (d.val, 15), some (a.val, 15)]
  | .vdiv _ _ b a d => [some (d.val, 15), some (a.val, 15), some (b.val, 15)]
  | .vsqrt _ _ a d => [some (d.val, 15), some (a.val, 15)]
  | .vrsqrt _ _ a d => [some (d.val, 15), some (a.val, 15)]
  | .vrcp _ _ a d => [some (d.val, 15), some (a.val, 15)]
  | .vexp2 _ _ a d => [some (d.val, 15), some (a.val, 15)]
  | .vlog2 _ _ a d => [some (d.val, 15), some (a.val, 15)]
  | .vand _ _ b a d => [some (d.val, 15), some (a.val, 15), some (b.val, 15)]
  | .vor _ _ b a d => [some (d.val, 15), some (a.val, 15), some (b.val, 15)]
  | .vxor _ _ b a d => [some (d.val, 15), some (a.val, 15), some (b.val, 15)]
  | .vshl _ _ g a d => [some (d.val, 15), some (a.val, 15), some (g.val, 31)]
  | .vshr _ _ g a d => [some (d.val, 15), some (a.val, 15), some (g.val, 31)]
  | .vsel _ _ b a d => [some (d.val, 15), some (a.val, 15), some (b.val, 15)]
  | .vcmpeq _ _ b a pd => [some (pd.val, 7), some (a.val, 15), some (b.val, 15)]
  | .vcmplt _ _ b a pd => [some (pd.val, 7), some (a.val, 15), some (b.val, 15)]
  | .vcmple _ _ b a pd => [some (pd.val, 7), some (a.val, 15), some (b.val, 15)]
  | .vcvt _ _ _ a d => [some (d.val, 15), some (a.val, 15)]
  | .vaddw _ _ b a d => [some (d.val, 15), some (a.val, 15), some (b.val, 15)]
  | .vmacw _ _ b a d => [some (d.val, 15), some (a.val, 15), some (b.val, 15)]
  | .vnarrow _ _ _ a d => [some (d.val, 15), some (a.val, 15)]
  | .vadds _ _ b a d => [some (d.val, 15), some (a.val, 15), some (b.val, 15)]
  | .vclamp _ _ g a d => [some (d.val, 15), some (a.val, 15), some (g.val, 31)]
  | .vscan _ _ g a d => [some (d.val, 15), some (a.val, 15), some (g.val, 31)]
  | .vredsum _ _ a d => [some (d.val, 15), some (a.val, 15)]
  | .vredmax _ _ a d => [some (d.val, 15), some (a.val, 15)]
  | .vredmin _ _ a d => [some (d.val, 15), some (a.val, 15)]
  | .vperm _ _ b a d => [some (d.val, 15), some (a.val, 15), some (b.val, 15)]
  | .vbcast _ _ g d => [some (d.val, 15), none, some (g.val, 31)]
  | .vins _ _ g a d => [some (d.val, 15), some (a.val, 15), some (g.val, 31)]
  | .vext _ _ g a => [none, some (a.val, 15), some (g.val, 31)]
  | .vzero _ _ d => [some (d.val, 15)]
  | .vmov _ _ a d => [some (d.val, 15), some (a.val, 15)]
  | .viota _ _ g d => [some (d.val, 15), none, some (g.val, 31)]
  | .vld _ _ gb ga d => [some (d.val, 15), some (ga.val, 31), some (gb.val, 31)]
  | .vst _ _ gb ga d => [some (d.val, 15), some (ga.val, 31), some (gb.val, 31)]
  | .vlds _ _ gb ga d => [some (d.val, 15), some (ga.val, 31), some (gb.val, 31)]
  | .vsts _ _ gb ga d => [some (d.val, 15), some (ga.val, 31), some (gb.val, 31)]
  | .vgath _ _ i ga d => [some (d.val, 15), some (ga.val, 31), some (i.val, 15)]
  | .vscat _ _ i ga d => [some (d.val, 15), some (ga.val, 31), some (i.val, 15)]
  | .vwmax _ _ w a d => [some (d.val, 15), some (a.val, 15), some (w.val, 15)]
  | .vwmin _ _ w a d => [some (d.val, 15), some (a.val, 15), some (w.val, 15)]
  | .vwmed _ _ w a d => [some (d.val, 15), some (a.val, 15), some (w.val, 15)]
  | .vwclamp _ _ w a d => [some (d.val, 15), some (a.val, 15), some (w.val, 15)]
  | .vwssum _ _ w a d => [some (d.val, 15), some (a.val, 15), some (w.val, 15)]
  | .vadj _ _ w _ d => [some (d.val, 15), none, some (w.val, 15)]
  | .credSum mb ma g => [some (g.val, 31), some (ma.val, 31), some (mb.val, 31)]
  | .credMax mw mb ma g => [some (g.val, 31), some (ma.val, 31), some (mb.val, 31), if mw = 31 then none else some (mw.val, 31)]
  | .credMin mw mb ma g => [some (g.val, 31), some (ma.val, 31), some (mb.val, 31), if mw = 31 then none else some (mw.val, 31)]
  | .credMed mw mb ma g => [some (g.val, 31), some (ma.val, 31), some (mb.val, 31), if mw = 31 then none else some (mw.val, 31)]
  | .credSsum mw mb ma g => [some (g.val, 31), some (ma.val, 31), some (mb.val, 31), if mw = 31 then none else some (mw.val, 31)]
  | .cbcast mb ma g => [some (g.val, 31), some (ma.val, 31), some (mb.val, 31)]
  | .cadj mw mb ma g => [some (g.val, 31), some (ma.val, 31), some (mb.val, 31), if mw = 31 then none else some (mw.val, 31)]
  | .cjoin g => [some (g.val, 31)]
  | .cleave g => [some (g.val, 31)]
  | .cview g => [some (g.val, 31)]
  | .crejoin g => [some (g.val, 31)]
  | .fitset b a => [none, some (a.val, 31), some (b.val, 31)]
  | .popcmd a => [none, some (a.val, 31)]
  | .migrate a => [none, some (a.val, 31)]
  | .mutcopy b a => [none, some (a.val, 31), some (b.val, 31)]
  | .mfc _ d => [some (d.val, 31)]
  | .mtc _ a => [none, some (a.val, 31)]
  | .msetb _ a d => [some (d.val, 31), some (a.val, 31)]
  | .mclrb _ a d => [some (d.val, 31), some (a.val, 31)]
  | _ => []

/-- A register field at repetition `j` when mask bit `k` steps it. -/
def up {n : Nat} [NeZero n] (m : BitVec 4) (j k : Nat) (x : Fin n) : Fin n :=
  if m.getLsbD k then Fin.ofNat n (x.val + j) else x

/-- Repetition `j` of a repeated instruction (04 R91). An MW stepped from 30 to 31 stands as 31 (DESIGN CHOICE, assumption log
82). -/
def Instr.repAt (m : BitVec 4) (j : Nat) : Instr → Instr
  | .add w b a d => .add w (up m j 2 b) (up m j 1 a) (up m j 0 d)
  | .sub w b a d => .sub w (up m j 2 b) (up m j 1 a) (up m j 0 d)
  | .and w b a d => .and w (up m j 2 b) (up m j 1 a) (up m j 0 d)
  | .or w b a d => .or w (up m j 2 b) (up m j 1 a) (up m j 0 d)
  | .xor w b a d => .xor w (up m j 2 b) (up m j 1 a) (up m j 0 d)
  | .andn w b a d => .andn w (up m j 2 b) (up m j 1 a) (up m j 0 d)
  | .sll w b a d => .sll w (up m j 2 b) (up m j 1 a) (up m j 0 d)
  | .srl w b a d => .srl w (up m j 2 b) (up m j 1 a) (up m j 0 d)
  | .sra w b a d => .sra w (up m j 2 b) (up m j 1 a) (up m j 0 d)
  | .rol w b a d => .rol w (up m j 2 b) (up m j 1 a) (up m j 0 d)
  | .mul w b a d => .mul w (up m j 2 b) (up m j 1 a) (up m j 0 d)
  | .mulh w b a d => .mulh w (up m j 2 b) (up m j 1 a) (up m j 0 d)
  | .mulhu w b a d => .mulhu w (up m j 2 b) (up m j 1 a) (up m j 0 d)
  | .div w b a d => .div w (up m j 2 b) (up m j 1 a) (up m j 0 d)
  | .divu w b a d => .divu w (up m j 2 b) (up m j 1 a) (up m j 0 d)
  | .rem w b a d => .rem w (up m j 2 b) (up m j 1 a) (up m j 0 d)
  | .remu w b a d => .remu w (up m j 2 b) (up m j 1 a) (up m j 0 d)
  | .min w b a d => .min w (up m j 2 b) (up m j 1 a) (up m j 0 d)
  | .max w b a d => .max w (up m j 2 b) (up m j 1 a) (up m j 0 d)
  | .minu w b a d => .minu w (up m j 2 b) (up m j 1 a) (up m j 0 d)
  | .maxu w b a d => .maxu w (up m j 2 b) (up m j 1 a) (up m j 0 d)
  | .slt w b a d => .slt w (up m j 2 b) (up m j 1 a) (up m j 0 d)
  | .sltu w b a d => .sltu w (up m j 2 b) (up m j 1 a) (up m j 0 d)
  | .clz w a d => .clz w (up m j 1 a) (up m j 0 d)
  | .ctz w a d => .ctz w (up m j 1 a) (up m j 0 d)
  | .popc w a d => .popc w (up m j 1 a) (up m j 0 d)
  | .sext sz a d => .sext sz (up m j 1 a) (up m j 0 d)
  | .zext sz a d => .zext sz (up m j 1 a) (up m j 0 d)
  | .addi imm a d => .addi imm (up m j 1 a) (up m j 0 d)
  | .andi imm a d => .andi imm (up m j 1 a) (up m j 0 d)
  | .ori imm a d => .ori imm (up m j 1 a) (up m j 0 d)
  | .xori imm a d => .xori imm (up m j 1 a) (up m j 0 d)
  | .slti imm a d => .slti imm (up m j 1 a) (up m j 0 d)
  | .sltiu imm a d => .sltiu imm (up m j 1 a) (up m j 0 d)
  | .slli w sh a d => .slli w sh (up m j 1 a) (up m j 0 d)
  | .srli w sh a d => .srli w sh (up m j 1 a) (up m j 0 d)
  | .srai w sh a d => .srai w sh (up m j 1 a) (up m j 0 d)
  | .lui imm d => .lui imm (up m j 0 d)
  | .auipc imm d => .auipc imm (up m j 0 d)
  | .ldb off sc acq a t => .ldb off sc acq (up m j 1 a) (up m j 0 t)
  | .ldbu off sc acq a t => .ldbu off sc acq (up m j 1 a) (up m j 0 t)
  | .ldh off sc acq a t => .ldh off sc acq (up m j 1 a) (up m j 0 t)
  | .ldhu off sc acq a t => .ldhu off sc acq (up m j 1 a) (up m j 0 t)
  | .ldw off sc acq a t => .ldw off sc acq (up m j 1 a) (up m j 0 t)
  | .ldwu off sc acq a t => .ldwu off sc acq (up m j 1 a) (up m j 0 t)
  | .ldd off sc acq a t => .ldd off sc acq (up m j 1 a) (up m j 0 t)
  | .stb off sc rel a t => .stb off sc rel (up m j 1 a) (up m j 0 t)
  | .sth off sc rel a t => .sth off sc rel (up m j 1 a) (up m j 0 t)
  | .stw off sc rel a t => .stw off sc rel (up m j 1 a) (up m j 0 t)
  | .std off sc rel a t => .std off sc rel (up m j 1 a) (up m j 0 t)
  | .ldl sc acq w a d => .ldl sc acq w (up m j 1 a) (up m j 0 d)
  | .stu sc rel w b a => .stu sc rel w (up m j 2 b) (up m j 1 a)
  | .amoadd sc ord w b a d => .amoadd sc ord w (up m j 2 b) (up m j 1 a) (up m j 0 d)
  | .amoand sc ord w b a d => .amoand sc ord w (up m j 2 b) (up m j 1 a) (up m j 0 d)
  | .amoor sc ord w b a d => .amoor sc ord w (up m j 2 b) (up m j 1 a) (up m j 0 d)
  | .amoxor sc ord w b a d => .amoxor sc ord w (up m j 2 b) (up m j 1 a) (up m j 0 d)
  | .amomin sc ord w b a d => .amomin sc ord w (up m j 2 b) (up m j 1 a) (up m j 0 d)
  | .amomax sc ord w b a d => .amomax sc ord w (up m j 2 b) (up m j 1 a) (up m j 0 d)
  | .amominu sc ord w b a d => .amominu sc ord w (up m j 2 b) (up m j 1 a) (up m j 0 d)
  | .amomaxu sc ord w b a d => .amomaxu sc ord w (up m j 2 b) (up m j 1 a) (up m j 0 d)
  | .amoswp sc ord w b a d => .amoswp sc ord w (up m j 2 b) (up m j 1 a) (up m j 0 d)
  | .amocas sc ord w b a d => .amocas sc ord w (up m j 2 b) (up m j 1 a) (up m j 0 d)
  | .amofadd sc ord w b a d => .amofadd sc ord w (up m j 2 b) (up m j 1 a) (up m j 0 d)
  | .ldv b a d => .ldv (up m j 2 b) (up m j 1 a) (up m j 0 d)
  | .stv b a d => .stv (up m j 2 b) (up m j 1 a) (up m j 0 d)
  | .vrcl b a => .vrcl (up m j 2 b) (up m j 1 a)
  | .vprobe a d => .vprobe (up m j 1 a) (up m j 0 d)
  | .bararv a d => .bararv (up m j 1 a) (up m j 0 d)
  | .barwait b a d => .barwait (up m j 2 b) (up m j 1 a) (up m j 0 d)
  | .marm a => .marm (up m j 1 a)
  | .mwait a d => .mwait (up m j 1 a) (up m j 0 d)
  | .send b a d => .send (up m j 2 b) (up m j 1 a) (up m j 0 d)
  | .sendv b a v => .sendv (up m j 2 b) (up m j 1 a) (up m j 0 v)
  | .qbind vq wr id d => .qbind vq wr id (up m j 0 d)
  | .qunbind vq d => .qunbind vq (up m j 0 d)
  | .qpoll id d => .qpoll id (up m j 0 d)
  | .taskadd a => .taskadd (up m j 1 a)
  | .tasktake a d => .tasktake (up m j 1 a) (up m j 0 d)
  | .tileget d => .tileget (up m j 0 d)
  | .copy g mt ms d => .copy (up m j 3 g) (up m j 2 mt) (up m j 1 ms) (up m j 0 d)
  | .fetch g mt ms d => .fetch (up m j 3 g) (up m j 2 mt) (up m j 1 ms) (up m j 0 d)
  | .store g mt s v => .store (up m j 3 g) (up m j 2 mt) (up m j 1 s) (up m j 0 v)
  | .tier g mt ms d => .tier (up m j 3 g) (up m j 2 mt) (up m j 1 ms) (up m j 0 d)
  | .txbinit g d => .txbinit (up m j 3 g) (up m j 0 d)
  | .txbarv g d => .txbarv (up m j 3 g) (up m j 0 d)
  | .txbwait g s d => .txbwait (up m j 3 g) (up m j 1 s) (up m j 0 d)
  | .txbtest g s d => .txbtest (up m j 3 g) (up m j 1 s) (up m j 0 d)
  | .shopen g s d => .shopen (up m j 3 g) (up m j 1 s) (up m j 0 d)
  | .publish close sc ms d => .publish close sc (up m j 1 ms) (up m j 0 d)
  | .tmld g ms => .tmld (up m j 3 g) (up m j 1 ms)
  | .tmst g ms => .tmst (up m j 3 g) (up m j 1 ms)
  | .tmset g f ms => .tmset (up m j 3 g) f (up m j 1 ms)
  | .tmget f ms d => .tmget f (up m j 1 ms) (up m j 0 d)
  | .tmsync ms => .tmsync (up m j 1 ms)
  | .wload g tr ms d => .wload (up m j 3 g) tr (up m j 1 ms) (up m j 0 d)
  | .wfree d => .wfree (up m j 0 d)
  | .mld g pair tr ms v => .mld (up m j 3 g) pair tr (up m j 1 ms) (up m j 0 v)
  | .mst g pair tr ms v => .mst (up m j 3 g) pair tr (up m j 1 ms) (up m j 0 v)
  | .mma chk z k wb a c => .mma chk z k (up m j 2 wb) (up m j 1 a) (up m j 0 c)
  | .msoft k a c => .msoft k (up m j 1 a) (up m j 0 c)
  | .msfin k c => .msfin k (up m j 0 c)
  | .mchk k wb a c => .mchk k (up m j 2 wb) (up m j 1 a) (up m j 0 c)
  | .vadd e p b a d => .vadd e p (up m j 2 b) (up m j 1 a) (up m j 0 d)
  | .vsub e p b a d => .vsub e p (up m j 2 b) (up m j 1 a) (up m j 0 d)
  | .vmul e p b a d => .vmul e p (up m j 2 b) (up m j 1 a) (up m j 0 d)
  | .vfma e p b a d => .vfma e p (up m j 2 b) (up m j 1 a) (up m j 0 d)
  | .vmin e p b a d => .vmin e p (up m j 2 b) (up m j 1 a) (up m j 0 d)
  | .vmax e p b a d => .vmax e p (up m j 2 b) (up m j 1 a) (up m j 0 d)
  | .vabs e p a d => .vabs e p (up m j 1 a) (up m j 0 d)
  | .vneg e p a d => .vneg e p (up m j 1 a) (up m j 0 d)
  | .vdiv e p b a d => .vdiv e p (up m j 2 b) (up m j 1 a) (up m j 0 d)
  | .vsqrt e p a d => .vsqrt e p (up m j 1 a) (up m j 0 d)
  | .vrsqrt e p a d => .vrsqrt e p (up m j 1 a) (up m j 0 d)
  | .vrcp e p a d => .vrcp e p (up m j 1 a) (up m j 0 d)
  | .vexp2 e p a d => .vexp2 e p (up m j 1 a) (up m j 0 d)
  | .vlog2 e p a d => .vlog2 e p (up m j 1 a) (up m j 0 d)
  | .vand e p b a d => .vand e p (up m j 2 b) (up m j 1 a) (up m j 0 d)
  | .vor e p b a d => .vor e p (up m j 2 b) (up m j 1 a) (up m j 0 d)
  | .vxor e p b a d => .vxor e p (up m j 2 b) (up m j 1 a) (up m j 0 d)
  | .vshl e p g a d => .vshl e p (up m j 2 g) (up m j 1 a) (up m j 0 d)
  | .vshr e p g a d => .vshr e p (up m j 2 g) (up m j 1 a) (up m j 0 d)
  | .vsel e p b a d => .vsel e p (up m j 2 b) (up m j 1 a) (up m j 0 d)
  | .vcmpeq e p b a pd => .vcmpeq e p (up m j 2 b) (up m j 1 a) (up m j 0 pd)
  | .vcmplt e p b a pd => .vcmplt e p (up m j 2 b) (up m j 1 a) (up m j 0 pd)
  | .vcmple e p b a pd => .vcmple e p (up m j 2 b) (up m j 1 a) (up m j 0 pd)
  | .vcvt e p t a d => .vcvt e p t (up m j 1 a) (up m j 0 d)
  | .vaddw e p b a d => .vaddw e p (up m j 2 b) (up m j 1 a) (up m j 0 d)
  | .vmacw e p b a d => .vmacw e p (up m j 2 b) (up m j 1 a) (up m j 0 d)
  | .vnarrow e p sat a d => .vnarrow e p sat (up m j 1 a) (up m j 0 d)
  | .vadds e p b a d => .vadds e p (up m j 2 b) (up m j 1 a) (up m j 0 d)
  | .vclamp e p g a d => .vclamp e p (up m j 2 g) (up m j 1 a) (up m j 0 d)
  | .vscan e p g a d => .vscan e p (up m j 2 g) (up m j 1 a) (up m j 0 d)
  | .vredsum e p a d => .vredsum e p (up m j 1 a) (up m j 0 d)
  | .vredmax e p a d => .vredmax e p (up m j 1 a) (up m j 0 d)
  | .vredmin e p a d => .vredmin e p (up m j 1 a) (up m j 0 d)
  | .vperm e p b a d => .vperm e p (up m j 2 b) (up m j 1 a) (up m j 0 d)
  | .vbcast e p g d => .vbcast e p (up m j 2 g) (up m j 0 d)
  | .vins e p g a d => .vins e p (up m j 2 g) (up m j 1 a) (up m j 0 d)
  | .vext e p g a => .vext e p (up m j 2 g) (up m j 1 a)
  | .vzero e p d => .vzero e p (up m j 0 d)
  | .vmov e p a d => .vmov e p (up m j 1 a) (up m j 0 d)
  | .viota e p g d => .viota e p (up m j 2 g) (up m j 0 d)
  | .vld e p gb ga d => .vld e p (up m j 2 gb) (up m j 1 ga) (up m j 0 d)
  | .vst e p gb ga d => .vst e p (up m j 2 gb) (up m j 1 ga) (up m j 0 d)
  | .vlds e p gb ga d => .vlds e p (up m j 2 gb) (up m j 1 ga) (up m j 0 d)
  | .vsts e p gb ga d => .vsts e p (up m j 2 gb) (up m j 1 ga) (up m j 0 d)
  | .vgath e p i ga d => .vgath e p (up m j 2 i) (up m j 1 ga) (up m j 0 d)
  | .vscat e p i ga d => .vscat e p (up m j 2 i) (up m j 1 ga) (up m j 0 d)
  | .vwmax e n w a d => .vwmax e n (up m j 2 w) (up m j 1 a) (up m j 0 d)
  | .vwmin e n w a d => .vwmin e n (up m j 2 w) (up m j 1 a) (up m j 0 d)
  | .vwmed e n w a d => .vwmed e n (up m j 2 w) (up m j 1 a) (up m j 0 d)
  | .vwclamp e n w a d => .vwclamp e n (up m j 2 w) (up m j 1 a) (up m j 0 d)
  | .vwssum e n w a d => .vwssum e n (up m j 2 w) (up m j 1 a) (up m j 0 d)
  | .vadj e n w kd d => .vadj e n (up m j 2 w) kd (up m j 0 d)
  | .credSum mb ma g => .credSum (up m j 2 mb) (up m j 1 ma) (up m j 0 g)
  | .credMax mw mb ma g => .credMax (up m j 3 mw) (up m j 2 mb) (up m j 1 ma) (up m j 0 g)
  | .credMin mw mb ma g => .credMin (up m j 3 mw) (up m j 2 mb) (up m j 1 ma) (up m j 0 g)
  | .credMed mw mb ma g => .credMed (up m j 3 mw) (up m j 2 mb) (up m j 1 ma) (up m j 0 g)
  | .credSsum mw mb ma g => .credSsum (up m j 3 mw) (up m j 2 mb) (up m j 1 ma) (up m j 0 g)
  | .cbcast mb ma g => .cbcast (up m j 2 mb) (up m j 1 ma) (up m j 0 g)
  | .cadj mw mb ma g => .cadj (up m j 3 mw) (up m j 2 mb) (up m j 1 ma) (up m j 0 g)
  | .cjoin g => .cjoin (up m j 0 g)
  | .cleave g => .cleave (up m j 0 g)
  | .cview g => .cview (up m j 0 g)
  | .crejoin g => .crejoin (up m j 0 g)
  | .fitset b a => .fitset (up m j 2 b) (up m j 1 a)
  | .popcmd a => .popcmd (up m j 1 a)
  | .migrate a => .migrate (up m j 1 a)
  | .mutcopy b a => .mutcopy (up m j 2 b) (up m j 1 a)
  | .mfc n d => .mfc n (up m j 0 d)
  | .mtc n a => .mtc n (up m j 1 a)
  | .msetb n a d => .msetb n (up m j 1 a) (up m j 0 d)
  | .mclrb n a d => .mclrb n (up m j 1 a) (up m j 0 d)
  | i => i

/-- True of an instruction that a repeat may not name: compact, BR, JAL, JALR, SYS or ENDH (04 R92). -/
def Instr.unrepeatable : Instr → Bool
  | .endh | .jal .. | .jalr .. | .beq .. | .bne .. | .blt .. | .bge .. | .bltu .. | .bgeu ..
  | .trap .. | .brk .. | .eret | .reinj .. | .tlbinv .. | .tlbinvAsid .. | .tlbinvAll | .quiesce .. | .resume ..
  | .pkill .. | .savep .. | .restp .. | .wfi => true
  | i => i.len != 4

/-- The prefix check of 04 R92: none if the repeat may run, else whether it is REPEAT_RANGE (true) or ILLEGAL (false). -/
def Instr.repCheck (m : BitVec 4) (n : Nat) (i : Instr) : Option Bool :=
  let fs := (List.range 4).filterMap (fun k => if m.getLsbD k then some (i.repFields.getD k none) else none)
  if i.unrepeatable || fs.any Option.isNone then some false
  else if fs.any (fun f => match f with | some (v, top) => decide (v + (n - 1) > top) | none => false) then some true
  else none

/-- True of the instructions that S mode reserves (05 R104). -/
def Instr.sOnly : Instr → Bool
  | .eret | .reinj .. | .tlbinv .. | .tlbinvAsid .. | .tlbinvAll | .quiesce .. | .resume ..
  | .pkill .. | .savep .. | .restp .. | .wfi => true
  | _ => false

end Sys2Proof
end

