-- ==== Sys2Proof/Machine/Ops.lean ====
section
/-!
DEFINITION. The operations every instruction shares: the checks of an access (08 R155), fetch (05 R106), taking a trap
(18 R331, R333) and returning from one (18 R335), a Wait (00 R7), and the issue of an instruction (18 R329, R330).
-/

namespace Sys2Proof.Machine

/-- Trap causes (18 Table 18-4). -/
inductive Cause where
  | illegal | priv | misalign | scratchRange | versionReclaimed | versionOrder | scaleStale | bound | witnessStale
  | xferFault | panelDown | viewchg | queueMisuse | break_ | syscall | mapInvalid | wbEmpty | matFormat
  | repeatRange | engineReject | uncorrectable | restoreShape
  deriving DecidableEq, Repr

/-- The code of a cause (18 Table 18-4). -/
def Cause.code : Cause → BitVec 8
  | .illegal => 0x01
  | .priv => 0x02
  | .misalign => 0x03
  | .scratchRange => 0x04
  | .versionReclaimed => 0x05
  | .versionOrder => 0x06
  | .scaleStale => 0x07
  | .bound => 0x08
  | .witnessStale => 0x09
  | .xferFault => 0x0A
  | .panelDown => 0x0B
  | .viewchg => 0x0C
  | .queueMisuse => 0x0D
  | .break_ => 0x0E
  | .syscall => 0x0F
  | .mapInvalid => 0x10
  | .wbEmpty => 0x11
  | .matFormat => 0x12
  | .repeatRange => 0x13
  | .engineReject => 0x14
  | .uncorrectable => 0x15
  | .restoreShape => 0x16

/-- A trap to take (00 R7): `next` if EPC is the instruction after (TRAP, BREAK), `late` if it was not found at issue
(08 R166), `fault` a translation fault of the instruction itself (18 R352), `mismatch` if the two paths of a .chk differ
(10 R228). -/
structure TrapInfo where
  cause : Cause
  tval : Word
  sub : BitVec 8 := 0
  async : Bool := false
  next : Bool := false
  late : Bool := false
  fault : Option XFault := none
  mismatch : Bool := false
  deriving DecidableEq, Repr

/-- Why an instruction's body does not complete: a trap, a Wait, a trap whose TVAL is the
instruction word, or a Wait for an engine inbox with the command captured (11 R252). -/
inductive Stop where
  | trap (t : TrapInfo)
  | wait (w : Wait)
  | word (c : Cause)
  | box (w : Wait) (m : Cmd)
  deriving DecidableEq, Repr

/-- A body's answer. -/
abbrev M (α : Type) := Except Stop α

/-- Raises a trap with its TVAL. -/
def raise {α : Type} (c : Cause) (tval : Word) : M α := .error (.trap { cause := c, tval := tval })

/-- Goes on when the condition holds, else raises the trap. -/
def ensure (ok : Bool) (c : Cause) (tval : Word) : M Unit := if ok then .ok () else raise c tval

/-- Goes on when the condition holds, else raises a trap whose TVAL is the instruction word. -/
def ensureWord (ok : Bool) (c : Cause) : M Unit := if ok then .ok () else .error (.word c)

/-- Goes on when the condition holds, else waits. -/
def waitFor (ok : Bool) (w : Wait) : M Unit := if ok then .ok () else .error (.wait w)

/-! ## The core address map and the checks of an access -/

/-- The number of the window of a core address (02 R19). -/
def windowOf (a : Word) : Fin 16 := Fin.ofNat 16 (a.toNat / 2 ^ 25)

/-- The key of a core address of the window range, in the issuing cluster (02 R19). -/
def State.keyOf (s : State) (a : Word) : Nat := s.clus * 2 ^ 25 + a.toNat % 2 ^ 25

/-- Whether the issuing context's mode may reach `n` bytes at a scratch key (02 R20): S mode everything; U mode the user
range, or its own slot's inbox on its own core. -/
def State.permits (s : State) (key n : Nat) : Bool :=
  s.me.mode || decide (key % 2 ^ 19 + n ≤ 0x70000) ||
    (decide (key / 2 ^ 19 = s.at_) && decide (0x70000 + 0x1000 * s.slot.val ≤ key % 2 ^ 19) &&
      decide (key % 2 ^ 19 + n ≤ 0x71000 + 0x1000 * s.slot.val))

/-- The key of an access of `n` bytes aligned to `al`, by the checks of 08 R155 in their order. -/
def State.access (s : State) (a : Word) (n al : Nat) : M Nat := do
  ensure (decide (a.toNat < 2 ^ 29) && s.inPanel (s.keyOf a / 2 ^ 19)) .scratchRange a
  ensure (s.permits (s.keyOf a) (min n (2 ^ 19 - s.keyOf a % 2 ^ 19))) .priv a
  ensure (a.toNat % al == 0) .misalign a
  return s.keyOf a

/-- The key of `n` payload bytes that must lie within one core region (11 R233, 08 R155). -/
def State.accessRun (s : State) (a : Word) (n al : Nat) : M Nat := do
  ensure (decide (a.toNat < 2 ^ 29) && s.inPanel (s.keyOf a / 2 ^ 19) && decide (s.keyOf a % 2 ^ 19 + n ≤ 2 ^ 19))
    .scratchRange a
  ensure (s.permits (s.keyOf a) n) .priv a
  ensure (a.toNat % al == 0) .misalign a
  return s.keyOf a

/-- Whether no byte of `n` at a scratch key holds an uncorrectable error. -/
def State.sound (s : State) (key n : Nat) : Bool :=
  s.poison.isEmpty || (List.range n).all (fun i => !s.poison.contains (s.phys (key + i) / 32))

/-- An instruction that reads an uncorrectable error traps (20 Table 20-3); its TVAL is not stated (DESIGN CHOICE, assumption log 3). -/
def State.readable (s : State) (key n : Nat) : M Unit := ensure (s.sound key n) .uncorrectable (Config.openTval s.tick)

/-- The key of a read, by the checks of 08 R155 and then 20 Table 20-3. -/
def State.accessR (s : State) (a : Word) (n al : Nat) : M Nat := do
  let key ← s.access a n al
  s.readable key n
  return key

/-- The key of a read of payload bytes. -/
def State.accessRunR (s : State) (a : Word) (n al : Nat) : M Nat := do
  let key ← s.accessRun a n al
  s.readable key n
  return key

/-- Whether an address lies in the versioned store (02 R35). -/
def isVersioned (a : Word) : Bool := decide (0x20000000 ≤ a.toNat) && decide (a.toNat ≤ 0x2000FFFF)

/-- The index of a versioned word (02 R35, R36, 08 R164). -/
def State.accessV (s : State) (a : Word) : M Nat := do
  let i := (a.toNat - 0x20000000) / 8
  ensure (isVersioned a && s.inPanel (s.clus * 64 + i / 128)) .scratchRange a
  ensure (a.toNat % 8 == 0) .misalign a
  return i

/-- A versioned word. -/
def State.vword (s : State) (cl i : Nat) : VWord := SMap.get (s.cluster cl).words {} i
/-- Replaces a versioned word. -/
def State.setVword (s : State) (cl i : Nat) (w : VWord) : State :=
  s.setCluster cl { s.cluster cl with words := SMap.set (s.cluster cl).words i w }

/-! ## Fetch (05 R106) -/

/-- The trap that a fetch of the halfword at an address raises, if any. -/
def State.fetchFault (s : State) (a : Word) : Option Cause :=
  let key := s.clus * 2 ^ 25 + a.toNat
  if a.toNat ≥ 2 ^ 25 then some .scratchRange
  else if !s.inPanel (key / 2 ^ 19) then some .scratchRange
  else if !s.me.mode && decide (key % 2 ^ 19 ≥ 0x70000) then some .priv
  else none

/-- What a fetch and decode at an address gives: an instruction, or the trap of 05 R98, R106 with its TVAL. No evenness is
checked here (DESIGN CHOICE, assumption log 68). -/
def State.fetch (s : State) (pc : Word) : Except (Cause × Word) Instr :=
  match s.fetchFault pc with
  | some c => .error (c, pc)
  | none =>
    let h0 := s.load (s.keyOf pc) 2
    if !s.sound (s.keyOf pc) 2 then .error (.uncorrectable, Config.openTval s.tick)
    else if h0 % 2 = 0 then
      match decode16 h0 with
      | .ok i => .ok i
      | .error _ => .error (.illegal, BitVec.ofNat 64 h0)
    else
      match s.fetchFault (pc + 2) with
      | some c => .error (c, pc + 2)
      | none =>
        if (pc.toNat + 2) % 2 ^ 19 = 0 then .error (.scratchRange, pc + 2)
        else if !s.sound (s.keyOf (pc + 2)) 2 then .error (.uncorrectable, Config.openTval s.tick)
        else
          let w := h0 + 65536 * s.load (s.keyOf (pc + 2)) 2
          match decode32 w with
          | .ok i => if i.sOnly && !s.me.mode then .error (.priv, BitVec.ofNat 64 w) else .ok i
          | .error _ => .error (.illegal, BitVec.ofNat 64 w)

/-! ## Suspicion scores (20 R379 to R381, R390) -/

/-- A score with an increment, saturating, and test due from 256 on (20 R380, R381). -/
def Score.add (x : Score) (n cycle : Nat) : Score :=
  let v := min 65535 (x.value.toNat + n)
  { x with
    value := BitVec.ofNat 16 v
    due := x.due || decide (v ≥ 256)
    dueAt := if !x.due && decide (v ≥ 256) then cycle else x.dueAt }

/-- Writes a health record of a die (20 R390): SEQ rises, and the ring of 4,096 drops its oldest. -/
def State.healthRecord (s : State) (d kind object score detail : Nat) : State :=
  let x := s.die d
  let r : HealthRec := { seq := x.seq, source := d, kind := kind, time := s.cycle, object := object, score := score, detail := detail }
  let rs := x.records ++ [r]
  s.setDie d { x with records := rs.drop (rs.length - 4096), seq := x.seq + 1 }

/-- A link direction. -/
def State.link (s : State) (l : LinkId) : Link :=
  match s.links.find? (fun e => decide (e.1 = l)) with
  | some e => e.2
  | none => {}

/-- Replaces a link direction. -/
def State.setLink (s : State) (l : LinkId) (x : Link) : State :=
  { s with links := s.links.filter (fun e => decide (e.1 ≠ l)) ++ [(l, x)] }

/-- The number of a link direction in a health record, which the specification does not give (DESIGN CHOICE, assumption log 41). -/
def linkNo : LinkId → Nat
  | .ucie a b => a.val * 8 + b.val
  | .threeD d up => 64 + 2 * d.val + b2n up
  | .fibre p out => 96 + 2 * p.val + b2n out

/-- The score of an object (20 R380). -/
def State.scoreOf (s : State) : ScoreObj → Score
  | .core c => (s.core c.val).score
  | .bank c b => (s.core c.val).banks[b]
  | .link l => (s.link l).score

/-- Replaces the score of an object. -/
def State.setScore (s : State) (o : ScoreObj) (y : Score) : State :=
  match o with
  | .core c => s.setCore c.val { s.core c.val with score := y }
  | .bank c b => s.setCore c.val { s.core c.val with banks := (s.core c.val).banks.set b y }
  | .link l => s.setLink l { s.link l with score := y }

/-- OBJECT of a record about an object (20 Table 20-4). -/
def objNo : ScoreObj → Nat
  | .core c => c.val
  | .bank c b => c.val * 8 + b.val
  | .link l => linkNo l

/-- The die whose health unit has an object in its care; none for a fibre, which is the photonic die's. -/
def objDie : ScoreObj → Option Nat
  | .core c => some (c.val / 1024)
  | .bank c _ => some (c.val / 1024)
  | .link (.ucie a _) => some a.val
  | .link (.threeD d _) => some d.val
  | .link (.fibre _ _) => none

/-- Writes a record of the photonic die, source 8 (20 R390). -/
def State.photonicRecord (s : State) (kind object score detail : Nat) : State :=
  let rs := s.photonic ++ [{ seq := s.photonicSeq, source := 8, kind := kind, time := s.cycle, object := object, score := score, detail := detail }]
  { s with photonic := rs.drop (rs.length - 4096), photonicSeq := s.photonicSeq + 1 }

/-- Writes a record about an object; the cause that its DETAIL gives is not stated (DESIGN CHOICE, assumption log 3). -/
def State.objRecord (s : State) (o : ScoreObj) (kind score : Nat) : State :=
  match objDie o with
  | some d => s.healthRecord d kind (objNo o) score (Config.recordCause kind (objNo o))
  | none => s.photonicRecord kind (objNo o) score (Config.recordCause kind (objNo o))

/-- 10 s in CYCLE periods (20 R383). -/
def testWait : Nat := 16000000000

/-- Adds to an object's score (20 R380). On becoming test due it has a THRESHOLD record (R381), and its test is due
(R383). -/
def State.addScore (s : State) (o : ScoreObj) (n : Nat) : State :=
  let x := s.scoreOf o
  let y := x.add n s.cycle
  let s := s.setScore o y
  if y.due && !x.due then
    { s.objRecord o 1 y.value.toNat with
      agenda := s.agenda ++ [Due.targetedTestStart o], timers := s.timers ++ [(s.cycle + testWait, Due.testHoldTimeout o)] }
  else s

/-- Adds to a core's score. -/
def State.suspectCore (s : State) (c n : Nat) : State := s.addScore (.core (Fin.ofNat 8192 c)) n

/-! ## Traps -/

/-- The binding of a g register's port, none for another register (03 R56). -/
def Ctx.gport (x : Ctx) (r : Fin 32) : Option Port := if h : 28 ≤ r.val then x.ports[r.val - 28]'(by omega) else none
/-- The binding of v15. -/
def Ctx.vport (x : Ctx) : Option Port := x.ports[4]

/-- Whether a name is read-bound (some true), write-bound (some false) or not bound. -/
def Ctx.gbound (x : Ctx) (r : Option (Fin 32)) : Option Bool := (r.bind x.gport).map (fun p => !p.wr)

/-- Whether an instruction names a bound port. -/
def Ctx.naming (x : Ctx) (i : Instr) : Bool :=
  let r := i.regs
  [r.a, r.b, r.d, r.dst].any (fun y => (x.gbound y).isSome) || (x.vport.isSome && (r.vs ++ r.vd.toList).contains 15)

/-- The instruction of an entry. -/
def Entry.instr (e : Entry) : Option Instr :=
  if e.compact then
    (if e.word.toNat < 65536 ∧ e.word.toNat % 2 = 0 then decodeTableWord 16 e.word.toNat else none)
  else if e.word.toNat % 2 = 1 then decodeTableWord 32 e.word.toNat else none

/-- Whether an instruction is of the waiting class, so that it may stand as an entry (18 R329, Table 18-5): one of the
row's own, or any other outside the serialising row that names a port bound now. -/
def Ctx.mayWait (x : Ctx) (i : Instr) : Bool := i.cls == .waiting || (i.cls == .finishing && x.naming i)

/-- The v registers that entries read (18 Table 18-6, VHELD). -/
def heldMask (es : List Entry) : BitVec 16 :=
  es.foldl (fun m e => match e.instr with
    | some i => i.vSources.foldl (fun m v => m ||| (1#16 <<< v.val)) m
    | none => m) 0

/-- The key of the issuing context's trap record (18 Table 18-3). -/
def State.recKey (s : State) : Nat := regionBase s.at_ + 0x78000 + 0x400 * s.slot.val

/-- TRECADDR (18 Table 18-3). -/
def State.recAddr (s : State) : Word := BitVec.ofNat 64 (s.at_ % 64 * 2 ^ 19 + 0x78000 + 0x400 * s.slot.val)

/-- STATUS (17 Table 17-2). HELD reads 1 only in a record or an image. -/
def Ctx.status (x : Ctx) (held : Bool) : Word :=
  BitVec.ofNat 64 (min 47 (x.age / 1024) * 65536 + x.iprio.toNat * 256 + b2n held * 4 + b2n x.pmode * 2 + b2n x.mode)

/-- The lock bits a context holds are released with no write (02 R40). -/
def State.releaseLocks (s : State) (c : Nat) (k : Fin 8) : State :=
  if s.cores.any (fun e => decide (e.1 / 64 = c / 64) && e.2.locks.any (fun l => l.2 == c * 8 + k.val)) then
    { s with cores := s.cores.map (fun e =>
        if e.1 / 64 = c / 64 then (e.1, { e.2 with locks := e.2.locks.filter (fun l => l.2 != c * 8 + k.val) }) else e) }
  else s

/-- A replay entry as the 32 bytes of 18 Table 18-7. -/
def Entry.bytes (e : Entry) : List Byte :=
  bytesOf 4 e.word.toNat ++ [BitVec.ofNat 8 (b2n e.compact), 0, 0, 0] ++ bytesOf 8 e.a.toNat ++ bytesOf 8 e.b.toNat ++
    bytesOf 8 e.d.toNat

/-- The repeat's REPN and REPIDX bytes. -/
def Ctx.repN (x : Ctx) : Nat := match x.rep with | some r => r.n | none => 0
@[inherit_doc Ctx.repN]
def Ctx.repIdx (x : Ctx) : Nat := match x.rep with | some r => r.idx | none => 0

/-- The 0x300 bytes that trap entry writes (18 Table 18-6): the header, the entries and g0 to g31. -/
def Ctx.record (x : Ctx) (t : TrapInfo) (epc : Word) (es : List Entry) (replay held : Bool) (cycle : Nat) : List Byte :=
  let fv : XFault := if t.sub = 0x10 then (t.fault.orElse fun _ => x.latch).getD { va := 0, kind := 0 } else { va := 0, kind := 0 }
  bytesOf 8 epc.toNat ++ [t.cause.code, t.sub, BitVec.ofNat 8 es.length,
      BitVec.ofNat 8 (b2n t.async + 2 * b2n replay), BitVec.ofNat 8 x.repN, BitVec.ofNat 8 x.repIdx] ++
    bytesOf 2 (heldMask es).toNat ++ bytesOf 8 t.tval.toNat ++ bytesOf 8 x.flags.toNat ++
    bytesOf 8 (x.status held).toNat ++ bytesOf 8 fv.va ++ [BitVec.ofNat 8 fv.kind, 0] ++ List.replicate 6 0 ++
    bytesOf 8 cycle ++ List.replicate 192 0 ++
    es.flatMap Entry.bytes ++ List.replicate (256 - 32 * es.length) 0 ++
    bytesOf 8 0 ++ (x.g.toList.drop 1).flatMap (fun w => bytesOf 8 w.toNat)

/-- Where the trapping instruction stands (18 R331, R336): as a first issue at its own address, with the younger work
undone if it had become an unfinished instruction (DESIGN CHOICE, assumption log 2), or as a replayed entry. -/
def State.atTrap (s : State) : Ctx × List Entry × Bool :=
  match s.source, s.me.pend with
  | .entry, e :: rest => match e.from_ with
    | some o => ({ s.me with pc := o.pc, g := o.g, rep := o.rep }, [], false)
    | none => (s.me, e :: rest, true)
  | _, es => (s.me, es, false)

/-- The registers of trap entry (18 R331, R333). -/
def Ctx.enter (x : Ctx) (t : TrapInfo) (epc : Word) (pmode : Bool) (tvec : Word) : Ctx :=
  { x with
    run := .ready
    epc := epc
    tcause := BitVec.ofNat 17 (b2n t.async * 65536 + t.sub.toNat * 256 + t.cause.code.toNat)
    tval := t.tval
    pmode := pmode
    mode := true
    pc := tvec
    rep := none
    pend := []
    mon := none
    wait := none
    caught := none
    latch := if t.sub = 0x10 ∧ !pmode ∧ t.fault = none then none else x.latch }

/-- The fault of the core's matrix unit has been seen. -/
def State.healed (s : State) : State := s.setMine { s.mine with badMat := false }

/-- Whether the issuing context's panel is halted, as HELD of a trap record shows it (17 Table 17-2): the issuer of a stopped save runs
in state 3. -/
def State.halted (s : State) : Bool := (s.panelAt s.at_).any (fun p => p.state == 3)

/-- Taking a trap (18 R331 in U mode, R333 in S mode): the record, EPC, TCAUSE, TVAL, PMODE and MODE, the locks and the
monitor, and the handler's address. -/
def State.takeTrap (s : State) (len : Nat) (t : TrapInfo) : State :=
  let (x, es, replay) := s.atTrap
  let epc := (if t.next then x.pc + BitVec.ofNat 64 len else x.pc) &&& ~~~1#64
  let tvec := s.mine.tvec
  let s := if t.cause = .bound then s.suspectCore s.at_ 4 else s
  let s := if t.mismatch then (s.suspectCore s.at_ 64).healed else s
  let s1 := (s.setMe (x.enter t epc x.mode tvec)).releaseLocks s.at_ s.slot
  let s2 := { s1 with source := .pc }
  if x.mode then s2
  else
    s2.putBytes (some (s.at_, s.slot)) s.recKey
      (x.record t epc es (replay && s.source == .entry) s.halted s.cycle)

/-- The VHELD mask of the issuing context's record (18 R332): its entries' v sources now. -/
def State.held (s : State) : BitVec 16 :=
  let n := min 8 (s.load (s.recKey + 0x0A) 1)
  heldMask ((List.range n).map (fun k =>
    { word := BitVec.ofNat 32 (s.load (s.recKey + 0x100 + 32 * k) 4),
      compact := s.load (s.recKey + 0x104 + 32 * k) 1 % 2 == 1, a := 0, b := 0, d := 0 }))

/-- The first failing byte of an entry's 32 bytes (18 R335), none if it may replay: the word decodes in U mode and is of the
waiting class under the context's bindings, and EFL matches its length. -/
def Ctx.entryFault (x : Ctx) (bs : List Byte) : Option Nat :=
  let e : Entry := { word := BitVec.ofNat 32 (numOf (bs.take 4)), compact := (bs.getD 4 0).getLsbD 0, a := 0, b := 0, d := 0 }
  if (bs.getD 4 0).toNat > 1 then some 4
  else match [5, 6, 7].find? (fun k => bs.getD k 0 != 0) with
    | some k => some k
    | none =>
      if (numOf (bs.take 4) % 2 == 0) != e.compact then some 4
      else match e.instr with
        | some i => if !i.sOnly && x.mayWait i then none else some 0
        | none => some 0

/-- The entry in 32 bytes. -/
def entryOf (bs : List Byte) : Entry :=
  { word := BitVec.ofNat 32 (numOf (bs.take 4)), compact := (bs.getD 4 0).getLsbD 0,
    a := BitVec.ofNat 64 (numOf ((bs.drop 8).take 8)), b := BitVec.ofNat 64 (numOf ((bs.drop 16).take 8)),
    d := BitVec.ofNat 64 (numOf ((bs.drop 24).take 8)) }

/-- The reserved bytes of a record (18 Table 18-6). -/
def recReserved : List Nat := [0x32, 0x33, 0x34, 0x35, 0x36, 0x37] ++ (List.range 192).map (· + 0x40)

/-- The halfword of a c.rep at the record's EPC, if it can be fetched in U mode and its n is REPN (18 R335). -/
def State.repAtEpc (s : State) (epc : Word) (n : Nat) : Option (BitVec 4) :=
  let key := s.clus * 2 ^ 25 + epc.toNat
  if decide (epc.toNat < 2 ^ 25) && s.inPanel (key / 2 ^ 19) && decide (key % 2 ^ 19 < 0x70000) then
    match decode16 (s.load key 2) with
    | .ok (.cRep m k) => if s.load key 2 % 2 = 0 ∧ k.toNat + 1 = n then some m else none
    | _ => none
  else none

/-- The offset of the byte at which ERET's check of the record fails (18 R335), none if it passes. -/
def State.recFault (s : State) (r : List Byte) : Option Nat :=
  let byte := fun k => (r.getD k 0).toNat
  if byte 0x0A > 8 then some 0x0A
  else if byte 0x0B > 3 then some 0x0B
  else if byte 0x0C > 64 then some 0x0C
  else if byte 0x0D > byte 0x0C then some 0x0D
  else match recReserved.find? (fun k => byte k != 0) with
    | some k => some k
    | none =>
      match (List.range (byte 0x0A)).findSome? (fun k =>
          (s.me.entryFault ((r.drop (0x100 + 32 * k)).take 32)).map (· + 0x100 + 32 * k)) with
      | some k => some k
      | none =>
        if byte 0x0C ≠ 0 ∧ (s.repAtEpc (BitVec.ofNat 64 (numOf (r.take 8))) (byte 0x0C)).isNone then some 0x0C else none

/-- A repeat with no repetition left ends, once nothing is to be replayed (18 R335, R336): the pc is the address after the
repeated instruction. -/
def Ctx.skip (x : Ctx) : Ctx :=
  match x.pend, x.rep with
  | [], some r => if r.n ≤ r.idx then { x with rep := none, pc := x.pc + 6 } else x
  | _, _ => x

/-- Return from a trap (18 R335); an odd EPC of a record is no failing check of R335 and goes to the pc as it is (DESIGN
CHOICE, assumption log 68). -/
def State.returnTrap (s : State) : M State := do
  let x := s.me
  if x.pmode then .ok (s.setMe { x with pc := x.epc })
  else
    s.readable s.recKey 0x300
    let r := s.bytes s.recKey 0x300
    match s.recFault r with
    | some k => raise .illegal (s.recAddr + BitVec.ofNat 64 k)
    | none =>
      let epc := BitVec.ofNat 64 (numOf (r.take 8))
      let n := (r.getD 0x0C 0).toNat
      let j := (r.getD 0x0D 0).toNat
      let g := Vector.ofFn (fun q : Fin 32 =>
        if q = 0 then (0 : Word) else BitVec.ofNat 64 (numOf ((r.drop (0x200 + 8 * q.val)).take 8)))
      let es := (List.range (r.getD 0x0A 0).toNat).map (fun k => entryOf ((r.drop (0x100 + 32 * k)).take 32))
      let rep : Option Rep := if n = 0 then none else (s.repAtEpc epc n).map (fun m => { n := n, mask := m, idx := j })
      let y : Ctx := { x with
        g := g, flags := BitVec.ofNat 6 (r.getD 0x18 0).toNat, mode := false, pend := es, rep := rep, pc := epc }
      .ok (s.setMe y.skip)

/-! ## Issue -/

/-- Completes a pending matrix result (06 R127, 10 R227). -/
def Ctx.settle (x : Ctx) : Ctx :=
  match x.mat with
  | none => x
  | some m =>
    { x with
      v := m.vs.foldl (fun v e => v.set e.1 e.2) x.v
      z := m.zs.foldl (fun z e => z.set e.1 e.2) x.z
      flags := x.flags ||| m.flags
      mat := none }

/-- The issuing context with its pending matrix result completed. -/
def State.settle (s : State) : State := if s.me.mat.isSome then s.setMe s.me.settle else s

/-- QUEUE_MISUSE by the ports an instruction names (03 R57): a write-bound source, a read-bound destination, or one bound
port named twice as a source. -/
def Ctx.misuses (x : Ctx) (i : Instr) : Bool :=
  let r := i.regs
  let gs := [r.a, r.b, r.d].filter (fun y => (x.gbound y).isSome)
  let vs := if x.vport.isSome then r.vs.filter (· == 15) else []
  gs.any (fun y => x.gbound y == some false) || x.gbound r.dst == some true || !decide gs.Nodup ||
    (match x.vport with
      | some p => (p.wr && !vs.isEmpty) || (!p.wr && r.vd == some 15) || decide (vs.length ≥ 2)
      | none => false)

/-- The value captured for a source: 0 for g0 and for a bound port (18 R330). -/
def Ctx.capture (x : Ctx) (r : Option (Fin 32)) : Word :=
  match r with
  | none => 0
  | some g => if g = 0 ∨ (x.gport g).isSome then 0 else x.g[g]

/-- The replay entry of an instruction (18 R330). -/
def Ctx.entry (x : Ctx) (i : Instr) : Entry :=
  { word := BitVec.ofNat 32 i.word, compact := i.len == 2,
    a := x.capture i.regs.a, b := x.capture i.regs.b, d := x.capture i.regs.d }

/-- The pc and the repeat after an instruction at the pc completes or becomes an entry (07 R136, 04 R91). -/
def Ctx.advance (x : Ctx) (len : Nat) : Ctx :=
  match x.rep with
  | none => { x with pc := x.pc + BitVec.ofNat 64 len }
  | some r =>
    if r.idx + 1 ≥ r.n then { x with rep := none, pc := x.pc + 2 + BitVec.ofNat 64 len }
    else { x with rep := some { r with idx := r.idx + 1 } }

/-- An instruction completes: the queue drops its entry, or the pc advances; the context is Ready. -/
def State.finish (s : State) (len : Nat) : State :=
  let x := s.me
  match s.source with
  | .pc => s.setMe { x.advance len with run := .ready, wait := if x.pend = [] then none else x.wait }
  | .entry => { s with source := .pc }.setMe
      { x with pend := x.pend.drop 1, run := .ready, wait := none, caught := none }.skip

/-- Records a Wait: the order of blocking stands while it waits for the same thing (03 R56). -/
def State.waiting (s : State) (w : Wait) : Option Waiting :=
  match s.me.wait with
  | some o => if o.on = w then some o else some { on := w, since := s.tick, start := s.cycle }
  | none => some { on := w, since := s.tick, start := s.cycle }

/-- The context blocks at the instruction it is issuing. -/
def State.blockOn (s : State) (w : Wait) : State :=
  { s with source := .pc }.setMe { s.me with run := .blocked, wait := s.waiting w }

/-- The instruction at the pc becomes the youngest unfinished one (18 R329, R330). -/
def Ctx.queue (x : Ctx) (i : Instr) : Ctx :=
  { x.advance i.len with
    pend := x.pend ++ [{ x.entry i with from_ := some { pc := x.pc, g := x.g, rep := x.rep } }], run := .ready }

/-- A waiting instruction at the pc becomes the context's first unfinished instruction (18 R329, R330). -/
def State.pendOn (s : State) (i : Instr) (w : Wait) : State := s.setMe { s.me.queue i with wait := s.waiting w }

/-- The issuing context stands behind unfinished instructions and issues nothing (18 R329). -/
def State.hold (s : State) : State := s.setMe { s.me with run := .blocked }

/-- An instruction waits: at the pc it becomes an unfinished instruction if its class lets it, else the context blocks at
it. -/
def State.waits (s : State) (i : Instr) (w : Wait) : State :=
  if s.source = .pc ∧ s.me.pend = [] ∧ s.me.mayWait i then s.pendOn i w else s.blockOn w

/-- An instruction's body does not complete. -/
def State.stopped (s : State) (i : Instr) : Stop → State
  | .trap t => s.takeTrap i.len t
  | .word c => s.takeTrap i.len { cause := c, tval := BitVec.ofNat 64 i.word }
  | .wait w => s.waits i w
  | .box w m =>
    let t := s.waits i w
    t.setMe { t.me with caught := some m }

/-- Whether a younger instruction depends on the unfinished ones (18 R329): it names a register that one will write, or a
bound port. -/
def State.hazard (s : State) (i : Instr) : Bool :=
  let r := i.regs
  let busy := s.me.pend.filterMap (fun e => e.instr.bind (fun j => j.regs.dst))
  s.me.naming i || [r.a, r.b, r.d, r.dst].any (fun y => match y with | some g => busy.contains g && g != 0 | none => false)

/-- Whether the unfinished instructions of a context let no younger word at the pc issue: there are 8 (18 R330), one is an operation
on the task queue or the tile dispenser (14 R294), or one is being replayed, which an MFC of CYCLE or PKGID passes (18 R335, 07 R152,
R154). -/
def Ctx.shut (x : Ctx) (i : Option Instr) : Bool :=
  decide (8 ≤ x.pend.length) ||
    x.pend.any (fun e => (e.from_.isNone && !i.any Instr.neverWaits) || (match e.instr with | some j => j.clusterOp | none => false))

/-- A younger instruction that has passed its checks waits its turn: as one more unfinished instruction, or unissued. -/
def State.inTurn (s : State) (i : Instr) : State := if i.look = .queue then s.setMe (s.me.queue i) else s.hold

/-- Issues an instruction: the port checks of 03 R57, then its body, then `fin`; a younger one behind unfinished
instructions as 18 R329 lets it (DESIGN CHOICE, assumption log 2). The ports come before the body's operand checks
(DESIGN CHOICE, assumption log 84). -/
def issueBy (i : Instr) (fin : State → State) (body : State → M State) (s : State) : Host.Outcome State Fault Refusal :=
  let s := s.settle
  let go : M State := if s.me.misuses i then .error (.word .queueMisuse) else body s
  if s.source = .pc ∧ s.me.pend ≠ [] then
    if s.me.shut (some i) ∨ s.hazard i ∨ i.look = .none then .next s.hold
    else match go with
      | .ok t => if i.look = .whole then .next (fin t) else .next (s.inTurn i)
      | .error (.wait _) | .error (.box _ _) => .next (s.inTurn i)
      | .error (.trap t) => if t.late then .next (s.inTurn i) else .next (s.stopped i (.trap t))
      | .error (.word c) => .next (s.stopped i (.word c))
  else
    match go with
    | .ok t => .next (fin t)
    | .error e => .next (s.stopped i e)

/-- Issues an instruction that goes on to the next one. -/
def issue (i : Instr) (body : State → M State) (s : State) : Host.Outcome State Fault Refusal :=
  issueBy i (fun t => t.finish i.len) body s

/-- The context goes on at the pc that the body left (07 R143, R144). -/
def State.ready (s : State) : State :=
  s.setMe { s.me with run := .ready, wait := if s.me.pend = [] then none else s.me.wait }

/-- Issues an instruction whose body sets the next pc. -/
def issueJump (i : Instr) (body : State → M State) (s : State) : Host.Outcome State Fault Refusal :=
  issueBy i State.ready body s

/-- Issues an instruction whose body leaves the context as it is to be: an ending, or a return. -/
def issueSelf (i : Instr) (body : State → M State) (s : State) : Host.Outcome State Fault Refusal :=
  issueBy i id body s

/-- Checks that the issuing context is in S mode (05 R104). -/
def sMode (s : State) : M Unit := ensureWord s.me.mode .priv

/-- TQCFG (03 Table 03-13). -/
def Cluster.tqcfg (cl : Cluster) : Word :=
  BitVec.ofNat 64 (cl.tasks.length * 2 ^ 55 + cl.tqTail.toNat * 2 ^ 42 + cl.tqHead.toNat * 2 ^ 29 +
    cl.tqSize.toNat * 2 ^ 25 + cl.tqBase.toNat)

end Sys2Proof.Machine
end

