-- ==== Sys2Proof/Machine/Paths.lean ====
section
/-!
DEFINITION. Packets as flits, the agents that send them, and the paths they take between dies and packages (19_package.md R356,
R360, R362, R364 to R367, 20 R384).
-/

namespace Sys2Proof.Machine

/-! ## Flits (19 R356) -/

/-- The flits of a packet with `n` payload bytes (19 R356): the header flit and one for each 64 bytes. -/
def flitsOf (n : Nat) : Nat := 1 + (n + 63) / 64

/-- The flits of a packet. -/
def Packet.flits (p : Packet) : Nat := flitsOf p.data.length

/-- The data bytes of flit `f` of a packet: those of the header flit are h0 and h1 of a message (03 Table 03-3). -/
def Packet.flitData (p : Packet) (f : Nat) : List Byte :=
  if f = 0 then (match p.body with
    | .message m | .order m _ => bytesOf 8 m.h0.toNat ++ bytesOf 8 m.h1.toNat
    | _ => [])
  else (p.data.drop (64 * (f - 1))).take 64

/-- Whether flit `f` of a packet's attempt `a` is past every link of its path: each has accepted it (19 R361). -/
def State.passed (s : State) (id a f : Nat) : Bool :=
  s.links.all (fun (e : LinkId × Link) => e.2.retry.all (fun (r : Retry) => r.pk != id || r.attempt != a || r.accepted || !r.flits.contains f))

/-- Whether flit `f` of a packet has come to the end of its path, by any attempt that did not lose it (19 R358, R363). -/
def State.flitThere (s : State) (p : Packet) (f : Nat) : Bool :=
  (List.range p.attempts).any (fun (a : Nat) => s.passed p.id (a + 1) f && !p.lost.contains (a + 1, f))

/-- Whether every flit of a packet has come to the end of its path. -/
def State.crossed (s : State) (p : Packet) : Bool := (List.range p.flits).all (s.flitThere p)

/-- Whether no link still sends a flit of a packet. -/
def State.gone (s : State) (id : Nat) : Bool :=
  s.links.all (fun (e : LinkId × Link) => e.2.retry.all (fun (r : Retry) => r.pk != id || r.accepted))

/-- The tag of flit `f` of a packet at a CYCLE (19 Table 19-1). -/
def Packet.tag (p : Packet) (f cycle : Nat) : Word :=
  BitVec.ofNat 64 (p.dst % 2 ^ 13 + p.src % 2 ^ 13 * 2 ^ 14 + p.psn.toNat * 2 ^ 27 + f % 2 ^ 7 * 2 ^ 43 +
    min 63 ((cycle - p.sentAt) / 64) * 2 ^ 50 + (if f + 1 = p.flits then 2 ^ 56 else 0))

/-- The reverse of a link direction. -/
def linkBack : LinkId → LinkId
  | .ucie a b => .ucie b a
  | .threeD d up => .threeD d !up
  | .fibre p out => .fibre p !out

/-! ## Agents (19 Table 19-1) -/

/-- The agent id of an engine as a sender, past the core ids (DESIGN CHOICE, assumption log 46). -/
def agentOf : Engine → Nat
  | .xfu cl => 8192 + cl.val
  | .ske d => 8320 + d.val
  | .cle d => 8328 + d.val
  | .atelier => 8336
  | .cme d => 8344 + d.val
  | .easel d k => 8352 + 4 * d.val + k.val
  | .walker d => 8384 + d.val
  | .cxl p => 8392 + p.val

/-- The die an agent sends from; the Atelier's is die 0 (DESIGN CHOICE, assumption log 46). -/
def agentDie (src : Nat) : Nat :=
  if src < 8192 then src / 1024
  else if src < 8320 then (src - 8192) / 16
  else if src < 8336 then src % 8
  else if src < 8344 then 0
  else if src < 8352 then src - 8344
  else if src < 8384 then (src - 8352) / 4
  else src % 8

/-- An agent of another package as a source: its package in the upper bits. -/
def farAgent (pkg src : Nat) : Nat := (pkg + 1) * 2 ^ 14 + src

/-! ## Circuits (19 R364 to R367) -/

/-- STATE of a connection-table entry (19 Table 19-3). -/
def circState (e : BitVec 128) : Nat := fld e.toNat 0 2
/-- PKG of an entry. -/
def circPkg (e : BitVec 128) : Nat := fld e.toNat 48 16
/-- Its endpoints. -/
def circEnds (e : BitVec 128) : Nat × Nat := (fld e.toNat 6 5, fld e.toNat 11 5)
/-- The fibre port of an entry that has one. -/
def circPort (e : BitVec 128) : Option Nat :=
  if 16 ≤ (circEnds e).1 then some ((circEnds e).1 - 16) else if 16 ≤ (circEnds e).2 then some ((circEnds e).2 - 16) else none

/-- Whether an entry of the connection table is well formed (19 Table 19-3). -/
def circuitOk (e : BitVec 128) : Bool :=
  let ends := circEnds e
  fld e.toNat 2 4 == 0 && fld e.toNat 16 16 == 0 && fld e.toNat 64 64 == 0 && (decide (ends.1 < 8) || decide (16 ≤ ends.1)) &&
    (decide (ends.2 < 8) || decide (16 ≤ ends.2))

/-- The SRS writes an entry of the connection table (19 R364, R365): STATE 1 or 2 sets the circuit up; 0 or 3 tears down what is
there. -/
def State.setCircuit (s : State) (i : Fin 256) (e : BitVec 128) : State :=
  let old := SMap.get s.circuits 0 i.val
  if circState e = 1 ∨ circState e = 2 then
    { s with
      circuits := SMap.set s.circuits i.val (e &&& ~~~3#128 ||| 1#128), circuitAt := SMap.set s.circuitAt i.val s.cycle
      agenda := s.agenda ++ [Due.circuitUp i] }
  else if circState old = 0 then s
  else { s with circuits := SMap.set s.circuits i.val (old ||| 3#128), agenda := s.agenda ++ [Due.circuitTornDown i] }

/-- The first circuit that is up and reaches a package (19 R366, R367), over a fibre that is not disabled (20 R384). -/
def State.circuitTo (s : State) (pkg : Nat) : Option (Nat × BitVec 128) :=
  s.circuits.find? (fun (e : Nat × BitVec 128) => circState e.2 == 2 && circPkg e.2 == pkg &&
    (match circPort e.2 with | some f => !(s.link (.fibre (Fin.ofNat 16 f) true)).disabled | none => false))

/-- Whether a circuit between two dies is up (19 R365). -/
def State.circuitUp (s : State) (a b : Nat) : Bool :=
  s.circuits.any (fun (e : Nat × BitVec 128) => circState e.2 == 2 && (circEnds e.2 == (a, b) || circEnds e.2 == (b, a)))

/-! ## Paths (19 R360, R362) -/

/-- The dies crossed along x from a die to the column of another. -/
def alongX (b : Nat) : Nat → Nat → List Nat
  | 0, _ => []
  | n + 1, d =>
    if d % 4 = b % 4 then []
    else
      let e := if d % 4 < b % 4 then d + 1 else d - 1
      e :: alongX b n e

/-- The dies of a mesh route after its first: along y first (19 R360), or along x first (R362). -/
def meshRoute (yFirst : Bool) (a b : Nat) : List Nat :=
  if yFirst then (if a / 4 = b / 4 then [] else [a % 4 + 4 * (b / 4)]) ++ alongX b 3 (a % 4 + 4 * (b / 4))
  else alongX b 3 a ++ (if a / 4 = b / 4 then [] else [b])

/-- The UCIe directions between the dies of a route. -/
def meshLinks : List Nat → List LinkId
  | a :: b :: rest => .ucie (Fin.ofNat 8 a) (Fin.ofNat 8 b) :: meshLinks (b :: rest)
  | _ => []

/-- Whether two dies are joined by a UCIe link (19 R360). -/
def adjacent (a b : Nat) : Bool :=
  (a / 4 == b / 4 && (a + 1 == b || b + 1 == a)) || (a % 4 == b % 4 && a / 4 != b / 4)

/-- The first route to die `b` among routes that grow die by die over links that are not disabled and dies not lost; each is
held from its last die back. -/
def State.growRoutes (s : State) (b : Nat) : Nat → List (List Nat) → Option (List Nat)
  | 0, _ => none
  | n + 1, ps =>
    match ps.find? (fun (p : List Nat) => p.head? == some b) with
    | some p => some p.reverse
    | none => s.growRoutes b n (ps.flatMap (fun (p : List Nat) => match p with
        | d :: _ => ((List.range 8).filter (fun (e : Nat) => adjacent d e && !p.contains e && (s.die e).stage != .lost &&
            !(s.link (.ucie (Fin.ofNat 8 d) (Fin.ofNat 8 e))).disabled)).map (fun (e : Nat) => e :: p)
        | [] => []))

/-- A shortest route over the remaining UCIe links (20 R384; DESIGN CHOICE, assumption log 52). -/
def State.detour (s : State) (a b : Nat) : Option (List Nat) := s.growRoutes b 9 [[a]]

/-- The dies of a path: 0 a circuit, 1 y-first, 2 x-first, 4 the remaining links; others stay within one die. -/
def State.pathDies (s : State) (k a b : Nat) : List Nat :=
  match k with
  | 0 => [a, b]
  | 1 => a :: meshRoute true a b
  | 2 => a :: meshRoute false a b
  | 4 => (s.detour a b).getD [a]
  | _ => [a]

/-- The link directions of a path between two dies. -/
def State.pathLinks (s : State) (k a b : Nat) : List LinkId :=
  if k = 0 then [.threeD (Fin.ofNat 8 a) true, .threeD (Fin.ofNat 8 b) false] else meshLinks (s.pathDies k a b)

/-- The paths between two dies in the order of R362. -/
def State.paths (s : State) (a b : Nat) : List Nat := (if s.circuitUp a b then [0] else []) ++ [1, 2]

/-- Whether a path crosses no lost die. -/
def State.unlost (s : State) (k a b : Nat) : Bool := (s.pathDies k a b).all (fun (d : Nat) => (s.die d).stage != .lost)

/-- Whether a path crosses no disabled link (20 R384). -/
def State.enabled (s : State) (k a b : Nat) : Bool := (s.pathLinks k a b).all (fun (l : LinkId) => !(s.link l).disabled)

/-- A path of the remaining links where there is one (20 R384). -/
def State.around (s : State) (a b other : Nat) : Nat := if (s.detour a b).isSome then 4 else other

/-- The path of a packet's first attempt (19 R360): a circuit, else y-first; a disabled link is avoided (20 R384). -/
def State.firstPath (s : State) (a b : Nat) : Nat :=
  if a = b then 3
  else ((s.paths a b).find? (fun (k : Nat) => s.enabled k a b)).getD (s.around a b 1)

/-- The path of a resend (19 R362): the first that differs from the last and crosses nothing disabled, retraining or lost; else
the first that crosses no lost die, around a disabled link (20 R384). -/
def State.nextPath (s : State) (prev a b : Nat) : Nat :=
  if a = b then 3
  else
    match (s.paths a b).find? (fun (k : Nat) => k != prev && s.unlost k a b &&
        (s.pathLinks k a b).all (fun (l : LinkId) => !(s.link l).disabled && !(s.link l).retraining)) with
    | some k => k
    | none => match (s.paths a b).find? (fun (k : Nat) => s.unlost k a b) with
      | some k => if s.enabled k a b then k else s.around a b k
      | none => prev

/-- The path of a packet that crosses a fibre (19 R366): 5 leaves the package, 6 comes to one of its dies, 7 goes from fibre to fibre. -/
def Packet.fibrePath (p : Packet) : Option Nat :=
  if 2 ^ 14 ≤ p.src then some (if p.fabric.isSome then 7 else 6) else if p.fabric.isSome then some 5 else none

/-- The first path of a packet. -/
def State.outPath (s : State) (p : Packet) : Nat := p.fibrePath.getD (s.firstPath (agentDie p.src) (p.dst / 1024))

/-- The path of a packet's next attempt. -/
def State.resendPath (s : State) (p : Packet) : Nat :=
  p.fibrePath.getD (s.nextPath p.path (agentDie p.src) (p.dst / 1024))

/-- The fibre of the circuit to a package, outward or inward. -/
def State.fibreOf (s : State) (pkg : Nat) (out : Bool) : List LinkId :=
  ((s.circuitTo pkg).bind (fun (e : Nat × BitVec 128) => circPort e.2)).toList.map (fun (f : Nat) => .fibre (Fin.ofNat 16 f) out)

/-- The link directions that a packet crosses on a path; one that comes in, by the fibre of the circuit to its source package (DESIGN
CHOICE, assumption log 46). -/
def State.linksOf (s : State) (p : Packet) (k : Nat) : List LinkId :=
  let outward := (p.fabric.map (·.1)).toList.flatMap (fun (pkg : Nat) => s.fibreOf pkg true)
  match k with
  | 5 => .threeD (Fin.ofNat 8 (agentDie p.src)) true :: outward
  | 6 => s.fibreOf (p.src / 2 ^ 14 - 1) false ++ [.threeD (Fin.ofNat 8 (p.dst / 1024)) false]
  | 7 => s.fibreOf (p.src / 2 ^ 14 - 1) false ++ outward
  | k => s.pathLinks k (agentDie p.src) (p.dst / 1024)

/-- Whether the retry buffers of a path have room for a packet's flits, three to an entry (19 R360, R361). -/
def State.roomOn (s : State) (p : Packet) (k : Nat) : Bool :=
  (s.linksOf p k).all (fun (l : LinkId) => decide ((s.link l).retry.length + (p.flits + 2) / 3 ≤ 1024))

/-- Whether an LSEQ is behind the one that a link expects next: its flit has been accepted before (19 R361). -/
def Link.behind (x : Link) (lseq : BitVec 16) : Bool := decide ((x.expect - 1 - lseq).toNat < 2 ^ 15)

/-- The end-to-end acknowledgements that wait to go out on a link (19 Table 19-2): of packets that came the other way, or to the package
that a fibre reaches. -/
def State.acksOn (s : State) (l : LinkId) : List (Nat × Nat × BitVec 16) :=
  ((s.packets.filter (fun (p : Packet) => p.delivered && p.route.contains (linkBack l))).map (fun (p : Packet) => (p.src, p.dst, p.psn))) ++
    (match l with
      | .fibre _ true => s.abroad.filterMap (fun (e : Nat × Abroad) => match e.2 with
          | .ack src dst psn => if (s.fibreOf e.1 true).contains l then some (src, dst, psn) else none
          | .note _ => none)
      | _ => [])

end Sys2Proof.Machine
end

