-- ==== Sys2Proof/Machine/Mesh.lean ====
section
/-!
DEFINITION. Flits on the wires: one cycle of an on-die router (19_package.md R357), and the 256 bytes of a UCIe flit (R360, Table
19-2). Where each flit stands in the mesh is timing (DESIGN CHOICE, assumption log 79): the step takes a flit as ejected when its
event comes about.
-/

namespace Sys2Proof.Machine

/-! ## A router (19 R357) -/

/-- A flit at a router: what its tag says for the rank, and where it goes. -/
structure Flit where
  age : Nat
  src : Nat
  psn : BitVec 16
  fidx : Nat
  x : Nat
  y : Nat
  deriving DecidableEq, Repr

/-- The ports of a router, by number (DESIGN CHOICE, assumption log 79: their numbers are not given). -/
inductive RouterPort where
  | eject | right | left | down | up
  deriving DecidableEq, Repr

/-- Every port, by number. -/
def routerPorts : List RouterPort := [.eject, .right, .left, .down, .up]

/-- Whether a flit ranks before another: the higher AGE, then the lower SRC, PSN and FIDX. -/
def Flit.before (a b : Flit) : Bool :=
  decide (b.age < a.age) || (decide (a.age = b.age) && (decide (a.src < b.src) || (decide (a.src = b.src) &&
    (decide (a.psn.toNat < b.psn.toNat) || (decide (a.psn = b.psn) && decide (a.fidx < b.fidx))))))

/-- A flit put into a list in rank order. -/
def insertFlit (f : Flit) : List Flit → List Flit
  | [] => [f]
  | g :: rest => if f.before g then f :: g :: rest else g :: insertFlit f rest

/-- The productive port of a flit at a router: along x first, then y, then the ejection port. -/
def Flit.productive (f : Flit) (x y : Nat) : RouterPort :=
  if x < f.x then .right else if f.x < x then .left else if y < f.y then .down else if f.y < y then .up else .eject

/-- The ports given to flits in rank order: the productive one if it is free, else the lowest-numbered free port; a flit is never
ejected where it does not belong. -/
def assignPorts (x y : Nat) : List RouterPort → List Flit → List (Flit × RouterPort)
  | _, [] => []
  | free, f :: rest =>
    let p := f.productive x y
    match (if free.contains p then some p else free.find? (· != .eject)) with
    | some q => (f, q) :: assignPorts x y (free.filter (· != q)) rest
    | none => []

/-- One cycle of the router at a place: every flit that it holds leaves by some port of those it has. -/
def routeCycle (x y : Nat) (ports : List RouterPort) (fs : List Flit) : List (Flit × RouterPort) :=
  assignPorts x y ports (fs.foldl (fun (l : List Flit) (f : Flit) => insertFlit f l) [])

/-! ## UCIe flits (19 Table 19-2) -/

/-- The 64 data bytes of a flit, zero-padded. -/
def padFlit (bs : List Byte) : List Byte := bs ++ List.replicate (64 - bs.length) 0

/-- What crosses a link as one UCIe flit (19 Table 19-2): an entry of the retry buffer, nothing to send, or a NAK (R361). -/
inductive Wire where
  | data (r : Retry)
  | idle
  | nak
  deriving DecidableEq, Repr

/-- TYPE of a UCIe flit: 0 data, 1 idle, 2 void, 3 NAK. -/
def Wire.type : Wire → Nat
  | .data r => if r.void then 2 else 0
  | .idle => 1
  | .nak => 3

/-- LSEQ of a UCIe flit; that of one outside the retry buffer has no stated value (DESIGN CHOICE, assumption log 3). -/
def Wire.lseq (fresh : Nat) : Wire → Nat
  | .data r => r.lseq.toNat
  | _ => (Config.freeWord fresh).toNat % 2 ^ 16

/-- The on-die flits that a UCIe flit carries. -/
def Wire.slots : Wire → List Nat
  | .data r => if r.void then [] else r.flits
  | _ => []

/-- The packet that a UCIe flit carries flits of. -/
def State.wirePacket (s : State) : Wire → Option Packet
  | .data r => s.packets.find? (fun (q : Packet) => q.id == r.pk)
  | _ => none

/-- A UCIe flit on a link (19 Table 19-2) but for its CRC: LSEQ, the ACK of the reverse direction, the valid slots, the type, then tags and
slots, and the control slot with the end-to-end acknowledgements that wait. Credits and the layout of the control slot have no stated
values (DESIGN CHOICE, assumption log 3). -/
def State.wireFlit (s : State) (l : LinkId) (w : Wire) : List Byte :=
  let p := s.wirePacket w
  let slots := w.slots
  let tags := slots.map (fun (f : Nat) => match p with | some p => (p.tag f s.cycle).toNat | none => 0)
  let datas := slots.flatMap (fun (f : Nat) => match p with | some p => padFlit (p.flitData f) | none => padFlit [])
  let credits := (Config.freeWord (s.fresh + w.lseq s.fresh)).toNat % 2 ^ 25
  bytesOf 8 (w.lseq s.fresh + ((s.link (linkBack l)).expect - 1).toNat * 2 ^ 16 + (2 ^ slots.length - 1) * 2 ^ 32 + w.type * 2 ^ 35 +
      credits * 2 ^ 39) ++
    bytesOf 24 (numOf (tags.flatMap (bytesOf 8))) ++ datas ++ List.replicate (192 - datas.length) 0 ++
    (List.range 24).map (fun (i : Nat) => Config.controlSlot (s.acksOn l) (s.fresh + i))

/-- The UCIe flit with its CRC over the bytes before it. -/
def State.wireBytes (s : State) (l : LinkId) (w : Wire) : List Byte :=
  let bs := s.wireFlit l w
  bs ++ bytesOf 8 (Config.crc64 bs).toNat

end Sys2Proof.Machine
end

