-- ==== Sys2Proof/Machine/Operands.lean ====
section
/-!
DEFINITION. Every operand form: general registers, queue ports and captured operands (03 R55 to R58, 07 R135, 18 R330),
vector registers (09 R180, R185, 18 R332), predicates (09 R182), and bit-field helpers of the scalar forms.
-/

namespace Sys2Proof.Machine

/-- Whether a context still waits in its place (03 Edge cases: a stopped context holds none). -/
def Run.waits : Run → Bool
  | .ready | .blocked => true
  | _ => false

/-- Whether no context but slot `j` of core `c` began to wait for a thing before `since` (03 R56, R67, 02 R39, 08 R166). -/
def State.inLine (s : State) (c : Nat) (j : Fin 8) (w : Wait) (since : Nat) : Bool :=
  s.cores.all (fun e => (List.finRange 8).all (fun k =>
    let x := e.2.ctxs[k]
    (decide (e.1 = c) && k == j) || !x.run.waits ||
      match x.wait with
      | some o => !(decide (o.on = w) && decide (o.since < since))
      | none => true))

/-- Whether the issuing context is the first in line for a thing. -/
def State.first (s : State) (w : Wait) : Bool :=
  s.inLine s.at_ s.slot w (match s.me.wait with
    | some o => if o.on = w then o.since else s.tick
    | none => s.tick)

/-- Pops a 64-bit queue (03 R55, R56): core queues 0 to 7, the completion queue 16, the payload words 17. -/
def State.popQ (s : State) (q : Nat) : M (Word × State) :=
  if q = 16 then
    match s.me.compq with
    | [] => .error (.wait (.queueRead (s.at_ * 8 + s.slot.val) 16))
    | w :: rest =>
      let x := { s.me with compq := rest }
      let s' := s.setMe x
      .ok (w, if x.compHeld = [] then s' else { s' with agenda := s'.agenda ++ [Due.completionPost s.actor s.slot] })
  else if q = 17 then
    match s.me.payload with
    | [] => .error (.word .queueMisuse)
    | w :: rest => .ok (w, s.setMe { s.me with payload := rest })
  else
    match s.mine.squeue[Fin.ofNat 8 q] with
    | [] => .error (.wait (.queueRead s.at_ q))
    | w :: rest =>
      if s.first (.queueRead s.at_ q) then
        .ok (w, s.setMine { s.mine with squeue := s.mine.squeue.set (Fin.ofNat 8 q) rest })
      else .error (.wait (.queueRead s.at_ q))

/-- Pushes a core scalar queue (03 R55, R56). -/
def State.pushQ (s : State) (q : Nat) (v : Word) : M State :=
  let l := s.mine.squeue[Fin.ofNat 8 q]
  if l.length < 8 ∧ s.first (.queueWrite s.at_ q) then
    .ok (s.setMine { s.mine with squeue := s.mine.squeue.set (Fin.ofNat 8 q) (l ++ [v]) })
  else .error (.wait (.queueWrite s.at_ q))

/-- Pops a core vector queue, 8 or 9 (03 R55, R56). -/
def State.popV (s : State) (q : Nat) : M (VReg × State) :=
  match s.mine.vqueue[Fin.ofNat 2 q] with
  | [] => .error (.wait (.queueRead s.at_ q))
  | w :: rest =>
    if s.first (.queueRead s.at_ q) then
      .ok (w, s.setMine { s.mine with vqueue := s.mine.vqueue.set (Fin.ofNat 2 q) rest })
    else .error (.wait (.queueRead s.at_ q))

/-- Pushes a core vector queue (03 R55, R56). -/
def State.pushV (s : State) (q : Nat) (v : VReg) : M State :=
  let l := s.mine.vqueue[Fin.ofNat 2 q]
  if l.length < 2 ∧ s.first (.queueWrite s.at_ q) then
    .ok (s.setMine { s.mine with vqueue := s.mine.vqueue.set (Fin.ofNat 2 q) (l ++ [v]) })
  else .error (.wait (.queueWrite s.at_ q))

/-- Reads a g source: g0 is zero (07 R135), a read-bound port pops (03 R56), a replayed entry has its captured value
(18 R330). -/
def State.readG (s : State) (f : Entry → Word) (r : Fin 32) : M (Word × State) :=
  if r = 0 then .ok (0, s)
  else match s.me.gport r with
    | some p => s.popQ p.q.val
    | none => .ok ((match s.source, s.me.pend with
        | .entry, e :: _ => f e
        | _, _ => s.me.g[r]), s)

/-- The source in the A place. -/
def State.srcA (s : State) (r : Fin 32) : M (Word × State) := s.readG Entry.a r
/-- The source in the B place. -/
def State.srcB (s : State) (r : Fin 32) : M (Word × State) := s.readG Entry.b r
/-- The source in the D or T place. -/
def State.srcD (s : State) (r : Fin 32) : M (Word × State) := s.readG Entry.d r

/-- Sets a general register of the issuing context; a write of g0 is discarded (07 R135). -/
def State.setG (s : State) (r : Fin 32) (v : Word) : State :=
  if r = 0 then s else s.setMe { s.me with g := s.me.g.set r v }

/-- Writes a g destination: a write-bound port pushes (03 R56). -/
def State.writeG (s : State) (r : Fin 32) (v : Word) : M State :=
  match s.me.gport r with
  | some p => s.pushQ p.q.val v
  | none => .ok (s.setG r v)

/-- Reads a v source: a read-bound vq pops (03 R56, 09 R185). -/
def State.readV (s : State) (r : Fin 16) : M (VReg × State) :=
  match (if r = 15 then s.me.vport else none) with
  | some p => s.popV p.q.val
  | none => .ok (s.me.v[r], s)

/-- Sets a vector register and counts the vector unit busy (17 R324). -/
def State.setV (s : State) (r : Fin 16) (v : VReg) : State :=
  let s := s.setMe { s.me with v := s.me.v.set r v }
  s.setMine { s.mine with busyVec := s.mine.busyVec + 4 }

/-- Writes a v destination: a held register raises ILLEGAL in S mode (18 R332), a write-bound vq pushes. -/
def State.writeV (s : State) (r : Fin 16) (v : VReg) : M State :=
  if s.me.mode && s.held.getLsbD r.val then .error (.word .illegal)
  else match (if r = 15 then s.me.vport else none) with
    | some p => s.pushV p.q.val v
    | none => .ok (s.setV r v)

/-- The registers of a group (09 R181): the base a multiple of r, and no bound v15 inside (R185). -/
def State.group (s : State) (v r : Nat) : M Unit := do
  ensureWord (v % r == 0) .illegal
  ensureWord (r == 1 || s.me.vport.isNone || decide (v + r ≤ 15)) .queueMisuse

/-- A predicate register; p0 reads all ones (09 R182). -/
def Ctx.pred (x : Ctx) (p : Fin 8) : PReg := if p = 0 then BitVec.allOnes 1024 else x.p[p]

/-- Whether lane `i` is active. -/
def lane (p : PReg) (i : Nat) : Bool := p.getLsbD i

/-- sx32 of 07 R137. -/
def sx32 (v : BitVec 32) : Word := v.signExtend 64

/-- The low 32 bits. -/
def lo32 (v : Word) : BitVec 32 := v.truncate 32

/-- A sign-extended immediate. -/
def sxi {n : Nat} (i : BitVec n) : Word := i.signExtend 64
/-- A zero-extended immediate. -/
def zxi {n : Nat} (i : BitVec n) : Word := i.zeroExtend 64

end Sys2Proof.Machine
end

