-- ==== Sys2Proof/Machine/Flags.lean ====
section
/-!
DEFINITION. The sticky flags (06 R126 to R129, 00 R7 Flag) and what counts with them: BND adds to the core's suspicion
score (20 R379 to R381).
-/

namespace Sys2Proof.Machine

/-- ORs flags into the issuing context's FLAGS when an instruction completes (06 R127). -/
def State.raiseFlags (s : State) (f : Fl) : State := s.setMe { s.me with flags := s.me.flags ||| f }

/-- Raises flags; an instruction that raises BND counts 4 at its core, once (20 R379). -/
def State.raiseBound (s : State) (f : Fl) : State :=
  let s := s.raiseFlags f
  if f &&& flBND = 0 then s else s.suspectCore s.at_ 4

/-- The rounding mode of FRM (06 R118). -/
def Ctx.rm (x : Ctx) : Rm := Rm.ofBits x.frm.toNat

/-- The format of an element type under F8SEL: ILLEGAL is never the caller's case here; ET 11 with a bad F8SEL raises
MAT_FORMAT (06 R117, 09 R184). -/
def Ctx.elem (x : Ctx) (et : Nat) : M Fmt :=
  match Fmt.ofET et x.f8sel.toNat with
  | some f => .ok f
  | none => .error (.word .matFormat)

end Sys2Proof.Machine
end

