-- ==== Sys2Proof/Machine/Waits.lean ====
section
/-!
DEFINITION. When each Wait of 00 R7 ends, the engine inboxes it may wait on (03 R59), and the issue choice of a core
(17 R315 to R317).
-/

namespace Sys2Proof.Machine

/-- Whether a packet brings a message to an engine, and is not delivered yet. -/
def Packet.orders (p : Packet) (e : Engine) : Bool :=
  match p.body with
  | .order _ x => !p.delivered && decide (x = e)
  | _ => false

/-- Commands in an engine's inbox (03 R59). A CXL port and a walker have no inbox of their own. -/
def State.boxHolds (s : State) : Engine → Nat
  | .xfu cl => (s.cluster cl.val).xfuBox.length
  | .ske d => (s.die d.val).skeBox.length
  | .cle d => (s.die d.val).cleBox.length
  | .atelier => s.atelierBox.length
  | .cme d => (s.die d.val).cmeBox.length
  | .easel d k => ((s.die d.val).easelBox[k]).length
  | _ => 0

/-- The places of an engine's inbox that are taken: by what it holds, and by messages on their way to it (19 R358). -/
def State.boxLen (s : State) (e : Engine) : Nat := s.boxHolds e + (s.packets.filter (fun p => p.orders e)).length

/-- The depth of an engine's inbox (03 Table 03-9). -/
def depthOf : Engine → Nat
  | .xfu _ => 64
  | .ske _ => 256
  | .cle _ => 128
  | .atelier => 64
  | .cme _ => 32
  | .easel _ _ => 64
  | .walker _ => 64
  | .cxl _ => 64

/-- Whether an engine's inbox has room. -/
def State.boxRoom (s : State) (e : Engine) : Bool := decide (s.boxLen e < depthOf e)

/-- Whether a packet is a message of a context, not yet delivered. -/
def Packet.isOf (p : Packet) (c : Nat) (k : Fin 8) : Bool :=
  match p.body with
  | .message m | .order m _ => !p.delivered && m.src == c && m.srcSlot == some k.val
  | _ => false

/-- A packet whose message is read no more from the sender's memory (11 R234). -/
def Packet.settled (p : Packet) : Packet :=
  match p.body with
  | .message m => { p with body := .message { m with unread := none } }
  | .order m e => { p with body := .order { m with unread := none } e }
  | _ => p

/-- The messages of the issuing context have read their payloads (08 R171, 11 R235). -/
def State.readOut (s : State) : State :=
  { s with packets := s.packets.map (fun p => if p.isOf s.at_ s.slot then p.settled else p) }

/-- Messages of a context not yet admitted or refused (11 R235); one for an engine is admitted as it enters the inbox. -/
def State.outstanding (s : State) (c : Nat) (k : Fin 8) : Nat :=
  (s.packets.filter (fun p => p.isOf c k)).length +
    ((s.cores.map (fun e => (e.2.offers.filter (fun m => m.src == c && m.srcSlot == some k.val)).length)).sum)

/-- Whether a command has ended (11 R236). -/
def Cmd.ended (m : Cmd) : Bool :=
  match m.state with
  | .done | .failed _ => true
  | _ => false

/-- Whether a command is a message to an engine, complete for ENDH once its payload is read, at issue (11 R235). -/
def CmdKind.isSend : CmdKind → Bool
  | .send _ => true
  | _ => false

/-- The commands of a context's activation. -/
def State.cmdsOf (s : State) (c : Nat) (k : Fin 8) (act : Nat) : List Cmd :=
  s.cmds.filter (fun m => m.core == c && m.slot == k && m.activation == act)

/-- Whether a slot holds no running activation: Dormant or stopped (18 R341). -/
def Run.quiet : Run → Bool
  | .dormant | .stopped | .swapped => true
  | _ => false

/-- Whether the slots of a mask are all Dormant or stopped. -/
def Core.quiet (k : Core) (mask : BitVec 8) : Bool :=
  (List.finRange 8).all (fun i => !mask.getLsbD i.val || (k.ctxs[i]).run.quiet)

/-- Records in the spill ring (03 R65). -/
def Cluster.ringLen (cl : Cluster) : Nat :=
  if cl.tqSize = 0 then 0 else (cl.tqTail.toNat + 2 * 2 ^ cl.tqSize.toNat - cl.tqHead.toNat) % (2 * 2 ^ cl.tqSize.toNat)

/-- Whether TASKADD finds room (03 R67). -/
def Cluster.taskRoom (cl : Cluster) : Bool :=
  (decide (cl.ringLen = 0) && decide (cl.tasks.length < 32)) || (cl.tqSize != 0 && decide (cl.ringLen < 2 ^ cl.tqSize.toNat))

/-- Whether a command still has an access to perform through a translation of a page and an address space (18 R354). -/
def Cmd.uses (m : Cmd) (va : Option Nat) (asid : Option Nat) : Bool :=
  !m.ended && !m.sectors.isEmpty && asid.all (· == m.asid.toNat) &&
    m.walked.any (fun w => va.all (fun a => decide (w.va ≤ a) && decide (a < w.va + w.size)))

/-- The walks of a die's walker that run (18 R353): the first 64 pages waited for, each by its command's address space. -/
def State.walksOn (s : State) (d : Nat) : List (BitVec 16 × Nat) :=
  (((s.die d).walks.filterMap (fun (w : Nat × Nat) => (s.cmds.find? (fun m => m.id == w.1)).map (fun (m : Cmd) =>
    (m.asid, w.2 / 2 ^ 15)))).eraseDups).take 64

/-- Whether a die's walker can take one more walk at once (18 R353). -/
def State.walkerFree (s : State) (d : Nat) : Bool := decide ((s.walksOn d).length < 64)

/-- Whether a packet from another package still brings a write into the back range of an open entry of a cluster (11 R254, R256). -/
def Packet.writesAt (p : Packet) (cl : Nat) (e : Option Pub) : Bool :=
  match p.body, e with
  | .write _, some x =>
    let a := numOf (p.data.take 4) % 2 ^ 25
    p.dst / 64 == cl && decide (x.front ≤ a) && decide (a < x.front + 64 * x.len)
  | _, _ => false

/-- Whether the thing a context waits for has come about (00 R7). -/
def State.holds (s : State) (c : Nat) (k : Fin 8) : Wait → Bool
  | .version cl i old => (s.vword cl i).ver != old
  | .plive cl i => !(s.vword cl i).plive
  | .lock r q => (s.core r).locks.all (fun l => l.1 != q || l.2 == c * 8 + k.val)
  | .barrier n b tok => match s.panel n with
    | some p => (p.bars[b]).phase != tok
    | none => true
  | .monitor until_ =>
    (match (s.ctx c k).mon with | some m => m.wrote || m.posted || m.early | none => true) ||
      (match until_ with | some t => decide (t ≤ s.cycle) | none => false)
  | .queueRead r q =>
    if q = 16 then !(s.ctx (r / 8) (Fin.ofNat 8 r)).compq.isEmpty
    else if q < 8 then !((s.core r).squeue[Fin.ofNat 8 q]).isEmpty
    else !((s.core r).vqueue[Fin.ofNat 2 q]).isEmpty
  | .queueWrite r q =>
    if q < 8 then decide (((s.core r).squeue[Fin.ofNat 8 q]).length < 8)
    else decide (((s.core r).vqueue[Fin.ofNat 2 q]).length < 2)
  | .task cl => !(s.cluster cl).tasks.isEmpty
  | .taskRoom cl => (s.cluster cl).taskRoom
  | .engine e => s.boxRoom e
  | .phase key tok => BitVec.ofNat 4 (s.load key 1) != tok
  | .sends => decide (s.outstanding c k < 16)
  | .sources => (s.cmdsOf c k (s.ctx c k).act).all (fun m => m.srcRead || m.ended)
  | .older => true
  | .commands => (s.cmdsOf c k (s.ctx c k).act).all (fun m => m.ended || m.kind.isSend)
  | .backWrites cl i => s.cmds.all (fun m => m.ended || !m.fronts.contains (cl * 16 + i)) &&
      s.packets.all (fun p => !p.writesAt cl ((s.cluster cl).pub[Fin.ofNat 16 i]))
  | .quiesced r m _ => (s.core r).quiet m
  | .event a p => (s.core c).admits != a || (s.ctx c k).posts != p
  | .joined g => match s.groups.find? (fun x => x.num == g) with
    | some x => (List.range x.slices).all (fun i =>
        match x.slice[i]? with
        | some (mem, retired) => retired || !x.live.contains mem || x.away.contains i || x.joins.any (fun j => j.slice == i && !j.rejoining)
        | none => true)
    | none => true
  | .left g sl => match s.groups.find? (fun x => x.num == g) with
    | some _ => s.cmds.all (fun m => m.ended || m.grp != g || m.slice != sl ||
        !(match m.kind with | .cred _ | .cbcast | .cadj => true | _ => false))
    | none => true
  | .rejoined g sl => match s.groups.find? (fun x => x.num == g) with
    | some x => x.joins.any (fun j => j.slice == sl && !j.rejoining)
    | none => true
  | .translated n va asid => s.cmds.all (fun m => m.panel != n || !m.uses va asid)
  | .walker d => s.walkerFree d
  | .reply id => s.cmds.all (fun m => m.id != id || m.ended)

/-- Whether those that wait for a thing are served in the order of blocking (03 R56, R59, R67, 02 R39, 08 R166). -/
def Wait.ordered : Wait → Bool
  | .plive .. | .lock .. | .queueRead .. | .queueWrite .. | .task .. | .taskRoom .. | .engine .. => true
  | _ => false

/-- Whether a context's Wait, if it has one, is over, and its turn has come. -/
def State.waitsNot (s : State) (c : Nat) (k : Fin 8) : Bool :=
  match (s.ctx c k).wait with
  | some w => s.holds c k w.on && (!w.on.ordered || s.inLine c k w.on w.since)
  | none => true

/-- Whether a context holds an instruction to issue now: Ready, or its wait has ended (03 Table 03-1). -/
def State.canIssue (s : State) (c : Nat) (k : Fin 8) : Bool :=
  match (s.ctx c k).run with
  | .ready => true
  | .blocked => s.waitsNot c k
  | _ => false

/-- Whether the panel lets a context issue (17 Table 17-4, R315): state 2 or 7, or the issuer of a stopped save in 3. -/
def State.panelIssues (s : State) (c : Nat) (k : Fin 8) : Bool :=
  match s.panelAt c with
  | some p => (p.state == 2 || p.state == 7 || (p.state == 3 && decide (p.issuer = some (c, k)))) && p.collect.isNone
  | none => false

/-- What issuing a context is: the state with the context chosen, in which `exec` runs its next instruction. -/
abbrev Issuer := State → Nat → Fin 8 → Host.Outcome State Fault Refusal

/-- Whether a context stands behind its unfinished instructions: issuing it would leave it where it is (17 R315, a cycle
lost to an operand dependency or a Wait). -/
def State.behind (go : Issuer) (s : State) (c : Nat) (k : Fin 8) : Bool :=
  let x := s.ctx c k
  x.pend != [] && !s.waitsNot c k && (match go s c k with
    | .next t => (t.ctx c k).run == .blocked && decide ((t.ctx c k).pend.length = x.pend.length) && (t.ctx c k).mode == x.mode
    | _ => false)

/-- The set E of 17 R315 of a core. -/
def State.eligible (go : Issuer) (s : State) (c : Nat) : List (Fin 8) :=
  if s.coreDown c then [] else
  let e := (List.finRange 8).filter (fun k => s.canIssue c k && s.panelIssues c k && !s.behind go c k)
  let e' := e.filter (fun k => decide ((s.ctx c k).yieldUntil ≤ s.cycle))
  if e'.isEmpty then e else e'

/-- eff of 17 R315. -/
def Ctx.eff (x : Ctx) : Nat := min x.iprio.toNat 47 - x.age / 1024

/-- Whether one context is chosen before another (17 R315). -/
def State.before (s : State) (c : Nat) (i j : Fin 8) : Bool :=
  let x := s.ctx c i
  let y := s.ctx c j
  decide (x.eff < y.eff) || (decide (x.eff = y.eff) &&
    (decide (x.lastIssue < y.lastIssue) || (decide (x.lastIssue = y.lastIssue) && decide (i < j))))

/-- The context of a list that 17 R315 chooses. It issues one instruction, never a dual-issue pair (DESIGN CHOICE, assumption
log 86). -/
def State.best (s : State) (c : Nat) : List (Fin 8) → Option (Fin 8)
  | [] => none
  | i :: rest => match s.best c rest with
    | none => some i
    | some j => if s.before c j i then some j else some i

/-- Ages after a choice (17 R315). -/
def State.aged (s : State) (c : Nat) (e : List (Fin 8)) (k : Fin 8) : State :=
  s.setCore c { s.core c with ctxs := (s.core c).ctxs.mapIdx (fun i x =>
    if i = k.val then { x with age := 0, lastIssue := s.tick + 1 }
    else if e.any (fun j => j.val == i) then { x with age := x.age + 1 } else x) }

/-- The core that issues (DESIGN CHOICE, assumption log 7): the first from `turn` on, `skip` more of them passed over. -/
def State.nextCore (go : Issuer) (s : State) (skip : Nat) : Option Nat :=
  let cs := (s.cores.map (·.1)).filter (fun c => !(s.eligible go c).isEmpty)
  let order := cs.filter (fun c => decide (s.turn ≤ c)) ++ cs.filter (fun c => decide (c < s.turn))
  order[skip % (max 1 order.length)]?

/-- Whether a panel dispatches and issues (17 Table 17-4, R318). -/
def Panel.dispatches (p : Panel) : Bool := (p.state == 2 || p.state == 7) && p.collect.isNone

/-- Whether a command is a collective's. -/
def CmdKind.isColl : CmdKind → Bool
  | .cred _ | .cbcast | .cadj => true
  | _ => false

/-- Whether a group's leader has started the operation of a command (12 R267). -/
def State.opStarted (s : State) (m : Cmd) : Bool :=
  match s.groups.find? (fun g => g.num == m.grp) with
  | some g => g.ops.any (fun o => o.opseq == m.opseq && o.started)
  | none => false

/-- Whether a command may start now: queued, its panel not being stopped (17 R319) nor held, but for the copy of a pair in
progress, the commands of operations that the leader has started, and those of a stopped save's issuer (18 R347); and a collective not
held by a rejoin (12 R273). -/
def State.canStart (s : State) (m : Cmd) : Bool :=
  m.state == .queued && (match s.panel m.panel with
      | some p => p.dispatches || (match m.kind with | .pair _ => p.resident | _ => false) ||
          (m.kind.isColl && p.collect.isSome && s.opStarted m) ||
          (p.state == 3 && p.collect.isNone && decide (p.issuer = some (m.core, m.slot)))
      | none => false) &&
    (match m.kind with
      | .cred _ | .cbcast | .cadj => match s.groups.find? (fun g => g.num == m.grp) with
        | some g => (match g.hold with | some q => decide (m.opseq < q) | none => true)
        | none => true
      | _ => true)

/-- A command by number. -/
def State.cmd (s : State) (id : Nat) : Option Cmd := s.cmds.find? (fun m => m.id == id)

/-- The command that the Atelier takes next: the first of its inbox that is not the running round's and whose panel is not
being stopped or held (17 R319). -/
def State.atelierHead (s : State) : Option Cmd :=
  (s.atelierBox.filterMap s.cmd).find? (fun m => s.round.all (fun r => r.cmd != m.id) &&
    (match s.panel m.panel with | some p => p.dispatches | none => true))

/-- The command that an engine starts next: the oldest that may start (03 R59); the Atelier's in the order of its inbox, where
a population command starts with its round. -/
def State.nextCmd (s : State) (e : Engine) : Option Cmd :=
  if e = .atelier then s.atelierHead.filter s.canStart
  else s.cmds.find? (fun m => decide (m.engine = e) && s.canStart m)

/-- Whether a command is parked (17 R319). -/
def State.parked (s : State) (id : Nat) : Bool := match s.cmd id with | some m => m.state == .parked | none => false

/-- LEN of a header (03 Table 03-3). -/
def hdrLen (h : Word) : Nat := fld h.toNat 28 13
/-- PRIO of a header. -/
def hdrPrio (h : Word) : Nat := fld h.toNat 22 6
/-- CLASS of a header. -/
def hdrClass (h : Word) : Fin 64 := Fin.ofNat 64 (fld h.toNat 16 6)
/-- KIND of a header. -/
def hdrKind (h : Word) : Nat := fld h.toNat 13 3
/-- DEST of a header. -/
def hdrDest (h : Word) : Nat := fld h.toNat 0 13

/-- Whether a class is valid (03 R46). -/
def classValid (r : Word) : Bool := r.getLsbD 63 && decide (fld r.toNat 26 3 ≤ fld r.toNat 29 3) && !r.getLsbD 0

/-- The slot set of a message (03 R47). -/
def Core.slotSet (k : Core) (m : Msg) : List (Fin 8) :=
  let r := k.routine[hdrClass m.h0]
  (List.finRange 8).filter (fun i =>
    decide (fld r.toNat 26 3 ≤ i.val) && decide (i.val ≤ fld r.toNat 29 3) && k.rxctx.getLsbD i.val == m.cross)

/-- Whether a core still serves a panel: resident there, and up (17 R307, R308). -/
def State.serves (s : State) (c panel : Nat) : Bool :=
  !s.coreDown c && (match s.panelAt c with | some p => p.resident && p.num == panel | none => false)

/-- Why a core refuses a message, if it does: PANEL_DOWN (17 R307, R308), NOCLASS, NOSLOT. -/
def State.refuses (s : State) (c : Nat) (m : Msg) : Option Nat :=
  if !s.serves c m.panel then some 3
  else if !classValid (s.core c).routine[hdrClass m.h0] then some 1
  else if ((s.core c).slotSet m).isEmpty then some 2
  else none

/-- Whether a message of an admission is refused or admitted at once, and not held back (03 R48). -/
def Core.room (k : Core) (len : Nat) : Bool :=
  decide (k.inbox.length < 64) &&
    decide ((k.inbox.map (fun m => (fld m.h0.toNat 28 13 + 63) / 64 * 64)).sum + (len + 63) / 64 * 64 ≤ 32768)

/-- The sectors of one step of an engine (17 Table 17-7): 4 KiB of pushed data of an SKE (DESIGN CHOICE, assumption log 72: the
rule says at most), 256 bytes of a CXL burst, else one sector. -/
def stepSectors : Engine → Nat
  | .ske _ => 128
  | .cxl _ => 8
  | _ => 1

/-- Whether a step of a command is under way: some of its sectors are written and some are not. -/
def Cmd.stepOpen (m : Cmd) (n : Nat) : Bool :=
  let k := stepSectors m.engine
  decide ((m.sectors.filter (fun x => x.n / k == n / k)).length < min k (m.nsec - n / k * k))

/-- Whether a command stands between two steps of its engine. -/
def Cmd.between (m : Cmd) : Bool := m.sectors.all (fun x => !m.stepOpen x.n)

/-- Whether a panel's collection waits for an engine: no new step of it begins (17 R318, R319). -/
def State.stopping (s : State) (m : Cmd) : Bool :=
  match s.panel m.panel with
  | some p => p.collect.any (fun c => c.waiting.contains m.engine)
  | none => false

/-- Whether an engine instance can acknowledge a stop of a panel now (17 Table 17-7): an SKE or a CXL port between two steps, a
CLE once no operation of the panel that the leader has started is left, the Atelier once no pair is in progress, a page walker once no
walk of the panel is left, any other between two sectors. -/
def State.stoppedAt (s : State) (panel : Nat) (e : Engine) : Bool :=
  match e with
  | .ske _ | .cxl _ => s.cmds.all (fun m => m.panel != panel || decide (m.engine ≠ e) || m.state != .running || m.between)
  | .cle _ => s.cmds.all (fun m => m.panel != panel || decide (m.engine ≠ e) || m.ended || m.state == .parked || !m.kind.isColl || !s.opStarted m)
  | .walker d => (s.die d.val).walks.all (fun w => (s.cmd w.1).all (fun m => m.panel != panel))
  | .atelier => match s.round with
    | some r => (match s.cmd r.cmd with
      | some m => m.panel != panel || r.pairs.all (fun p => !p.quiesced || p.finished)
      | none => true)
    | none => true
  | _ => true

/-- The core of an object with a score; none for a link. -/
def objCore : ScoreObj → Option Nat
  | .core c => some c.val
  | .bank c _ => some c.val
  | .link _ => none

/-- Whether an object's targeted test may run now (20 R383): its core has no resident panel, or the panel is held at the
host's request or for tests; a link may at any time. -/
def State.testable (s : State) (o : ScoreObj) : Bool :=
  match objCore o with
  | some c => !s.coreDown c && (match s.panelAt c with
    | some p => p.collect.isNone && (!p.resident || (p.state == 3 && (p.hostHeld || p.testHold)))
    | none => true)
  | none => true

/-- The die whose walker walks for a command: its engine's, for the Atelier the issuing core's (01 R11, 18 R354; DESIGN CHOICE, assumption
log 88). -/
def Cmd.walkerDie (m : Cmd) : Nat :=
  match m.engine with
  | .xfu cl => cl.val / 16
  | .ske d => d.val
  | .cle d => d.val
  | .cme d => d.val
  | .easel d _ => d.val
  | .walker d => d.val
  | .cxl p => p.val
  | .atelier => m.core / 1024

/-- Whether the page that a command waits for is being walked: in parked commands too, whose walks fill the TLBs (17 R319). -/
def State.walking (s : State) (id : Nat) : Bool :=
  match s.cmd id with
  | some m => m.pages.any (fun (w : Nat × Bool) => (s.walksOn m.walkerDie).contains (m.asid, w.1 / 2 ^ 15))
  | none => true

/-- Whether a die leads its view of a group as it sees it: the lowest member that it does not suspect (20 R387). -/
def State.leads (s : State) (d : Nat) (x : Member) : Bool :=
  let me := s.pkgid.toNat * 8 + d
  x.live.contains me && x.live.all (fun m => (s.die d).suspects.contains m || decide (me ≤ m))

/-- 100 µs in CYCLE periods (17 R322). -/
def preemptLimit : Nat := 160000

/-- Whether a packet's source can send: its die is live, or it comes from another package. -/
def State.sourceUp (s : State) (p : Packet) : Bool := decide (2 ^ 14 ≤ p.src) || s.dieLive (agentDie p.src)

/-- Whether the SRS can hold a panel (17 R318): one that runs, or one whose stopped save leaves its issuer running. -/
def Panel.holdable (p : Panel) : Bool :=
  p.dispatches || (p.state == 3 && p.collect.isNone && p.issuer.isSome && p.saving.isNone && p.aside.isNone)

/-- Whether nothing that a die has sent on the bypass ring is still on its way: what it sends now comes behind (19 R359). -/
def State.ringClear (s : State) (d : Nat) : Bool := s.ring.all (fun e => e.1 != s.pkgid.toNat * 8 + d)

/-- Whether a due event can come about now; one that cannot stays due (DESIGN CHOICE, assumption log 7). -/
def State.isReady (s : State) : Due → Bool
  | .engineCommandStart e => (s.nextCmd e).isSome ||
      (match e with | .easel d k => !((s.die d.val).easelBox[k]).isEmpty | _ => false)
  | .atelierRoundStart => s.round.isNone && (s.atelierHead.isSome || s.atelierBox.isEmpty)
  | .pairQuiesced i => match s.round with
      | some r => (match r.pairs[i]?, s.cmd r.cmd with
        | some p, some m => (s.core p.loser).quiet 0xFF && (s.core p.winner).quiet 0xFF &&
            (match s.panel m.panel with | some q => q.dispatches | none => true) &&
            s.boxRoom (.cme (Fin.ofNat 8 (p.winner / 1024))) && s.walkerFree (m.core / 1024)
        | _, _ => true)
      | none => true
  | .pairCopyDone i => match s.cmds.find? (fun m => decide (m.kind = CmdKind.pair i) && m.ended) with
      | some c => s.cmds.all (fun m => m.ended || !c.fronts.any m.fronts.contains) && s.walkerFree (c.core / 1024)
      | none => true
  | .sectorWrite id n => !s.parked id && (match s.cmd id with
      | some m => !s.stopping m || m.stepOpen n
      | none => true)
  | .pageWalk id => s.walking id
  | .migrateComplete id => !s.parked id
  | .donationAppend cl => (s.cluster cl.val).taskRoom
  | .messageAdmit c => match (s.core c.val).offers with
      | m :: _ => (s.core c.val).room m.payload.length || (s.refuses c.val m).isSome
      | [] => true
  | .preemptAck n e => s.stoppedAt n e && (decide (e = .atelier) || s.ringClear (agentDie (agentOf e))) && (match s.panel n with
      | some p => p.collect.all (fun c => decide (s.cycle < c.startAt + preemptLimit))
      | none => true)
  | .packetInject id => (match s.packets.find? (fun p => p.id == id) with
      | some p => decide ((s.packets.filter (fun q => q.injected && q.src == p.src && q.dst == p.dst)).length < 256) &&
          s.roomOn p (s.outPath p) && s.sourceUp p
      | none => true)
  | .e2eResendTimeout id => (match s.packets.find? (fun p => p.id == id) with
      | some p => s.roomOn p (s.resendPath p)
      | none => true)
  | .flitEject id f => (match s.packets.find? (fun p => p.id == id) with
      | some p => s.flitThere p f && (s.die (p.dst / 1024)).stage != .off
      | none => true)
  | .transitDone id => s.gone id
  | .ucieFlitReceive l lseq =>
      let x := s.link l
      !x.retraining && !x.disabled && (x.expect == lseq || x.behind lseq)
  | .linkAck l => !(s.link l).retraining && !(s.link l).disabled
  | .nakReceive l => !(s.link l).retraining
  | .e2eAckReceive id => match s.packets.find? (fun p => p.id == id) with
      | some p => p.delivered
      | none => true
  | .bulkAccess n => (s.panel n).all (fun p => p.bulk.all (fun b => b.rq.arg1 == 0) || s.walkerFree (coreAt p.x0 p.y0 / 1024))
  | .saveComplete n | .saveStop n _ _ | .restoreComplete n => (s.panel n).all (fun p => s.walkerFree (coreAt p.x0 p.y0 / 1024))
  | .commitReceive d _ _ => s.walkerFree d.val
  | .mapDone va rq => s.cmds.all (fun m => m.panel != rq.panel || !m.uses (some va) none)
  | .targetedTestStart o => s.testable o
  | .testHoldTimeout o => !(s.scoreOf o).due || (s.scoreOf o).testing || (objCore o).any s.coreDown || (match (objCore o).bind s.panelAt with
      | some p => p.holdable
      | none => false)
  | .rejoinCommit n => match s.groups.find? (fun g => g.num == n) with
      | some g => (match g.hold with | some q => g.ops.all (fun o => o.ended || decide (q ≤ o.opseq)) | none => true) &&
          (List.range 8).all (fun d => (s.die d).members.all (fun x => x.grp != n || !s.dieLive d || !s.leads d x ||
            (x.proposing.isNone && x.live.all (fun m => !(s.die d).suspects.contains m))))
      | none => true
  | _ => true

/-- The first message of each source on the bypass rings: those of one source arrive in order (19 R359). -/
def ringHeads : List Nat → List (Nat × Due) → List Due
  | _, [] => []
  | seen, e :: rest => if seen.contains e.1 then ringHeads seen rest else e.2 :: ringHeads (e.1 :: seen) rest

/-- Events that are due now and can come about: timers that have run out, the agenda, then what the rings bring. -/
def State.due (s : State) : List Due :=
  ((s.timers.filter (fun t => decide (t.1 ≤ s.cycle))).map (·.2) ++ s.agenda ++ ringHeads [] s.ring).filter s.isReady

/-- Takes a due event out of its queue. -/
def State.take (s : State) (e : Due) : State :=
  if s.timers.any (fun t => decide (t.1 ≤ s.cycle) && decide (t.2 = e)) then
    { s with timers := s.timers.eraseP (fun t => decide (t.1 ≤ s.cycle) && decide (t.2 = e)) }
  else if s.agenda.contains e then { s with agenda := s.agenda.erase e }
  else { s with ring := s.ring.eraseP (fun x => decide (x.2 = e)) }

/-- The choice of this step. -/
def State.choice (s : State) : Choice := s.choices.headD { pick := 0, delay := 0 }

/-- Every cached translation of a core and of its cluster leaves (18 R353, R355): an outside choice (DESIGN CHOICE, assumption
log 17). -/
def State.forgetTlb (s : State) (c : Nat) : State :=
  let s := s.setCore c { s.core c with tlb := [] }
  s.setCluster (c / 64) { s.cluster (c / 64) with tlb := [] }

/-- Whether a panel contains all 64 cores of a cluster (03 R64). -/
def Panel.hasCluster (p : Panel) (cl : Nat) : Bool := p.has (cl * 64) && p.has (cl * 64 + 63)

/-- Whether a cluster's queue and ring are empty with a context blocked in TASKTAKE (03 R69). -/
def State.hungry (s : State) (cl : Nat) : Bool :=
  let x := s.cluster cl
  !s.coreDown (cl * 64) && x.tasks.isEmpty && decide (x.ringLen = 0) &&
    s.cores.any (fun (e : Nat × Core) => e.1 / 64 == cl && e.2.ctxs.toList.any (fun (c : Ctx) => c.run.waits && (match c.wait with
      | some o => decide (o.on = .task cl)
      | none => false)))

/-- Whether a cluster starves (03 R69): it has been hungry for 2,048 cycles. -/
def State.starving (s : State) (cl : Nat) : Bool :=
  let x := s.cluster cl
  s.hungry cl && !x.asking && x.donated.isNone && x.starveAt.any (fun t => decide (t + 2048 ≤ s.cycle))

/-- The CYCLE since which a cluster is hungry, kept up to date (03 R69). -/
def State.noteHunger (s : State) (cl : Nat) : State :=
  let x := s.cluster cl
  if s.hungry cl then (if x.starveAt.isSome then s else s.setCluster cl { x with starveAt := some s.cycle })
  else if x.starveAt.isSome then s.setCluster cl { x with starveAt := none }
  else s

/-- The cluster that a starving one asks next: of its die and panel, not retired (17 R307), in ring order after the one it last asked (03 R69). The
one last asked is kept from one starvation to the next (DESIGN CHOICE, assumption log 73). -/
def State.nextVictim (s : State) (cl : Nat) : Option Nat :=
  match s.panelAt (cl * 64) with
  | some p =>
    let last := (s.cluster cl).victim.getD cl
    ((List.range 16).map (fun (i : Nat) => cl / 16 * 16 + (last + 1 + i) % 16)).find? (fun v => v != cl && p.hasCluster v && p.hasCluster cl &&
      !s.coreDown (v * 64))
  | none => none

/-- CYCLE periods in 1, 4, 20 and 100 µs and in 2^20 µs (17 R323, 20 R380, R385, R386). -/
def microsecond : Nat := 1600
@[inherit_doc microsecond]
def beatEvery : Nat := 6400
@[inherit_doc microsecond]
def suspectAfter : Nat := 32000
@[inherit_doc microsecond]
def lossAfter : Nat := 160000
@[inherit_doc microsecond]
def halfLife : Nat := 1600 * 2 ^ 20

/-- Whether a live die has not heard a member for some time. -/
def State.silent (s : State) (d mem n : Nat) : Bool := s.dieLive d && decide (SMap.get (s.die d).heard 0 mem + n ≤ s.cycle)

/-- Whether a die that was live has not been declared lost. -/
def State.undeclared (s : State) (d : Nat) : Bool := (s.die d).stage == .live || ((s.die d).stage == .off && s.master.isSome)

/-- Who notices that a die is silent: the master, or for the master itself any live die (20 R385). -/
def State.watches (s : State) (w d : Nat) : Bool :=
  w != d && s.dieLive w && (s.master.any (fun m => m.val == w) || s.master.any (fun m => m.val == d || !s.dieLive m.val))

/-- Whether a die comes to suspect a member (20 R386): one of a view of its, silent for 20 µs. -/
def State.mustSuspect (s : State) (d mem : Nat) : Bool :=
  !(s.die d).suspects.contains mem && mem != s.pkgid.toNat * 8 + d && s.silent d mem suspectAfter &&
    (s.die d).members.any (fun x => x.live.contains mem)

/-- Whether a die must be declared lost (20 R385): silent for 100 µs. -/
def State.mustLose (s : State) (d : Nat) : Bool :=
  s.undeclared d && (List.range 8).any (fun w => s.watches w d && s.silent w (s.pkgid.toNat * 8 + d) lossAfter)

/-- What falls due at an instant of the clock, a multiple of 1 µs: the halving of scores, counted from package reset (20 R380), and with
power forecasts and clocks (17 R323, R325), heartbeats, suspicions and losses (20 R385, R386). -/
def State.clockwork (s : State) : List Due :=
  (if s.cycle % halfLife = 0 then [Due.scoreHalving] else []) ++ if !s.power then [] else
  s.cores.map (fun e => Due.actfcstUpdate (Fin.ofNat 8192 e.1)) ++
    s.clusters.map (fun e => Due.clockChange (Fin.ofNat 128 e.1)) ++
    (if s.cycle % beatEvery = 0 then ((List.finRange 8).filter (fun d => s.dieLive d.val)).map Due.heartbeatSend else []) ++
    (List.finRange 8).flatMap (fun d => (((s.die d.val).members.flatMap (fun (x : Member) => x.live)).eraseDups.filter (s.mustSuspect d.val)).map
      (Due.suspectTimeout d)) ++
    ((List.finRange 8).filter (fun d => s.mustLose d.val)).map Due.heartbeatLossTimeout

/-- One step of time (07 Table 07-11, DESIGN CHOICE, assumption log 8): never past the next multiple of 1 µs, at which what is
due by the clock comes about before anything else. -/
def State.pass (s : State) (c : Choice) : State :=
  let t := min (s.cycle + 1 + c.delay) ((s.cycle / microsecond + 1) * microsecond)
  let s := ((s.cores.map (fun (e : Nat × Core) => e.1 / 64)).eraseDups).foldl State.noteHunger s
  let s := { s with cycle := t, tick := s.tick + 1 }
  let s := { s with urgent := s.urgent ++ (if t % microsecond = 0 then s.clockwork else []) }
  let asks := (((s.cores.map (fun (e : Nat × Core) => e.1 / 64)).eraseDups.filter (fun cl =>
    s.starving cl && (s.nextVictim cl).isSome)).map (fun (cl : Nat) => Due.stealRequest (Fin.ofNat 128 cl))).filter (fun d =>
    !s.agenda.contains d)
  { s with agenda := s.agenda ++ asks }

/-- The word at the pc, or the repetition that stands there (04 R91, 05 R106, R108). -/
def State.nextAtPc (s : State) : Except (Cause × Word) Instr :=
  match s.me.rep with
  | none => s.fetch s.me.pc
  | some r => match s.fetch (s.me.pc + 2) with
    | .ok i => .ok (i.repAt r.mask r.idx)
    | .error e => .error e

/-- Whether the head of the replay queue is issued now: its wait, if any, has ended. -/
def State.replays (s : State) : Bool := s.me.pend != [] && s.waitsNot s.at_ s.slot

/-- The instruction of the head of the replay queue. -/
def State.headInstr (s : State) : Except (Cause × Word) Instr :=
  match s.me.pend with
  | e :: _ => match e.instr with
    | some i => .ok i
    | none => .error (.illegal, BitVec.ofNat 64 e.word.toNat)
  | [] => s.nextAtPc

/-- An outcome of an event inside a step: an event whose occasion is gone is dropped (DESIGN CHOICE, assumption log 7). -/
def orDropped (s : State) (o : Host.Outcome State Fault Refusal) : Host.Outcome State Fault Refusal :=
  match o with
  | .fault _ => .next s
  | r => r

/-- Whether a repeat with no repetition left waits for the replay queue to empty (18 R335). -/
def Ctx.spent (x : Ctx) : Bool := x.pend != [] && x.rep.any (fun r => decide (r.n ≤ r.idx))

/-- A trap of a failed fetch or decode (05 R106, R107): older finishing instructions complete first (18 R331). -/
def State.decodeTrap (s : State) (e : Cause × Word) : State := s.settle.takeTrap 4 { cause := e.1, tval := e.2 }

/-- One context issues: the head of its replay queue if that may go on, else the instruction at its pc; a failed fetch or
decode traps (05 R106, R107) where a younger word may issue (14 R294, 18 R329). A repeat with no repetition left has nothing at the pc until its queue is empty (18 R335). -/
def issueNow (exec : Instr → State → Host.Outcome State Fault Refusal) : Issuer := fun s c k =>
  let s := { s with actor := Fin.ofNat 8192 c, slot := k, source := .pc, turn := c + 1 }
  if s.replays then
    match s.headInstr with
    | .ok i => exec i { s with source := .entry }
    | .error e => .next ({ s with source := .entry }.decodeTrap e)
  else if s.me.spent then .next s.hold
  else
    match s.nextAtPc with
    | .ok i => exec i s
    | .error e => if s.me.pend ≠ [] ∧ s.me.shut none then .next s.hold else .next (s.decodeTrap e)

/-- The context that 17 R315 chooses issues, and the ages of the core's contexts follow. -/
def issueOn (exec : Instr → State → Host.Outcome State Fault Refusal) (s : State) (c : Nat) (k : Fin 8) :
    Host.Outcome State Fault Refusal :=
  issueNow exec (s.aged c (s.eligible (issueNow exec) c) k) c k

/-- The request of a host that names a panel, if an input is one (19 Table 19-5). -/
def panelRequest : Instr → Option Req
  | .panelRelease rq | .imageLoad rq _ | .launch rq | .read rq | .write rq | .hold rq | .resumeRequest rq | .swapOut rq | .swapIn rq
  | .save rq | .restore rq | .kill rq | .groupCreate rq | .state rq | .map rq => some rq
  | _ => none

/-- Whether no earlier request of the same connection on its panel is still to be served (19 R373): a READ or WRITE in progress, or a LAUNCH
that waits for another to end (17 R313). -/
def State.bulkFree (s : State) (rq : Req) : Bool :=
  (s.panel rq.panel).all (fun p => p.bulk.all (fun b => b.rq.job != rq.job) && p.launches.all (fun q => q.job != rq.job))

/-- Whether a host's request walks the tables of its panel (18 R351). -/
def needsWalk : Instr → Bool
  | .read _ | .write _ | .restore _ | .groupCreate _ => true
  | _ => false

/-- Whether the walker of a panel's first die can take the walk of a request (18 R353; DESIGN CHOICE, assumption log 88). -/
def State.walkFor (s : State) (i : Instr) : Bool :=
  !needsWalk i || (panelRequest i).all (fun rq => (s.panel rq.panel).all (fun p => s.walkerFree (coreAt p.x0 p.y0 / 1024)))

/-- Whether a request of a die's health records finds what the die has sent before on the ring (19 R359, 20 R392). -/
def State.ringFor (s : State) : Instr → Bool
  | .health rq => fld rq.arg0.toNat 0 8 != 2 || s.ringClear (fld rq.arg0.toNat 8 4)
  | _ => true

/-- Whether an input cannot be served yet. -/
def State.inputWaits (s : State) (i : Instr) : Bool := !((panelRequest i).all s.bulkFree && s.walkFor i && s.ringFor i)

/-- Whether two inputs keep their order: requests of one connection on one panel (19 R373). -/
def sameStream (i j : Instr) : Bool :=
  match panelRequest i, panelRequest j with
  | some a, some b => a.job == b.job && a.panel == b.panel
  | _, _ => false

/-- The first input that can be served, with the others; `before` are those passed over. -/
def State.nextInput (s : State) : List Instr → List Instr → Option (Instr × List Instr)
  | _, [] => none
  | before, i :: rest =>
    if s.inputWaits i || before.any (sameStream i) then s.nextInput (before ++ [i]) rest else some (i, before ++ rest)

/-- A context's MWAIT may return now (08 R178; DESIGN CHOICE, assumption log 71). -/
def Ctx.rouse (x : Ctx) : Ctx :=
  if x.wait.any (fun w => match w.on with | .monitor _ => true | _ => false) then
    { x with mon := x.mon.map (fun w => { w with early := true }) }
  else x

/-- A command that has not read its sources translates virtual sectors by the tables as they stand, whatever is cached (18 R355; DESIGN
CHOICE, assumption log 17). -/
def State.translateAnew (s : State) (id : Nat) (secs : List Nat) : State :=
  { s with cmds := s.cmds.map (fun m => if m.id = id ∧ m.ended = false ∧ m.srcRead = false then { m with anew := secs } else m) }

/-- A message with 32-byte sectors of its payload read from memory now (11 R234). -/
def State.reread (s : State) (m : Msg) (secs : List Nat) : Msg :=
  match m.unread with
  | some key => { m with payload := m.payload.mapIdx (fun i b => if secs.contains ((key + i) / 32) then s.byte (key + i) else b) }
  | none => m

/-- Sectors of a SEND's payload are read only now (11 R234): while its packet has not left and no FENCE.E has completed (DESIGN CHOICE,
assumption log 70). -/
def State.readLate (s : State) (id : Nat) (secs : List Nat) : State :=
  { s with packets := s.packets.map (fun p => if p.id = id ∧ p.injected = false then (match p.body with
      | .message m => { p with body := .message (s.reread m secs), data := (s.reread m secs).payload }
      | .order m e => { p with body := .order (s.reread m secs) e, data := (s.reread m secs).payload }
      | _ => p) else p) }

/-- What the outside chooses beside the order of events: a core's cached translations leave (18 R353, R355), an MWAIT returns
early (08 R178), the SRS sets up a fabric path (19 R364), and accesses that the rules leave free take the newer state (18 R355, 11
R234). -/
def State.outside (s : State) (c : Choice) : State :=
  let s := match c.forget with | some k => s.forgetTlb k | none => s
  let s := match c.anew with | some (id, secs) => s.translateAnew id secs | none => s
  let s := match c.late with | some (id, secs) => s.readLate id secs | none => s
  let s := match c.early with
    | some (k, i) => s.setCtx k.val i (s.ctx k.val i).rouse
    | none => s
  match c.circuit with
  | some (i, e) => if s.srs && circuitOk e && (circPort e).isSome then s.setCircuit i e else s
  | none => s

/-- One step of the package (95_what_each_step_holds, DESIGN CHOICE, assumption log 7): what is due at this instant of the clock, else a due
event, the first input from outside that can be served, or one instruction of one context; with nothing to do, time passes. -/
def stepWith (exec : Instr → State → Host.Outcome State Fault Refusal)
    (run : Due → State → Host.Outcome State Fault Refusal) (s : State) : Host.Outcome State Fault Refusal :=
  match s.urgent with
  | e :: rest => orDropped { s with urgent := rest } (run e { s with urgent := rest })
  | [] =>
    let c := s.choice
    let s := { s with choices := s.choices.drop 1 }.outside c
    let due := s.due
    match due[c.pick]? with
    | some e => orDropped (s.take e) (run e ((s.take e).pass c))
    | none =>
      match s.inputs with
      | _ :: _ =>
        if c.pick = due.length then
          match s.nextInput [] s.inputs with
          | some (i, rest) => orDropped { s with inputs := rest } (exec i ({ s with inputs := rest }.pass c))
          | none => .next (s.pass c)
        else issueAny c (c.pick - due.length - 1) s
      | [] => issueAny c (c.pick - due.length) s
where
  /-- One context of the core that the choice picks issues. -/
  issueAny (c : Choice) (skip : Nat) (s : State) : Host.Outcome State Fault Refusal :=
    let s := s.pass c
    match s.nextCore (issueNow exec) skip with
    | none => .next s
    | some core =>
      match s.best core (s.eligible (issueNow exec) core) with
      | none => .next s
      | some k => issueOn exec s core k

/-- A panel of one tile for a word placed by `State.withFetchWord` (DESIGN CHOICE, assumption log 1). -/
def onePanel : Panel where
  num := 1
  x0 := 0
  y0 := 0
  w := 2
  h := 2
  pfloor := 0
  state := 2
  job := 0
  bars := .replicate 16 {}
  barIdx := 0
  savecur := 0
  testHold := false
  lineage := 0
  image := none
  launch := none
  launches := []
  waiting := []
  collect := none
  hostHeld := false
  aside := none
  bulk := none
  parked := []
  saving := none
  issuer := none
  ptbase := 0
  asid := 0
  gone := []
  root := 0
  tables := []

/-- The state with an instruction's bytes at core address 0, which slot 0 of core 0 fetches in the next step
(DESIGN CHOICE, assumption log 1): die 0 is live, the core belongs to a panel of one tile, the context is Ready, in S mode if the
instruction is S-only, and the choice of the step is to issue. -/
def State.place (s : State) (nbits w : Nat) : State :=
  let sOnly := match decodeTableWord nbits w with | some i => i.sOnly | none => false
  let s := { s with
    mem := Memory.write s.mem 0 4 (w % 2 ^ nbits)
    dies := s.dies.set 0 { s.dies[0] with stage := .live }
    panels := onePanel :: s.panels
    names := max s.names (onePanel.num + 1)
    turn := 0
    urgent := [] }
  let k := s.core 0
  let x := { k.ctxs[0] with run := .ready, pc := 0, mode := sOnly, rep := none, pend := [], wait := none }
  let s := s.setCore 0 { k with ctxs := (k.ctxs.mapIdx (fun i y => if i = 0 then x else { y with run := .dormant })), panelId := 1 }
  let s := { s with cores := s.cores.take 1 }
  { s with choices := { pick := s.due.length + (if s.inputs = [] then 0 else 1), delay := 0 } :: s.choices }

end Sys2Proof.Machine
end

