-- ==== Sys2Proof/Machine/Access.lean ====
section
/-!
DEFINITION. Scalar loads and stores, atomics and locks, versions, fences, panel barriers and the monitor
(08_memory_instr.md R155 to R179, 02 R35 to R40).
-/

namespace Sys2Proof.Machine

/-- The issuing context as the agent of a write. -/
def State.self (s : State) : Who := some (s.at_, s.slot)

/-- The address of an LD or ST form: gA + sx(OFF7) × size (08 R156). -/
def offAddr (base : Word) (off : BitVec 7) (size : Nat) : Word := base + sxi off * BitVec.ofNat 64 size

/-- Extends a loaded number (08 R156). -/
def extend (signed : Bool) (size v : Nat) : Word :=
  if signed then BitVec.ofInt 64 (toSigned (8 * size) v) else BitVec.ofNat 64 v

/-- A scalar load of `size` bytes; only an 8-byte LD may read CUR of a versioned word (02 R36, 08 R155, R156). -/
def State.loadAt (s : State) (addr : Word) (size : Nat) : M Nat :=
  if size = 8 ∧ isVersioned addr then do
    let i ← s.accessV addr
    return (s.vword s.clus i).cur.toNat
  else do
    let key ← s.accessR addr size size
    return s.load key size

/-- A scalar store of `size` bytes (08 R157). -/
def State.storeAt (s : State) (addr : Word) (size : Nat) (v : Word) : M State := do
  let key ← s.access addr size size
  return s.store s.self key size (v.toNat % 2 ^ (8 * size))

/-- A load form (08 R156). -/
def ldOp (i : Instr) (a t : Fin 32) (f : Word → Word) (size : Nat) (signed : Bool) (s : State) :
    Host.Outcome State Fault Refusal :=
  issue i (fun s => do
    let (x, s) ← s.srcA a
    let v ← s.loadAt (f x) size
    s.writeG t (extend signed size v)) s

/-- A store form (08 R157). -/
def stOp (i : Instr) (a t : Fin 32) (f : Word → Word) (size : Nat) (s : State) : Host.Outcome State Fault Refusal :=
  issue i (fun s => do
    let (x, s) ← s.srcA a
    let (v, s) ← s.srcD t
    s.storeAt (f x) size v) s

/-! ## Atomics and lock bits -/

/-- The lock id of the 8-byte word at a scratch key (02 R38). -/
def lockOf (key : Nat) : Nat := (key % 2 ^ 19 / 8 % 512) ^^^ (key % 2 ^ 19 / 2 ^ 12)

/-- The number that stands for the issuing context as a holder. -/
def State.holder (s : State) : Nat := s.at_ * 8 + s.slot.val

/-- Whether the issuing context holds a lock bit. -/
def State.holding (s : State) (c q : Nat) : Bool := (s.core c).locks.contains (q, s.holder)

/-- Takes its turn at a lock bit: at once for the holder (08 R162, against an edge case of chapter 02; DEDUCED, assumption log 89), else
when no other holds it and none asked earlier (02 R39). -/
def State.lockTurn (s : State) (c q : Nat) : M Unit :=
  waitFor (s.holding c q || ((s.core c).locks.all (fun l => l.1 != q) && s.first (.lock c q))) (.lock c q)

/-- Sets or clears the issuing context's hold of a lock bit. -/
def State.setLock (s : State) (c q : Nat) (on : Bool) : State :=
  let k := s.core c
  let rest := k.locks.filter (fun l => l != (q, s.holder))
  s.setCore c { k with locks := if on then rest ++ [(q, s.holder)] else rest }

/-- The address, key and lock of an atomic (08 R155, R159). -/
def State.atomic (s : State) (addr : Word) (dw : Bool) : M Nat := s.accessR addr (if dw then 8 else 4) (if dw then 8 else 4)

/-- An AMO (08 R159, Table 08-2): one bank operation under the word's lock bit. `new` answers what is written, none for
no write, and the flags. The own monitor of the context does not record it (08 R176; DESIGN CHOICE, assumption log 92). -/
def amoOp (i : Instr) (dw : Bool) (b a d : Fin 32) (new : Word → Word → Word → Option Word × Fl) (s : State) :
    Host.Outcome State Fault Refusal :=
  issue i (fun s => do
    let (addr, s) ← s.srcA a
    let (y, s) ← s.srcB b
    let (c, s) ← if i.regs.d.isSome then s.srcD d else .ok (0, s)
    let key ← s.atomic addr dw
    s.lockTurn (key / 2 ^ 19) (lockOf key)
    let size := if dw then 8 else 4
    let old := BitVec.ofNat 64 (s.load key size)
    let (v, f) := new old y c
    let s := match v with
      | some v => s.store s.self key size (v.toNat % 2 ^ (8 * size))
      | none => s
    (s.raiseFlags f).writeG d (if dw then old else sx32 (lo32 old))) s

/-- The new value of a two-operand AMO on 32 or 64 bits. -/
def amoNew (dw : Bool) (f64 : Word → Word → Word) (f32 : BitVec 32 → BitVec 32 → BitVec 32) (old y _c : Word) :
    Option Word × Fl :=
  (some (if dw then f64 old y else (f32 (lo32 old) (lo32 y)).zeroExtend 64), 0)

/-- AMOCAS (08 R160). -/
def casNew (dw : Bool) (old y c : Word) : Option Word × Fl :=
  (if (if dw then old == c else lo32 old == lo32 c) then some y else none, 0)

/-- AMOFADD (08 R161): one FP32 lane, or two, rounded RNE whatever FRM holds. -/
def faddNew (dw : Bool) (old y _c : Word) : Option Word × Fl :=
  let (l, f) := addCodes fp32 .rne (lo32 old).toNat (lo32 y).toNat
  if !dw then (some (BitVec.ofNat 64 l), f)
  else
    let (h, g) := addCodes fp32 .rne (old.toNat / 2 ^ 32) (y.toNat / 2 ^ 32)
    (some (BitVec.ofNat 64 (h * 2 ^ 32 + l)), f ||| g)

/-- Signed and unsigned choices of Table 08-2. -/
def pickMin {n : Nat} (x y : BitVec n) : BitVec n := if x.slt y then x else y
@[inherit_doc pickMin]
def pickMax {n : Nat} (x y : BitVec n) : BitVec n := if x.slt y then y else x
@[inherit_doc pickMin]
def pickMinu {n : Nat} (x y : BitVec n) : BitVec n := if x.ult y then x else y
@[inherit_doc pickMin]
def pickMaxu {n : Nat} (x y : BitVec n) : BitVec n := if x.ult y then y else x

/-! ## The instructions -/

/-- LDB (08 R156). -/
def execLdb (off : BitVec 7) (sc : BitVec 3) (acq : Bool) (a : Fin 32) (t : Fin 32) (s : State) : Host.Outcome State Fault Refusal :=
  ldOp (.ldb off sc acq a t) a t (fun x => offAddr x off 1) 1 true s

/-- LDBU (08 R156). -/
def execLdbu (off : BitVec 7) (sc : BitVec 3) (acq : Bool) (a : Fin 32) (t : Fin 32) (s : State) : Host.Outcome State Fault Refusal :=
  ldOp (.ldbu off sc acq a t) a t (fun x => offAddr x off 1) 1 false s

/-- LDH (08 R156). -/
def execLdh (off : BitVec 7) (sc : BitVec 3) (acq : Bool) (a : Fin 32) (t : Fin 32) (s : State) : Host.Outcome State Fault Refusal :=
  ldOp (.ldh off sc acq a t) a t (fun x => offAddr x off 2) 2 true s

/-- LDHU (08 R156). -/
def execLdhu (off : BitVec 7) (sc : BitVec 3) (acq : Bool) (a : Fin 32) (t : Fin 32) (s : State) : Host.Outcome State Fault Refusal :=
  ldOp (.ldhu off sc acq a t) a t (fun x => offAddr x off 2) 2 false s

/-- LDW (08 R156). -/
def execLdw (off : BitVec 7) (sc : BitVec 3) (acq : Bool) (a : Fin 32) (t : Fin 32) (s : State) : Host.Outcome State Fault Refusal :=
  ldOp (.ldw off sc acq a t) a t (fun x => offAddr x off 4) 4 true s

/-- LDWU (08 R156). -/
def execLdwu (off : BitVec 7) (sc : BitVec 3) (acq : Bool) (a : Fin 32) (t : Fin 32) (s : State) : Host.Outcome State Fault Refusal :=
  ldOp (.ldwu off sc acq a t) a t (fun x => offAddr x off 4) 4 false s

/-- LDD (08 R156). -/
def execLdd (off : BitVec 7) (sc : BitVec 3) (acq : Bool) (a : Fin 32) (t : Fin 32) (s : State) : Host.Outcome State Fault Refusal :=
  ldOp (.ldd off sc acq a t) a t (fun x => offAddr x off 8) 8 false s

/-- STB (08 R157). -/
def execStb (off : BitVec 7) (sc : BitVec 3) (rel : Bool) (a : Fin 32) (t : Fin 32) (s : State) : Host.Outcome State Fault Refusal :=
  stOp (.stb off sc rel a t) a t (fun x => offAddr x off 1) 1 s

/-- STH (08 R157). -/
def execSth (off : BitVec 7) (sc : BitVec 3) (rel : Bool) (a : Fin 32) (t : Fin 32) (s : State) : Host.Outcome State Fault Refusal :=
  stOp (.sth off sc rel a t) a t (fun x => offAddr x off 2) 2 s

/-- STW (08 R157). -/
def execStw (off : BitVec 7) (sc : BitVec 3) (rel : Bool) (a : Fin 32) (t : Fin 32) (s : State) : Host.Outcome State Fault Refusal :=
  stOp (.stw off sc rel a t) a t (fun x => offAddr x off 4) 4 s

/-- STD (08 R157). -/
def execStd (off : BitVec 7) (sc : BitVec 3) (rel : Bool) (a : Fin 32) (t : Fin 32) (s : State) : Host.Outcome State Fault Refusal :=
  stOp (.std off sc rel a t) a t (fun x => offAddr x off 8) 8 s

/-- C.LDD (07 R146): a plain load with no offset. -/
def execCLdd (a : Fin 32) (d : Fin 32) (s : State) : Host.Outcome State Fault Refusal :=
  ldOp (.cLdd a d) a d id 8 false s

/-- C.LDW (07 R146). -/
def execCLdw (a : Fin 32) (d : Fin 32) (s : State) : Host.Outcome State Fault Refusal :=
  ldOp (.cLdw a d) a d id 4 true s

/-- C.STD (07 R146). -/
def execCStd (a : Fin 32) (d : Fin 32) (s : State) : Host.Outcome State Fault Refusal :=
  stOp (.cStd a d) a d id 8 s

/-- C.STW (07 R146). -/
def execCStw (a : Fin 32) (d : Fin 32) (s : State) : Host.Outcome State Fault Refusal :=
  stOp (.cStw a d) a d id 4 s

/-- LDL (08 R162): takes the lock bit and loads. -/
def execLdl (sc : BitVec 2) (acq : Bool) (dw : Bool) (a : Fin 32) (d : Fin 32) (s : State) : Host.Outcome State Fault Refusal :=
  issue (.ldl sc acq dw a d) (fun s => do
    let (addr, s) ← s.srcA a
    let key ← s.atomic addr dw
    s.lockTurn (key / 2 ^ 19) (lockOf key)
    let s := s.setLock (key / 2 ^ 19) (lockOf key) true
    s.writeG d (extend (!dw) (if dw then 8 else 4) (s.load key (if dw then 8 else 4)))) s

/-- STU (08 R162): writes, then releases the lock bit; it takes a bit it does not hold. The own monitor of the context does not record it
(08 R176; DESIGN CHOICE, assumption log 92). -/
def execStu (sc : BitVec 2) (rel : Bool) (dw : Bool) (b : Fin 32) (a : Fin 32) (s : State) : Host.Outcome State Fault Refusal :=
  issue (.stu sc rel dw b a) (fun s => do
    let (addr, s) ← s.srcA a
    let (y, s) ← s.srcB b
    let size := if dw then 8 else 4
    let key ← s.access addr size size
    s.lockTurn (key / 2 ^ 19) (lockOf key)
    let s := s.store s.self key size (y.toNat % 2 ^ (8 * size))
    return s.setLock (key / 2 ^ 19) (lockOf key) false) s

/-- AMOADD (08 Table 08-2). -/
def execAmoadd (sc : BitVec 2) (ord : BitVec 2) (dw : Bool) (b : Fin 32) (a : Fin 32) (d : Fin 32) (s : State) : Host.Outcome State Fault Refusal :=
  amoOp (.amoadd sc ord dw b a d) dw b a d (amoNew dw (· + ·) (· + ·)) s

/-- AMOAND (08 Table 08-2). -/
def execAmoand (sc : BitVec 2) (ord : BitVec 2) (dw : Bool) (b : Fin 32) (a : Fin 32) (d : Fin 32) (s : State) : Host.Outcome State Fault Refusal :=
  amoOp (.amoand sc ord dw b a d) dw b a d (amoNew dw (· &&& ·) (· &&& ·)) s

/-- AMOOR (08 Table 08-2). -/
def execAmoor (sc : BitVec 2) (ord : BitVec 2) (dw : Bool) (b : Fin 32) (a : Fin 32) (d : Fin 32) (s : State) : Host.Outcome State Fault Refusal :=
  amoOp (.amoor sc ord dw b a d) dw b a d (amoNew dw (· ||| ·) (· ||| ·)) s

/-- AMOXOR (08 Table 08-2). -/
def execAmoxor (sc : BitVec 2) (ord : BitVec 2) (dw : Bool) (b : Fin 32) (a : Fin 32) (d : Fin 32) (s : State) : Host.Outcome State Fault Refusal :=
  amoOp (.amoxor sc ord dw b a d) dw b a d (amoNew dw (· ^^^ ·) (· ^^^ ·)) s

/-- AMOMIN (08 Table 08-2). -/
def execAmomin (sc : BitVec 2) (ord : BitVec 2) (dw : Bool) (b : Fin 32) (a : Fin 32) (d : Fin 32) (s : State) : Host.Outcome State Fault Refusal :=
  amoOp (.amomin sc ord dw b a d) dw b a d (amoNew dw pickMin pickMin) s

/-- AMOMAX (08 Table 08-2). -/
def execAmomax (sc : BitVec 2) (ord : BitVec 2) (dw : Bool) (b : Fin 32) (a : Fin 32) (d : Fin 32) (s : State) : Host.Outcome State Fault Refusal :=
  amoOp (.amomax sc ord dw b a d) dw b a d (amoNew dw pickMax pickMax) s

/-- AMOMINU (08 Table 08-2). -/
def execAmominu (sc : BitVec 2) (ord : BitVec 2) (dw : Bool) (b : Fin 32) (a : Fin 32) (d : Fin 32) (s : State) : Host.Outcome State Fault Refusal :=
  amoOp (.amominu sc ord dw b a d) dw b a d (amoNew dw pickMinu pickMinu) s

/-- AMOMAXU (08 Table 08-2). -/
def execAmomaxu (sc : BitVec 2) (ord : BitVec 2) (dw : Bool) (b : Fin 32) (a : Fin 32) (d : Fin 32) (s : State) : Host.Outcome State Fault Refusal :=
  amoOp (.amomaxu sc ord dw b a d) dw b a d (amoNew dw pickMaxu pickMaxu) s

/-- AMOSWP (08 Table 08-2). -/
def execAmoswp (sc : BitVec 2) (ord : BitVec 2) (dw : Bool) (b : Fin 32) (a : Fin 32) (d : Fin 32) (s : State) : Host.Outcome State Fault Refusal :=
  amoOp (.amoswp sc ord dw b a d) dw b a d (amoNew dw (fun _ y => y) (fun _ y => y)) s

/-- AMOCAS (08 R160). -/
def execAmocas (sc : BitVec 2) (ord : BitVec 2) (dw : Bool) (b : Fin 32) (a : Fin 32) (d : Fin 32) (s : State) : Host.Outcome State Fault Refusal :=
  amoOp (.amocas sc ord dw b a d) dw b a d (casNew dw) s

/-- AMOFADD (08 R161). -/
def execAmofadd (sc : BitVec 2) (ord : BitVec 2) (dw : Bool) (b : Fin 32) (a : Fin 32) (d : Fin 32) (s : State) : Host.Outcome State Fault Refusal :=
  amoOp (.amofadd sc ord dw b a d) dw b a d (faddNew dw) s

/-- The state of a versioned word after a publication (08 R166). -/
def VWord.publish (x : VWord) (n : BitVec 16) (v : Word) : VWord := { ver := n, cur := v, prev := x.cur, plive := true }

/-- The value of version n, if it is live (08 R165). -/
def VWord.value (x : VWord) (n : BitVec 16) : Option Word :=
  if x.ver - n = 0 then some x.cur else if x.ver - n = 1 ∧ x.plive then some x.prev else none

/-- LDV (08 R165). -/
def execLdv (b : Fin 32) (a : Fin 32) (d : Fin 32) (s : State) : Host.Outcome State Fault Refusal :=
  issue (.ldv b a d) (fun s => do
    let (addr, s) ← s.srcA a
    let (y, s) ← s.srcB b
    let i ← s.accessV addr
    let x := s.vword s.clus i
    let n : BitVec 16 := y.truncate 16
    match x.value n with
    | some v => s.writeG d v
    | none =>
      if (x.ver - n).toNat ≤ 32768 then .error (.trap { cause := .versionReclaimed, tval := addr, late := true })
      else .error (.wait (.version s.clus i x.ver))) s

/-- STV (08 R166): the check of n is made when it takes effect. -/
def execStv (b : Fin 32) (a : Fin 32) (d : Fin 32) (s : State) : Host.Outcome State Fault Refusal :=
  issue (.stv b a d) (fun s => do
    let (addr, s) ← s.srcA a
    let (y, s) ← s.srcB b
    let (v, s) ← s.srcD d
    let i ← s.accessV addr
    let x := s.vword s.clus i
    waitFor (!x.plive && s.first (.plive s.clus i)) (.plive s.clus i)
    if (y.truncate 16 : BitVec 16) = x.ver + 1 then .ok (s.setVword s.clus i (x.publish (y.truncate 16) v))
    else .error (.trap { cause := .versionOrder, tval := addr, late := true })) s

/-- VRCL (08 R167). -/
def execVrcl (b : Fin 32) (a : Fin 32) (s : State) : Host.Outcome State Fault Refusal :=
  issue (.vrcl b a) (fun s => do
    let (addr, s) ← s.srcA a
    let (y, s) ← s.srcB b
    let i ← s.accessV addr
    let x := s.vword s.clus i
    return if x.plive ∧ (y.truncate 16 : BitVec 16) = x.ver - 1 then s.setVword s.clus i { x with plive := false } else s) s

/-- VPROBE (08 R168). -/
def execVprobe (a : Fin 32) (d : Fin 32) (s : State) : Host.Outcome State Fault Refusal :=
  issue (.vprobe a d) (fun s => do
    let (addr, s) ← s.srcA a
    let i ← s.accessV addr
    let x := s.vword s.clus i
    s.writeG d (BitVec.ofNat 64 (b2n x.plive * 65536 + x.ver.toNat))) s

/-! ## Fences (08 R169 to R172): the model performs every access at once, so only FENCE.E has something to wait for
(DESIGN CHOICE, assumption log 6). -/

/-- FENCE (08 R170). -/
def execFence (sc : BitVec 3) (s : State) : Host.Outcome State Fault Refusal :=
  issue (.fence sc) (fun s => .ok s) s

/-- FENCE.E (08 R171): waits until every engine command issued before has read its sources; messages have read their payloads. -/
def execFenceE (sc : BitVec 3) (s : State) : Host.Outcome State Fault Refusal :=
  issue (.fenceE sc) (fun s => do
    waitFor (s.holds s.at_ s.slot .sources) .sources
    return s.readOut) s

/-- FENCE.I (08 R172). -/
def execFenceI (s : State) : Host.Outcome State Fault Refusal :=
  issue .fenceI (fun s => .ok s) s

/-- An arrival at a barrier (08 R174). -/
def Barrier.arrive (b : Barrier) (f : BitVec 6) : Barrier :=
  if b.arrived.toNat + 1 ≥ max b.count.toNat 1 then
    { b with arrived := 0, merge := 0, last := b.merge ||| f, phase := b.phase + 1 }
  else { b with arrived := b.arrived + 1, merge := b.merge ||| f }

/-- The barrier number in gA[3:0]. -/
def barNum (x : Word) : Fin 16 := Fin.ofNat 16 x.toNat

/-- BARARV (08 R174). -/
def execBararv (a : Fin 32) (d : Fin 32) (s : State) : Host.Outcome State Fault Refusal :=
  issue (.bararv a d) (fun s => do
    let (x, s) ← s.srcA a
    match s.myPanel with
    | none => s.writeG d 0
    | some p =>
      let b := p.bars[barNum x]
      let s := s.setPanel { p with bars := p.bars.set (barNum x) (b.arrive s.me.flags) }
      s.writeG d (b.phase.zeroExtend 64)) s

/-- BARWAIT (08 R175). -/
def execBarwait (b : Fin 32) (a : Fin 32) (d : Fin 32) (s : State) : Host.Outcome State Fault Refusal :=
  issue (.barwait b a d) (fun s => do
    let (x, s) ← s.srcA a
    let (t, s) ← s.srcB b
    match s.myPanel with
    | none => s.writeG d 0
    | some p =>
      let r := p.bars[barNum x]
      waitFor (r.phase != t.truncate 4) (.barrier p.num (barNum x) (t.truncate 4))
      s.writeG d (r.last.zeroExtend 64)) s

/-- MARM (08 R176). -/
def execMarm (a : Fin 32) (s : State) : Host.Outcome State Fault Refusal :=
  issue (.marm a) (fun s => do
    let (x, s) ← s.srcA a
    let key ← s.access x 1 1
    return s.setMe { s.me with mon := some { line := key / 64 } }) s

/-- When a MWAIT that waits `n` cycles times out: from when it began to wait (08 R177). -/
def State.deadline (s : State) (n : Word) : Option Nat :=
  match s.me.wait with
  | some { on := .monitor u, .. } => u
  | _ => if n = 0 then none else some (s.cycle + n.toNat)

/-- The reason that a monitor gives: the smallest code that holds (08 R176, R177). -/
def Mon.reason (m : Mon) (timeout : Bool) : Option Nat :=
  if m.wrote then some 1 else if timeout then some 2 else if m.posted then some 3 else none

/-- MWAIT (08 R177): reason 0 at once if no monitor is armed, and where it returns early (R178): before the awaited condition
holds, when the outside says so (`State.outside`), with a free reason, which the rule does not state (DESIGN CHOICE, assumption log 71). -/
def execMwait (a : Fin 32) (d : Fin 32) (s : State) : Host.Outcome State Fault Refusal :=
  issue (.mwait a d) (fun s => do
    let (x, s) ← s.srcA a
    match s.me.mon with
    | none => s.writeG d 0
    | some m =>
      let u := s.deadline x
      match m.reason (match u with | some t => decide (t ≤ s.cycle) | none => false) with
      | some r => (s.setMe { s.me with mon := none }).writeG d (BitVec.ofNat 64 r)
      | none =>
        if m.early then ({ s.setMe { s.me with mon := none } with fresh := s.fresh + 1 }).writeG d (Config.freeWord s.fresh &&& 3) else .error (.wait (.monitor u))) s

end Sys2Proof.Machine
end

