-- ==== Sys2Proof/Machine/Posts.lean ====
section
/-!
DEFINITION. What agents send one another: completion words (03 R53, R54), messages as packets (03 R44, 19 R358, R362),
engine inboxes (03 R59), and the dispatch of admitted messages to contexts (03 R47, R50, R51).
-/

namespace Sys2Proof.Machine

/-! ## Completion words -/

/-- A completion word (03 Table 03-6). -/
def compWord (status source tag : Nat) : Word := BitVec.ofNat 64 (status % 256 * 2 ^ 56 + source % 8 * 2 ^ 53 + tag % 2 ^ 28)

/-- A poster holds a word for a context's completion queue until it is posted (03 R54). -/
def State.postWord (s : State) (c : Nat) (k : Fin 8) (w : Word) : State :=
  let x := s.ctx c k
  { s.setCtx c k { x with compHeld := x.compHeld ++ [w] } with
    agenda := s.agenda ++ [Due.completionPost (Fin.ofNat 8192 c) k] }

/-- The KIND of an engine, as a completion word's SOURCE (03 Table 03-6, Table 03-9). -/
def kindOf : Engine → Nat
  | .xfu _ => 1
  | .ske _ => 2
  | .cxl _ => 2
  | .walker _ => 2
  | .cle _ => 3
  | .atelier => 4
  | .cme _ => 5
  | .easel _ _ => 6

/-! ## Messages as packets -/

/-- A header word 0. -/
def mkHdr (len prio cls kind dest : Nat) : Word :=
  BitVec.ofNat 64 (len % 2 ^ 13 * 2 ^ 28 + prio % 64 * 2 ^ 22 + cls % 64 * 2 ^ 16 + kind % 8 * 2 ^ 13 + dest % 2 ^ 13)

/-- CYCLE periods in 32 µs and in 1 ms (19 R362, 07 Table 07-11). -/
def resendAfter : Nat := 51200
@[inherit_doc resendAfter]
def resendWithin : Nat := 1600000

/-- The pair of a source and an endpoint, of this package or of the one a fabric header names (19 R358, R366). -/
def pairKey (src dst : Nat) (fabric : Option (Nat × Nat)) : Nat :=
  src * 2 ^ 16 + dst + (match fabric with | some (pkg, _) => (pkg + 1) * 2 ^ 40 | none => 0)

/-- A packet leaves its source with the next PSN of its pair (19 R358), to be injected. -/
def State.sendPacket (s : State) (src dst : Nat) (body : Body) (data : List Byte) (fabric : Option (Nat × Nat)) : State :=
  let pair := pairKey src dst fabric
  let psn := SMap.get s.psns 0 pair
  let p : Packet := {
    id := s.names, src := src, dst := dst, psn := psn, body := body, data := data, sentAt := s.cycle, firstAt := s.cycle
    fabric := fabric }
  { s with
    packets := s.packets ++ [p], psns := SMap.set s.psns pair (psn + 1), names := s.names + 1
    agenda := s.agenda ++ [Due.packetInject s.names] }

/-- A list in pieces of `k`. -/
def chunks {α : Type} (k : Nat) : Nat → List α → List (List α)
  | 0, _ => []
  | _ + 1, [] => []
  | n + 1, xs => xs.take k :: chunks k n (xs.drop k)

/-- Bytes leave their source in packets of at most 16 data flits (DESIGN CHOICE, assumption log 10), `body true` in the last. -/
def State.sendParts (s : State) (src dst : Nat) (body : Bool → Body) (bs : List Byte) (fabric : Option (Nat × Nat)) : State :=
  let cs := if bs = [] then [[]] else chunks 1024 bs.length bs
  cs.zipIdx.foldl (fun (s : State) (e : List Byte × Nat) => s.sendPacket src dst (body (e.2 + 1 == cs.length)) e.1 fabric) s

/-- A message leaves its sender as a packet. -/
def State.sendMsg (s : State) (m : Msg) : State := s.sendPacket m.src (hdrDest m.h0) (.message m) m.payload none

/-- A message leaves its sender for an engine as a packet, to the core that its header names, or for the Atelier to die 0 (19 Table 19-1;
DESIGN CHOICE, assumption log 46). -/
def State.sendOrder (s : State) (m : Msg) (e : Engine) : State :=
  s.sendPacket m.src (if e = .atelier then 0 else hdrDest m.h0) (.order m e) m.payload none

/-! ## Engine inboxes -/

/-- The number of the issuing context's panel. -/
def State.panelNo (s : State) : Nat := match s.myPanel with | some p => p.num | none => 0

/-- Puts a command's number into an engine's inbox; the start of the command is due (03 R59). -/
def State.enterBox (s : State) (e : Engine) (id : Nat) : State :=
  let s := match e with
    | .xfu cl => s.setCluster cl.val { s.cluster cl.val with xfuBox := (s.cluster cl.val).xfuBox ++ [id] }
    | .ske d => s.setDie d.val { s.die d.val with skeBox := (s.die d.val).skeBox ++ [id] }
    | .cle d => s.setDie d.val { s.die d.val with cleBox := (s.die d.val).cleBox ++ [id] }
    | .cme d => s.setDie d.val { s.die d.val with cmeBox := (s.die d.val).cmeBox ++ [id] }
    | .atelier => { s with atelierBox := s.atelierBox ++ [id] }
    | _ => s
  { s with agenda := s.agenda ++ [Due.engineCommandStart e] }

/-- The engine instance of a KIND and DEST (03 Table 03-9). -/
def engineOf (kind dest : Nat) : Engine :=
  match kind with
  | 1 => .xfu (Fin.ofNat 128 (dest / 64))
  | 2 => .ske (Fin.ofNat 8 (dest / 1024))
  | 3 => .cle (Fin.ofNat 8 (dest / 1024))
  | 4 => .atelier
  | 5 => .cme (Fin.ofNat 8 (dest / 1024))
  | _ => .easel (Fin.ofNat 8 (dest / 1024)) (Fin.ofNat 4 dest)

/-! ## Dispatch -/

/-- Whether a slot may begin an activation: Dormant, and not quiesced (18 R341). -/
def Core.free (k : Core) (i : Fin 8) : Bool := (k.ctxs[i]).run == .dormant && !(k.swq ||| k.atq).getLsbD i.val

/-- The slot a message would be dispatched to, if it is eligible (03 R50). -/
def Core.slotFor (k : Core) (m : Msg) : Option (Fin 8) :=
  if classValid k.routine[hdrClass m.h0] then (k.slotSet m).find? k.free else none

/-- The effective priority of an admitted message (03 R50, 17 R314). -/
def Msg.effective (m : Msg) (pfloor cycle : Nat) : Nat := max (hdrPrio m.h0) pfloor - (cycle - m.at_) / 4096

/-- The eligible message that is dispatched next (03 R50): the lowest effective priority, among equals the earlier one;
with its place in the inbox. -/
def Core.nextMsg (k : Core) (pfloor cycle : Nat) : Option (Nat × Msg × Fin 8) :=
  k.inbox.zipIdx.foldl (fun (best : Option (Nat × Msg × Fin 8)) (e : Msg × Nat) =>
    match k.slotFor e.1 with
    | none => best
    | some i => match best with
      | none => some (e.2, e.1, i)
      | some b => if e.1.effective pfloor cycle < b.2.1.effective pfloor cycle then some (e.2, e.1, i) else best) none

/-- The 64-bit words of a payload, the last zero-padded (03 R57). -/
def payloadWords : Nat → List Byte → List Word
  | 0, _ => []
  | n + 1, bs => BitVec.ofNat 64 (numOf (bs.take 8)) :: payloadWords n (bs.drop 8)

/-- HKEY at activation (03 Table 03-2): {core[5:0], slot[2:0], 0} exclusive-or the class's KEY. -/
def hkeyOf (r : Word) (c : Nat) (k : Fin 8) : BitVec 10 :=
  BitVec.ofNat 10 (fld r.toNat 32 10) ^^^ BitVec.ofNat 10 (c % 64 * 16 + k.val * 2)

/-- A context at the start of an activation (03 R42, 17 R302): undefined registers hold free values (DESIGN CHOICE, assumption log 3). -/
def Ctx.activate (x : Ctx) (c : Nat) (k : Fin 8) (m : Msg) (r : Word) (pfloor fresh act : Nat) : Ctx :=
  { Ctx.reset with
    run := .ready
    pc := BitVec.ofNat 64 (fld r.toNat 0 25)
    g := Vector.ofFn (fun i : Fin 32 =>
      if i.val = 0 then 0
      else if i.val = 3 then BitVec.ofNat 64 (c % 64 * 2 ^ 19 + 0x70000 + 0x1000 * k.val)
      else if i.val = 4 then BitVec.ofNat 64 (hdrLen m.h0)
      else if i.val = 5 then m.h0
      else if i.val = 6 then m.h1
      else Config.freeWord (fresh + i.val))
    v := Vector.ofFn (fun i : Fin 16 => Config.freeVec (fresh + i.val))
    p := Vector.ofFn (fun i : Fin 8 => Config.freePred (fresh + i.val))
    z := Vector.ofFn (fun i : Fin 8 => Config.freeZ (fresh + i.val))
    hkey := hkeyOf r c k
    iprio := BitVec.ofNat 6 (max (hdrPrio m.h0) pfloor)
    lastIssue := x.lastIssue
    tcause := x.tcause
    tval := x.tval
    epc := x.epc
    payload := payloadWords ((hdrLen m.h0 + 7) / 8) m.payload
    act := act
    compq := x.compq
    compHeld := x.compHeld
    latch := x.latch
    posts := x.posts }

/-- Dispatches one message to a slot (03 R51): the payload into the inbox region, the state of R42, and the handler. -/
def State.activate (s : State) (c pfloor idx : Nat) (m : Msg) (k : Fin 8) : State :=
  let s := s.putBytes none (regionBase c + 0x70000 + 0x1000 * k.val) m.payload
  let core := s.core c
  let x := (core.ctxs[k]).activate c k m core.routine[hdrClass m.h0] pfloor s.fresh s.names
  let s := s.setCore c { core with inbox := core.inbox.eraseIdx idx, ctxs := core.ctxs.set k x }
  let offered := if core.offers = [] then [] else [Due.messageAdmit (Fin.ofNat 8192 c)]
  { s with fresh := s.fresh + 32, names := s.names + 1, agenda := s.agenda ++ offered }

/-- Dispatches until no eligible message remains (03 R50): at most one for each slot. -/
def State.dispatchLoop (s : State) (c pfloor : Nat) : Nat → State
  | 0 => s
  | n + 1 => match (s.core c).nextMsg pfloor s.cycle with
    | none => s
    | some (i, m, k) => (s.activate c pfloor i m k).dispatchLoop c pfloor n

/-- The core dispatches what it may (03 R50). -/
def State.dispatch (s : State) (c : Nat) : State :=
  match s.panelAt c with
  | some p => if p.dispatches && !s.coreDown c then s.dispatchLoop c p.pfloor 8 else s
  | none => s

end Sys2Proof.Machine
end

