-- ==== Sys2Proof/Machine/Translate.lean ====
section
/-!
DEFINITION. Translation of device virtual addresses (18_traps.md R350 to R355), the second tier's segments (19 R376), and
where a physical address lies in the key space.
-/

namespace Sys2Proof.Machine

/-- Whether a physical address is malformed (18 R350). -/
def malformed (pa : Nat) : Bool := !(decide (pa < 2 ^ 39) || (decide (2 ^ 46 ≤ pa) && decide (pa < 2 ^ 46 + 2 ^ 40)))

/-- Where a physical address is served: the key of its byte and its engine, the SKE of a stack or a CXL port; none in an
unmapped segment (19 R376). -/
def State.served (s : State) (pa : Nat) : Option (Nat × Engine) :=
  if pa < 2 ^ 39 then some (deviceBase + pa, .ske (Fin.ofNat 8 (pa / 2 ^ 36)))
  else
    match s.tiers.find? (fun e => e.1 == pa % 2 ^ 40 / 2 ^ 36) with
    | some (_, port, dev) => some (deviceBase + 2 ^ 52 + port * 2 ^ 48 + dev * 2 ^ 36 + pa % 2 ^ 36, .cxl (Fin.ofNat 8 port))
    | none => none

/-- Whether the 32-byte sector of a key holds an uncorrectable error (20 Table 20-3). -/
def State.poisoned (s : State) (key : Nat) : Bool := s.poison.contains (key / 32)

/-- The fields of a page-table entry (18 Table 18-15). -/
structure Pte where
  valid : Bool
  leaf : Bool
  rd : Bool
  wr : Bool
  pa : Nat
  reserved : Bool
  deriving DecidableEq, Repr

/-- A page-table entry's fields. -/
def pteOf (e : Nat) : Pte :=
  { valid := bitOf e 0, leaf := bitOf e 1, rd := bitOf e 2, wr := bitOf e 3, pa := fld e 13 34 * 2 ^ 13,
    reserved := fld e 4 9 != 0 || fld e 47 17 != 0 }

/-- The levels of a walk from the table at `t` on: `left` levels remain (18 R351). -/
def State.walkFrom (s : State) (va : Nat) (write : Bool) : Nat → Nat → Nat → Except Nat (Nat × Nat × Bool × Bool)
  | 0, _, _ => .error 3
  | left + 1, l, t =>
    match s.served t with
    | none => .error 3
    | some (key, _) =>
      let at_ := key + 8 * (va / 2 ^ (45 - 10 * l) % 2 ^ 10)
      if s.poisoned at_ then .error 4
      else
        let e := pteOf (Memory.read s.mem at_ 8)
        if !e.valid then .error 0
        else if e.reserved || malformed e.pa then .error 3
        else if e.leaf then
          if l = 0 then .error 3
          else
            let size := 2 ^ (15 + 10 * (3 - l))
            if e.pa % size ≠ 0 then .error 2
            else if (if write then !e.wr else !e.rd) then .error 1
            else .ok (e.pa, size, e.rd, e.wr)
        else s.walkFrom va write left (l + 1) e.pa

/-- A walk (18 R351): the leaf as a cached translation, or the fault kind. -/
def State.walk (s : State) (ptbase : Word) (asid : BitVec 16) (va : Nat) (write : Bool) : Except Nat TlbEntry :=
  if !ptbase.getLsbD 0 then .error 0
  else if va ≥ 2 ^ 55 then .error 3
  else match s.walkFrom va write 4 0 (fld ptbase.toNat 13 34 * 2 ^ 13) with
    | .error k => .error k
    | .ok (pa, size, rd, wr) =>
      match s.served pa with
      | none => .error 3
      | some (key, eng) => .ok { asid := asid, va := va - va % size, size := size, pa := pa, rd := rd, wr := wr, key := key, eng := eng }

/-- Whether a cached translation serves an access (18 R353). -/
def TlbEntry.hits (e : TlbEntry) (asid : BitVec 16) (va : Nat) (write : Bool) : Bool :=
  e.asid == asid && decide (e.va ≤ va) && decide (va < e.va + e.size) && (if write then e.wr else e.rd)

/-- The cached translation that a core's command uses, its L1 first (18 R353). Entries leave when room is needed, or when the
outside says so (`State.forgetTlb`): an access before a TLBINV then takes the new entry of the tables (R355; DESIGN CHOICE,
assumption log 17). -/
def State.cached (s : State) (c : Nat) (asid : BitVec 16) (va : Nat) (write : Bool) : Option TlbEntry :=
  ((s.core c).tlb ++ (s.cluster (c / 64)).tlb).find? (fun e => e.hits asid va write)

/-- A translation put into a core's L1 and its cluster's L2, the oldest leaving a full one (18 R353). -/
def State.cache (s : State) (c : Nat) (e : TlbEntry) : State :=
  let k := s.core c
  let l1 := k.tlb.filter (· != e) ++ [e]
  let s := s.setCore c { k with tlb := l1.drop (l1.length - 192) }
  let cl := s.cluster (c / 64)
  let l2 := cl.tlb.filter (· != e) ++ [e]
  s.setCluster (c / 64) { cl with tlb := l2.drop (l2.length - 4096) }

/-- Translates for a core: the entry, and the state with it cached; or the fault kind. -/
def State.translate (s : State) (c : Nat) (ptbase : Word) (asid : BitVec 16) (va : Nat) (write : Bool) :
    Except Nat (TlbEntry × State) :=
  match (if ptbase.getLsbD 0 then s.cached c asid va write else none) with
  | some e => .ok (e, s)
  | none => match s.walk ptbase asid va write with
    | .error k => .error k
    | .ok e => .ok (e, s.cache c e)

/-- The issuing core's own translation of an address waits where its die's walker runs 64 walks (18 R353; DESIGN CHOICE, assumption
log 88). -/
def State.walker (s : State) (va : Nat) (write : Bool) : M Unit :=
  waitFor ((s.cached s.at_ s.mine.asid va write).isSome || s.walkerFree s.dieOf) (.walker s.dieOf)

/-- The engine that a virtual address of the issuing core is served by now, by a cached translation or the tables; none if it
faults. -/
def State.servedBy (s : State) (va : Nat) (write : Bool) : Option Engine :=
  match s.translate s.at_ s.mine.ptbase s.mine.asid va write with
  | .ok (e, _) => some e.eng
  | .error _ => none

/-- The physical address of a virtual one in an entry. -/
def TlbEntry.phys (e : TlbEntry) (va : Nat) : Nat := e.pa + (va - e.va)

/-- The key of a virtual byte in an entry. -/
def TlbEntry.keyOf (e : TlbEntry) (va : Nat) : Nat := e.key + (va - e.va)

/-- Whether a CXL port serves: up, and its die live (01 Table 01-2, 19 R376). -/
def State.portServes (s : State) (p : Nat) : Bool := !s.portsDown.contains p && s.dieLive p

/-- Why data at a physical address cannot be read or written now: 0x13 LINK with its stack's die not live, or its CXL port
down or on a die that is not live, 0x12 UNCORR on poisoned data (11 Table 11-9, 19 R376); DESIGN CHOICE, assumption log 18. -/
def State.unreachable (s : State) : Engine → Option (BitVec 8)
  | .ske d => if s.dieLive d.val then none else some 0x13
  | .cxl p => if s.portServes p.val then none else some 0x13
  | _ => none

/-- Keeps the first translation fault since the latch was last copied into a record (18 R352). -/
def State.latchFault (s : State) (c : Nat) (k : Fin 8) (f : XFault) : State :=
  let x := s.ctx c k
  if x.latch.isSome then s else s.setCtx c k { x with latch := some f }

/-- Why an engine's access fails (11 Table 11-9): its STATUS, with the fault that the latch keeps for 0x10. -/
structure EngFault where
  status : BitVec 8
  fault : Option XFault := none
  deriving DecidableEq, Repr

/-- Where a virtual byte of a core's panel lies, with the translation cached: its key, or why it cannot be reached. -/
def State.reach (s : State) (c : Nat) (ptbase : Word) (asid : BitVec 16) (va : Nat) (write : Bool) :
    Except EngFault (Nat × State) :=
  match s.translate c ptbase asid va write with
  | .error k => .error { status := 0x10, fault := some { va := va, kind := k } }
  | .ok (e, s) =>
    match s.unreachable e.eng with
    | some st => .error { status := st }
    | none => .ok (e.keyOf va, s)

/-- Reads `n` bytes of virtual memory from `va` on; poisoned data reads as 0x12 UNCORR (11 Table 11-9). -/
def State.readVa (s : State) (c : Nat) (ptbase : Word) (asid : BitVec 16) (va : Nat) :
    Nat → Except EngFault (List Byte × State)
  | 0 => .ok ([], s)
  | n + 1 => do
    let (key, s) ← s.reach c ptbase asid va false
    if s.poisoned key then .error { status := 0x12 }
    else
      let (bs, s) ← s.readVa c ptbase asid (va + 1) n
      return (Memory.get s.mem key :: bs, s)

end Sys2Proof.Machine
end

