-- ==== Sys2Proof/Machine/Windows.lean ====
section
/-!
DEFINITION. Palette windows (02 R28 to R34): the format, scale and checks of an element, its decoding on a load and its
encoding on a store, for the vector, matrix and engine accesses that go through one.
-/

namespace Sys2Proof.Machine

/-- A window's fields (02 Tables 02-5 and 02-6). -/
structure Win where
  code : Nat
  scaled : Bool
  sat : Bool
  rnd : Rm
  base : Nat
  sarea : Nat
  len : Nat
  deriving DecidableEq, Repr

/-- The window of its two registers. -/
def winOf (fmt : BitVec 10) (scale : Word) : Win where
  code := fmt.toNat % 64
  scaled := fmt.getLsbD 6
  sat := fmt.getLsbD 7
  rnd := Rm.ofBits (fmt.toNat / 256)
  base := scale.toNat % 2 ^ 25
  sarea := scale.toNat / 2 ^ 25 % 2 ^ 25
  len := scale.toNat / 2 ^ 50

/-- A context's window. -/
def Ctx.win (x : Ctx) (w : Fin 16) : Win := winOf x.winfmt[w] x.winscale[w]

/-- The storage size of a code in bits (02 R29); a code of no format counts one byte (DESIGN CHOICE, assumption log 83). -/
def codeBits (c : Nat) : Nat := match Fmt.ofCode c with | some f => f.bits | none => 8

/-- The bytes an element of a size in bits covers. -/
def bytesOfBits (b : Nat) : Nat := max 1 (b / 8)

/-- The exponent of a scale record: none for E = 0xFF (02 R32). `key` is the first key of the cluster. -/
def State.scaleAt (s : State) (key sarea e : Nat) : Option Int :=
  let b := (s.byte (key + (sarea + 8 + 2 * (e / 16)) % 2 ^ 25)).toNat
  let m := s.byte (key + (sarea + 9 + 2 * (e / 16)) % 2 ^ 25)
  if b = 0xFF then none else some ((b : Int) - 127 - b2n (m.getLsbD (e % 16 / 2)))

/-- The element number in a scaled region (02 R32), by its cluster scratch address and nibble. -/
def Win.index (w : Win) (csa bits nib : Nat) : Nat := (csa - w.base) * 8 / bits + nib

/-- The window checks of 02 R33 for an element of the instruction's type; `at_` is the TVAL of 09 R201. -/
def Win.checks (w : Win) (isInt : Bool) (csa bits : Nat) (at_ : Word) : M Unit := do
  ensure (decide (w.code ≤ 0x23)) .matFormat at_
  if w.scaled then
    ensure (decide (w.code < 0x20) && !isInt) .matFormat at_
    ensure (w.base % (if bits = 4 then 8 else 2 * bits) == 0 && w.sarea % 8 == 0) .misalign at_
    ensure (decide (w.base ≤ csa) && decide (csa + bytesOfBits bits ≤ w.base + w.len * 4096)) .scratchRange at_

/-- The value of a loaded code, its scale applied (02 R32): NaN for a record with E = 0xFF. -/
def scaledVal (f : Fmt) (raw : Nat) (scale : Option (Option Int)) : Val :=
  match scale with
  | none => decodeVal f raw
  | some none => .nan false
  | some (some k) => (decodeVal f raw).scale k

/-- A loaded code brought into an element type (09 R200). -/
def loadCode (src dst : Fmt) (raw : Nat) (scale : Option (Option Int)) (rm : Rm) : Nat × Fl :=
  match scale with
  | none => convert src dst raw rm false
  | some _ => roundTo (scaledVal src raw scale) dst rm false

/-- A value encoded for a store (02 R32, 09 R200): the NaN code and NV for a record with E = 0xFF. -/
def storeVal (dst : Fmt) (v : Val) (scale : Option (Option Int)) (rnd : Rm) (sat : Bool) : Nat × Fl :=
  match scale with
  | none => roundTo v dst rnd sat
  | some none => (dst.nanCode, flNV)
  | some (some k) => roundTo (v.scale (-k)) dst rnd sat

/-- An element's code encoded for a store. -/
def storeCode (src dst : Fmt) (c : Nat) (scale : Option (Option Int)) (rnd : Rm) (sat : Bool) : Nat × Fl :=
  match scale with
  | none => convert src dst c rnd sat
  | some _ => storeVal dst (decodeVal src c) scale rnd sat

/-- An element of memory: its scratch key, the nibble for a 4-bit code, its size in bits, and its window with the scale. -/
structure Elem where
  lane : Nat
  key : Nat
  nib : Option Nat
  bits : Nat
  win : Option Win
  scale : Option (Option Int)
  deriving DecidableEq, Repr

/-- The code of an element in memory. -/
def State.peek (s : State) (e : Elem) : Nat :=
  match e.nib with
  | some n => (s.byte e.key).toNat / 16 ^ n % 16
  | none => numOf (s.bytes e.key (bytesOfBits e.bits))

/-- No element that is read holds an uncorrectable error (20 Table 20-3). -/
def State.soundElems (s : State) (es : List Elem) : M Unit :=
  ensure (es.all (fun (e : Elem) => s.sound e.key (bytesOfBits e.bits))) .uncorrectable (Config.openTval s.tick)

/-- Memory with an element's code written: a nibble is merged into its byte (09 R202). -/
def State.poke (s : State) (m : List Host.Cell) (e : Elem) (c : Nat) : List Host.Cell :=
  match e.nib with
  | some n =>
    let old := (Memory.get m (s.phys e.key)).toNat
    Memory.set m (s.phys e.key) (BitVec.ofNat 8 (if n = 0 then old / 16 * 16 + c % 16 else old % 16 + 16 * (c % 16)))
  | none => s.putMem e.key (bytesOf (bytesOfBits e.bits) c) m

/-- Writes the codes of elements in their order, and records the writes at the monitors (08 R176). -/
def State.pokeAll (s : State) (who : Who) (es : List (Elem × Nat)) : State :=
  { s with mem := es.foldl (fun (m : List Host.Cell) (e : Elem × Nat) => s.poke m e.1 e.2) s.mem }.note who
    (es.flatMap (fun (e : Elem × Nat) => (List.range (bytesOfBits e.1.bits)).map (fun i => (e.1.key + i) / 64)))

end Sys2Proof.Machine
end

