-- ==== Sys2Proof/Machine/Vector.lean ====
section
/-!
DEFINITION. Vector instructions (09_vector.md R180 to R205) and the local witnessed reductions (12_collective.md R275,
R276): lanes, elementwise arithmetic, compares, conversions, scans, reductions, moves, vector memory.
-/

namespace Sys2Proof

/-- Lanes per register (09 R180). -/
def Fmt.lanes (f : Fmt) : Nat := 4096 / f.bits

/-- The least or greatest value of a format, for a reduction of no lane (09 R196). -/
def Fmt.limit (f : Fmt) (greatest : Bool) : Nat :=
  if f.isInt then intCode f.bits (if greatest then f.intMax else f.intMin)
  else if greatest then (if f.hasInf then f.infCode false else f.maxCode)
  else if f.unsigned then 0
  else if f.hasInf then f.infCode true else f.signed true f.maxCode

end Sys2Proof

namespace Sys2Proof.Machine

/-! ## Lanes, types and groups -/

/-- The code of lane `i` at width `w` (09 R180); of a group, element `i` (R181). -/
def laneOf (w v i : Nat) : Nat := v / 2 ^ (w * i) % 2 ^ w

/-- `k` lanes from lane `i` on, each with its flags (09 R180). -/
def lanesOut (w : Nat) (f : Nat → Nat × Fl) : Nat → Nat → Nat × Fl
  | 0, _ => (0, 0)
  | k + 1, i =>
    let (y, g) := f i
    let (r, h) := lanesOut w f k (i + 1)
    (y % 2 ^ w + 2 ^ w * r, g ||| h)

/-- Lanes under a predicate: a masked lane keeps its old code and raises nothing (09 R182). -/
def masked (w : Nat) (p : PReg) (old : Nat) (f : Nat → Nat × Fl) (i : Nat) : Nat × Fl :=
  if lane p i then f i else (laneOf w old i, 0)

/-- The floating element types, F of 09 R184. -/
def isF (e : BitVec 4) : Bool := e.toNat == 6 || e.toNat == 7 || e.toNat == 8 || e.toNat == 11
/-- The integer element types, I of 09 R184. -/
def isI (e : BitVec 4) : Bool := !isF e

/-- The type checks of 09 R184: ILLEGAL, then MAT_FORMAT. -/
def State.vfmt (s : State) (ok : Bool) (e : BitVec 4) : M Fmt := do
  ensureWord (ok && decide (e.toNat < 12)) .illegal
  s.me.elem e.toNat

/-- The old value of a v destination. A register bound for writing has none that the specification gives: a free value
(09 R182, 03 R58; DESIGN CHOICE, assumption log 3). -/
def State.oldV (s : State) (d : Fin 16) : VReg × State :=
  if d = 15 ∧ s.me.vport.isSome then (Config.freeVec s.fresh, { s with fresh := s.fresh + 1 }) else (s.me.v[d], s)

/-- A group read as one number (09 R181). -/
def State.readGroup (s : State) (a : Fin 16) (r : Nat) : M (Nat × State) := do
  s.group a.val r
  if r = 1 then do
    let (x, s) ← s.readV a
    return (x.toNat, s)
  else
    return ((groupRegs a r).foldr (fun k m => (s.me.v[k]).toNat + 2 ^ 4096 * m) 0, s)

/-- The old value of a destination group. -/
def State.oldGroup (s : State) (d : Fin 16) (r : Nat) : Nat × State :=
  if r = 1 then ((s.oldV d).1.toNat, (s.oldV d).2)
  else ((groupRegs d r).foldr (fun k m => (s.me.v[k]).toNat + 2 ^ 4096 * m) 0, s)

/-- Writes registers in order, each with the next 4,096 bits of a number. -/
def State.writeRegs (s : State) (v : Nat) : List (Fin 16) → M State
  | [] => .ok s
  | d :: rest => do
    let s ← s.writeV d (BitVec.ofNat 4096 v)
    s.writeRegs (v / 2 ^ 4096) rest

/-- Writes a destination group (09 R181). -/
def State.writeGroup (s : State) (d : Fin 16) (r v : Nat) : M State := s.writeRegs v (groupRegs d r)

/-! ## Lane arithmetic (09 R187, R188, Table 09-3) -/

/-- One rounding of an exact result, with the flags of both (09 R187). -/
def rounded (f : Fmt) (rm : Rm) (sat : Bool) (r : Val × Fl) : Nat × Fl :=
  let (c, h) := roundTo r.1 f rm sat
  (c, r.2 ||| h)

/-- A lane function of two sources and the old destination. -/
abbrev Lane := Fmt → Rm → Nat → Nat → Nat → Nat × Fl

/-- A lane function by its floating and its integer half; the integer half answers modulo 2^w. -/
def laneBy (fl : Rm → Val → Val → Val → Val × Fl) (it : Int → Int → Int → Int) : Lane := fun f rm a b d =>
  if f.isInt then (intCode f.bits (it (intOf f a) (intOf f b) (intOf f d)), 0)
  else rounded f rm false (fl rm (decodeVal f a) (decodeVal f b) (decodeVal f d))

/-- A bitwise lane function (F 14 to 16). -/
def laneBits (op : Nat → Nat → Nat) : Lane := fun _ _ a b _ => (op a b, 0)

/-- vadds (F 27): the sum saturates. -/
def laneAdds : Lane := fun f rm a b _ =>
  if f.isInt then
    let (i, out) := clampInt f (intOf f a + intOf f b)
    (intCode f.bits i, if out then flOF else 0)
  else rounded f rm true (Val.add rm (decodeVal f a) (decodeVal f b))

/-- vshl and vshr (F 17, 18) by the unsigned amount of gN. -/
def laneShl (f : Fmt) (k a : Nat) : Nat := if k ≥ f.bits then 0 else a * 2 ^ k % 2 ^ f.bits
@[inherit_doc laneShl]
def laneShr (f : Fmt) (k a : Nat) : Nat := intCode f.bits (intOf f a / (2 ^ min k f.bits : Nat))

/-- A clamp of `a` between two values; none is a bound that clamps nothing. -/
def clampTo (f : Fmt) (a : Nat) (lo hi : Option (Val × Nat)) : Nat × Fl :=
  let x := decodeVal f a
  if x.isNan then (f.nanCode, nanFl x x)
  else
    let above := match hi with | some h => decide (Val.cmp x h.1 > 0) | none => false
    let below := match lo with | some l => decide (Val.cmp x l.1 < 0) | none => false
    match above, below, hi, lo with
    | true, _, some h, _ => (h.2, 0)
    | false, true, _, some l => (l.2, 0)
    | _, _, _, _ => (a, 0)

/-- A bound of vclamp brought into ET without flags (09 R188). -/
def clampBound (f : Fmt) (c : Nat) (rm : Rm) : Option (Val × Nat) :=
  if f.isInt then
    let i := if f.unsigned then ((c % 2 ^ 32 : Nat) : Int) else toSigned 32 c
    let k := intCode f.bits (clampInt f i).1
    some (decodeVal f k, k)
  else
    let v := decodeVal fp32 c
    if v.isNan then none
    else
      let k := (roundTo v f rm true).1
      some (decodeVal f k, k)

/-- vclamp (09 R188): lo in gN[31:0], hi in gN[63:32]. -/
def laneClamp (f : Fmt) (g : Word) (a : Nat) : Nat × Fl :=
  clampTo f a (clampBound f (g.toNat % 2 ^ 32) .rup) (clampBound f (g.toNat / 2 ^ 32) .rdn)

/-! ## Shapes of instruction -/

/-- vD ← f(vA, vB, old vD) on active lanes. -/
def v2Op (i : Instr) (ok : BitVec 4 → Bool) (e : BitVec 4) (p : Fin 8) (a b d : Fin 16) (f : Lane) (s : State) :
    Host.Outcome State Fault Refusal :=
  issue i (fun s => do
    let t ← s.vfmt (ok e) e
    let (x, s) ← s.readV a
    let (y, s) ← s.readV b
    let (o, s) := s.oldV d
    let (r, fl) := lanesOut t.bits (masked t.bits (s.me.pred p) o.toNat (fun k =>
      f t s.me.rm (laneOf t.bits x.toNat k) (laneOf t.bits y.toNat k) (laneOf t.bits o.toNat k))) t.lanes 0
    (s.raiseFlags fl).writeV d (BitVec.ofNat 4096 r)) s

/-- vD ← f(vA) on active lanes. -/
def v1Op (i : Instr) (ok : BitVec 4 → Bool) (e : BitVec 4) (p : Fin 8) (a d : Fin 16) (f : Fmt → Rm → Nat → Nat × Fl)
    (s : State) : Host.Outcome State Fault Refusal :=
  issue i (fun s => do
    let t ← s.vfmt (ok e) e
    let (x, s) ← s.readV a
    let (o, s) := s.oldV d
    let (r, fl) := lanesOut t.bits (masked t.bits (s.me.pred p) o.toNat (fun k =>
      f t s.me.rm (laneOf t.bits x.toNat k))) t.lanes 0
    (s.raiseFlags fl).writeV d (BitVec.ofNat 4096 r)) s

/-- vD ← f(vA, gN) on active lanes; `f` is given the register and the lane number. -/
def vgOp (i : Instr) (ok : BitVec 4 → Bool) (e : BitVec 4) (p : Fin 8) (g : Fin 32) (a d : Fin 16)
    (f : Fmt → Word → Nat → Nat → Nat × Fl) (s : State) : Host.Outcome State Fault Refusal :=
  issue i (fun s => do
    let t ← s.vfmt (ok e) e
    let (c, s) ← s.srcB g
    let (x, s) ← s.readV a
    let (o, s) := s.oldV d
    let (r, fl) := lanesOut t.bits (masked t.bits (s.me.pred p) o.toNat (f t c x.toNat)) t.lanes 0
    (s.raiseFlags fl).writeV d (BitVec.ofNat 4096 r)) s

/-- vD ← f(gN) on active lanes, with no v source. -/
def vsOp (i : Instr) (e : BitVec 4) (p : Fin 8) (g : Fin 32) (d : Fin 16) (f : Fmt → Rm → Word → Nat → Nat × Fl)
    (s : State) : Host.Outcome State Fault Refusal :=
  issue i (fun s => do
    let t ← s.vfmt true e
    let (c, s) ← s.srcB g
    let (o, s) := s.oldV d
    let (r, fl) := lanesOut t.bits (masked t.bits (s.me.pred p) o.toNat (f t s.me.rm c)) t.lanes 0
    (s.raiseFlags fl).writeV d (BitVec.ofNat 4096 r)) s

/-- The unary lane function of an exact one; integer lanes by `it`. -/
def lane1 (fl : Val → Val × Fl) (it : Int → Int) : Fmt → Rm → Nat → Nat × Fl := fun f rm a =>
  if f.isInt then (intCode f.bits (it (intOf f a)), 0) else rounded f rm false (fl (decodeVal f a))

/-! ## Compares (09 R190) -/

/-- The outcome of a compare and the flags it raises. -/
def laneCmp (f : Fmt) (ok : Int → Bool) (quiet : Bool) (a b : Nat) : Bool × Fl :=
  if f.isInt then (ok (if intOf f a < intOf f b then -1 else if intOf f a = intOf f b then 0 else 1), 0)
  else
    let x := decodeVal f a
    let y := decodeVal f b
    if x.isNan || y.isNan then (false, if quiet then nanFl x y else flNV) else (ok (Val.cmp x y), 0)

/-- Sets a predicate register; a write of p0 is discarded (09 R190). -/
def State.setP (s : State) (d : Fin 8) (v : PReg) : State := if d = 0 then s else s.setMe { s.me with p := s.me.p.set d v }

/-- pD ← compare of vA and vB. -/
def vcmpOp (i : Instr) (e : BitVec 4) (p : Fin 8) (a b : Fin 16) (pd : Fin 8) (ok : Int → Bool) (quiet : Bool) (s : State) :
    Host.Outcome State Fault Refusal :=
  issue i (fun s => do
    let t ← s.vfmt true e
    let (x, s) ← s.readV a
    let (y, s) ← s.readV b
    let (r, fl) := lanesOut 1 (masked 1 (s.me.pred p) (s.me.pred pd).toNat (fun k =>
      let (c, g) := laneCmp t ok quiet (laneOf t.bits x.toNat k) (laneOf t.bits y.toNat k)
      (b2n c, g))) t.lanes 0
    return (s.raiseFlags fl).setP pd (BitVec.ofNat 1024 r)) s

/-! ## Conversion, widening and narrowing (09 R191 to R194) -/

/-- The wide type and the ratio of a narrow element type (09 Table 09-4). -/
def wideOf (e : BitVec 4) : Option (Fmt × Nat) :=
  match e.toNat with
  | 9 => some (.int 16 true, 4)
  | 10 => some (.int 16 false, 4)
  | 0 => some (.int 32 true, 4)
  | 1 => some (.int 32 false, 4)
  | 11 => some (fp32, 4)
  | 2 => some (.int 32 true, 2)
  | 3 => some (.int 32 false, 2)
  | 6 => some (fp32, 2)
  | 7 => some (fp32, 2)
  | _ => none

/-- The wide type, or ILLEGAL. -/
def wideFor (e : BitVec 4) : M (Fmt × Nat) :=
  match wideOf e with
  | some w => .ok w
  | none => .error (.word .illegal)

/-- The wide element of vaddw or vmacw (09 R192): `add` is the third term, none for vaddw. -/
def laneWide (t w : Fmt) (rm : Rm) (mul : Bool) (a b d : Nat) : Nat × Fl :=
  if w.isInt then
    let (i, out) := clampInt w (if mul then intOf w d + intOf t a * intOf t b else intOf t a + intOf t b)
    (intCode w.bits i, if out then flOF else 0)
  else rounded w rm false (if mul then Val.fma rm (decodeVal t a) (decodeVal t b) (decodeVal w d)
    else Val.add rm (decodeVal t a) (decodeVal t b))

/-- vaddw and vmacw: the ports first, then the element type, MAT_FORMAT of F8SEL, the group's alignment, its ports (09 R181,
R184; DESIGN CHOICE, assumption log 84). -/
def vwideOp (i : Instr) (mul : Bool) (e : BitVec 4) (p : Fin 8) (a b d : Fin 16) (s : State) :
    Host.Outcome State Fault Refusal :=
  issue i (fun s => do
    let (w, r) ← wideFor e
    let t ← s.vfmt true e
    s.group d.val r
    let (x, s) ← s.readV a
    let (y, s) ← s.readV b
    let (o, s) := s.oldGroup d r
    let (v, fl) := lanesOut w.bits (masked w.bits (s.me.pred p) o (fun k =>
      laneWide t w s.me.rm mul (laneOf t.bits x.toNat k) (laneOf t.bits y.toNat k) (laneOf w.bits o k))) t.lanes 0
    (s.raiseFlags fl).writeGroup d r v) s

/-- vnarrow of a wide code (09 R193). -/
def laneNarrow (w t : Fmt) (rm : Rm) (sat : Bool) (a : Nat) : Nat × Fl :=
  if t.isInt then
    let (i, out) := clampInt t (intOf w a)
    (intCode t.bits i, if out then flOF else 0)
  else roundTo (decodeVal w a) t rm sat

/-! ## Scans and reductions (09 R195, R196) -/

/-- The scan from lane `i` on: the running value, and the codes of the lanes with their flags (09 R195). -/
def scanLanes (t : Fmt) (rm : Rm) (p : PReg) (a old seg : Nat) (carry : Bool) : Nat → Nat → Option Nat → Nat × Fl
  | 0, _, _ => (0, 0)
  | k + 1, i, run =>
    let run := if i % seg = 0 then (if carry then some (laneOf t.bits old (i + seg - 1)) else none) else run
    if lane p i then
      let (y, g) := match run with
        | none => (laneOf t.bits a i, (0 : Fl))
        | some x => addCodes t rm x (laneOf t.bits a i)
      let (r, h) := scanLanes t rm p a old seg carry k (i + 1) (some (y % 2 ^ t.bits))
      (y % 2 ^ t.bits + 2 ^ t.bits * r, g ||| h)
    else
      let (r, h) := scanLanes t rm p a old seg carry k (i + 1) run
      (laneOf t.bits old i + 2 ^ t.bits * r, h)

/-- The largest or smallest of codes (09 R196). -/
def foldMinMax (f : Fmt) (wantMax : Bool) : List Nat → Nat × Fl
  | [] => (f.limit (!wantMax), 0)
  | x :: rest =>
    (x :: rest).foldl (fun (r : Nat × Fl) y =>
      let (c, g) := minMaxCode f wantMax r.1 y
      (c, r.2 ||| g)) (minMaxCode f wantMax x x)

/-- The codes of the active lanes; none for a masked one. -/
def activeCodes (t : Fmt) (p : PReg) (a : Nat) : List (Option Nat) :=
  (List.range t.lanes).map (fun k => if lane p k then some (laneOf t.bits a k) else none)

/-- A reduction into lane 0 of vD (09 R196). -/
def vredOp (i : Instr) (e : BitVec 4) (p : Fin 8) (a d : Fin 16) (f : Fmt → Rm → List (Option Nat) → Nat × Fl) (s : State) :
    Host.Outcome State Fault Refusal :=
  issue i (fun s => do
    let t ← s.vfmt true e
    let (x, s) ← s.readV a
    let (o, s) := s.oldV d
    let (r, fl) := f t s.me.rm (activeCodes t (s.me.pred p) x.toNat)
    (s.raiseFlags fl).writeV d (BitVec.ofNat 4096 (o.toNat / 2 ^ t.bits * 2 ^ t.bits + r % 2 ^ t.bits))) s

/-- The tree sum of the active lanes; +0 with none. -/
def treeSum (t : Fmt) (rm : Rm) (cs : List (Option Nat)) : Nat × Fl :=
  let (r, fl) := pairwise (addCodes t rm) 10 cs
  (r.getD 0, fl)

/-! ## Vector memory (09 R199 to R203) -/

/-- The window an address takes its format from (09 R199): 0 above the window range. -/
def winNo (a : Word) : Fin 16 := if a.toNat < 2 ^ 29 then windowOf a else 0

/-- The memory size in bits of an element through a window (09 R199). -/
def State.memBits (s : State) (t : Fmt) (w : Fin 16) : Nat := if w = 0 then t.bits else codeBits (s.me.win w).code

/-- One active element, checked (09 R201, 02 R33): the access, then the 4-bit rule of R199 with the element's address (DESIGN CHOICE,
assumption log 84), the window, its scale record. A record that fails the access checks or lies at or past 2^25 traps with the record's
address (DESIGN CHOICE, assumption log 80). -/
def State.vElem (s : State) (t : Fmt) (addr : Word) (w : Fin 16) (strided : Bool) (k : Nat) : M Elem := do
  let bits := s.memBits t w
  let n := bytesOfBits bits
  let key ← s.access addr n (if bits = 4 then 1 else n)
  ensure (!(strided && bits == 4)) .matFormat addr
  let nib := if bits = 4 then some (k % 2) else none
  if w = 0 then return { lane := k, key := key, nib := nib, bits := bits, win := none, scale := none }
  else do
    let win := s.me.win w
    let csa := addr.toNat % 2 ^ 25
    win.checks t.isInt csa bits addr
    if win.scaled then do
      let e := win.index csa bits (nib.getD 0)
      let r := win.sarea + 8 + 2 * (e / 16)
      ensure (decide (r + 1 < 2 ^ 25)) .scratchRange (BitVec.ofNat 64 r)
      let _ ← s.accessR (BitVec.ofNat 64 r) 2 1
      return { lane := k, key := key, nib := nib, bits := bits, win := some win,
               scale := some (s.scaleAt (s.clus * 2 ^ 25) win.sarea e) }
    else return { lane := k, key := key, nib := nib, bits := bits, win := some win, scale := none }

/-- The active elements, checked in lane order; those of VLD and VST lie in one core region (09 R201). -/
def State.vElems (s : State) (t : Fmt) (adr : Nat → Word) (win : Nat → Fin 16) (contig : Bool) :
    List Nat → Option Nat → M (List Elem)
  | [], _ => .ok []
  | k :: rest, reg => do
    let e ← s.vElem t (adr k) (win k) (!contig) k
    ensure (!contig || reg.all (· == (adr k).toNat / 2 ^ 19)) .scratchRange (adr k)
    let es ← s.vElems t adr win contig rest (some ((adr k).toNat / 2 ^ 19))
    return e :: es

/-- The active lanes, ascending. -/
def activeLanes (p : PReg) (n : Nat) : List Nat := (List.range n).filter (fun k => lane p k)

/-- The elements of VLD and VST (09 Table 09-6). -/
def State.contigElems (s : State) (t : Fmt) (p : PReg) (x y : Word) : M (List Elem) :=
  let b := x + y
  let w := winNo b
  let bits := s.memBits t w
  s.vElems t (fun k => b + BitVec.ofNat 64 (k * bits / 8)) (fun _ => w) true (activeLanes p t.lanes) none

/-- The elements of VLDS and VSTS. -/
def State.stridedElems (s : State) (t : Fmt) (p : PReg) (x y : Word) : M (List Elem) :=
  let adr := fun (k : Nat) => x + BitVec.ofNat 64 k * y
  s.vElems t adr (fun k => winNo (adr k)) false (activeLanes p t.lanes) none

/-- The elements of VGATH and VSCAT. An index times half a byte is taken down to its byte (DESIGN CHOICE, assumption log 16). -/
def State.gatherElems (s : State) (t : Fmt) (p : PReg) (x : Word) (ix : Nat) : M (List Elem) :=
  let bits := s.memBits t (winNo x)
  let adr := fun (k : Nat) => x + BitVec.ofNat 64 (laneOf t.bits ix k * bits / 8)
  s.vElems t adr (fun k => winNo (adr k)) false (activeLanes p t.lanes) none

/-- A loaded element's lane code and flags (09 R200). -/
def State.loadElem (s : State) (t : Fmt) (e : Elem) : Nat × Fl :=
  match e.win with
  | none => (s.peek e, 0)
  | some w => match Fmt.ofCode w.code with
    | some c => loadCode c t (s.peek e) e.scale s.me.rm
    | none => (0, 0)

/-- A stored element's memory code and flags (09 R200). -/
def storeElem (t : Fmt) (e : Elem) (c : Nat) : Nat × Fl :=
  match e.win with
  | none => (c, 0)
  | some w => match Fmt.ofCode w.code with
    | some f => storeCode t f c e.scale w.rnd w.sat
    | none => (0, 0)

/-- The codes of loaded elements put into their lanes, ascending; other lanes keep their old code. -/
def fillLanes (w old : Nat) : Nat → Nat → List (Nat × (Nat × Fl)) → Nat × Fl
  | 0, _, _ => (0, 0)
  | k + 1, i, (j, c, g) :: rest =>
    if j = i then
      let (r, h) := fillLanes w old k (i + 1) rest
      (c % 2 ^ w + 2 ^ w * r, g ||| h)
    else
      let (r, h) := fillLanes w old k (i + 1) ((j, c, g) :: rest)
      (laneOf w old i + 2 ^ w * r, h)
  | k + 1, i, [] =>
    let (r, h) := fillLanes w old k (i + 1) []
    (laneOf w old i + 2 ^ w * r, h)

/-- The body of a vector load: `els` gives the elements with the state after their sources are read. -/
def vloadOp (i : Instr) (e : BitVec 4) (d : Fin 16) (els : Fmt → State → M (List Elem × State)) (s : State) :
    Host.Outcome State Fault Refusal :=
  issue i (fun s => do
    let t ← s.vfmt true e
    let (es, s) ← els t s
    s.soundElems es
    let (o, s) := s.oldV d
    let (r, fl) := fillLanes t.bits o.toNat t.lanes 0 (es.map (fun el => (el.lane, s.loadElem t el)))
    (s.raiseFlags fl).writeV d (BitVec.ofNat 4096 r)) s

/-- The codes and flags that a vector store writes. -/
def storeCodes (t : Fmt) (src : Nat) (es : List Elem) : List (Elem × Nat) × Fl :=
  let cs := es.map (fun el => (el, storeElem t el (laneOf t.bits src el.lane)))
  (cs.map (fun (c : Elem × (Nat × Fl)) => (c.1, c.2.1)), cs.foldl (fun (g : Fl) (c : Elem × (Nat × Fl)) => g ||| c.2.2) 0)

/-- The body of a vector store. -/
def vstoreOp (i : Instr) (e : BitVec 4) (d : Fin 16) (els : Fmt → State → M (List Elem × State)) (s : State) :
    Host.Outcome State Fault Refusal :=
  issue i (fun s => do
    let t ← s.vfmt true e
    let (es, s) ← els t s
    let (x, s) ← s.readV d
    let (cs, fl) := storeCodes t x.toNat es
    return (s.pokeAll (some (s.at_, s.slot)) cs).raiseFlags fl) s

/-- The elements of a form that names gA and gB. -/
def withBase (ga gb : Fin 32) (els : State → Word → Word → M (List Elem)) (s : State) : M (List Elem × State) := do
  let (x, s) ← s.srcA ga
  let (y, s) ← s.srcB gb
  let es ← els s x y
  return (es, s)

/-- The elements of a form that names gA and an index register. -/
def withIndex (ga : Fin 32) (ix : Fin 16) (els : State → Word → Nat → M (List Elem)) (s : State) : M (List Elem × State) := do
  let (x, s) ← s.srcA ga
  let (v, s) ← s.readV ix
  let es ← els s x v.toNat
  return (es, s)

/-! ## Local witnessed reductions (12 R275, R276) -/

/-- A register run of VWIT: more than one register of it with a bound v15 raises QUEUE_MISUSE (09 R185). -/
def State.runOk (s : State) (a n : Nat) : M Unit :=
  ensureWord (n == 1 || s.me.vport.isNone || decide (a + n ≤ 15)) .queueMisuse

/-- The sources vA to vA + n − 1, in order. -/
def State.readRun (s : State) (a : Nat) : Nat → M (List Nat × State)
  | 0 => .ok ([], s)
  | n + 1 => do
    let (x, s) ← s.readV (Fin.ofNat 16 a)
    let (xs, s) ← s.readRun (a + 1) n
    return (x.toNat :: xs, s)

/-- NaN-last order of codes for vwmed: true if `a` sorts strictly before `b`. -/
def sortsBefore (f : Fmt) (a b : Nat) : Bool :=
  if f.isInt then decide (intOf f a < intOf f b)
  else
    let x := decodeVal f a
    let y := decodeVal f b
    if x.isNan then false else if y.isNan then true else x.ltTotal y

/-- Stable insertion of an indexed code. -/
def insertCode (f : Fmt) (e : Nat × Nat) : List (Nat × Nat) → List (Nat × Nat)
  | [] => [e]
  | x :: rest => if sortsBefore f e.2 x.2 then e :: x :: rest else x :: insertCode f e rest

/-- NV if any code is a signalling NaN. -/
def anySig (f : Fmt) (xs : List Nat) : Fl := if !f.isInt && xs.any (fun c => (decodeVal f c).sig) then flNV else 0

/-- A code as a result: a NaN becomes canonical. -/
def canon (f : Fmt) (c : Nat) : Nat := if !f.isInt && (decodeVal f c).isNan then f.nanCode else c

/-- vwmax and vwmin of the codes of one lane: result, witness, flags (12 Table 12-11). -/
def witMinMax (f : Fmt) (wantMax : Bool) (xs : List Nat) : Nat × Nat × Fl :=
  let ix := xs.zipIdx
  match (if f.isInt then none else ix.find? (fun (e : Nat × Nat) => (decodeVal f e.1).isNan)) with
  | some e => (f.nanCode, e.2, anySig f xs)
  | none =>
    let best := ix.foldl (fun (m e : Nat × Nat) =>
      if (if wantMax then sortsBefore f m.1 e.1 else sortsBefore f e.1 m.1) then e else m) (xs.headD 0, 0)
    (best.1, best.2, anySig f xs)

/-- vwmed. -/
def witMed (f : Fmt) (xs : List Nat) : Nat × Nat × Fl :=
  let sorted := xs.zipIdx.foldl (fun (l : List (Nat × Nat)) (e : Nat × Nat) => insertCode f (e.2, e.1) l) []
  let m := sorted.getD ((xs.length - 1) / 2) (0, 0)
  (canon f m.2, m.1, anySig f xs)

/-- vwclamp of x, lo and hi: a signalling NaN among the three raises NV (06 R114). -/
def witClamp (f : Fmt) (xs : List Nat) : Nat × Nat × Fl :=
  let x := xs.getD 0 0
  let lo := xs.getD 1 0
  let hi := xs.getD 2 0
  let v := decodeVal f x
  if v.isNan then (f.nanCode, 3, anySig f xs)
  else if !(decodeVal f hi).isNan && decide (Val.cmp v (decodeVal f hi) > 0) then (hi, 2, anySig f xs)
  else if !(decodeVal f lo).isNan && decide (Val.cmp v (decodeVal f lo) < 0) then (lo, 1, anySig f xs)
  else (x, 0, anySig f xs)

/-- vwssum: the left fold, saturating at every step. -/
def witSum (f : Fmt) (rm : Rm) (xs : List Nat) : Nat × Nat × Fl :=
  match xs with
  | [] => (0, 0, 0)
  | x :: rest => rest.foldl (fun (r : Nat × Nat × Fl) y =>
      let (c, g) := laneAdds f rm r.1 y 0
      (c, if g &&& flOF = 0 then r.2.1 else 1, r.2.2 ||| g)) (x, 0, 0)

/-- A local witnessed reduction with witnesses of `wb` bits (12 R275); a run past v15 raises ILLEGAL (DEDUCED, assumption
log 24). -/
def vwitOp (i : Instr) (wb : Nat) (e n : BitVec 4) (w a d : Fin 16) (three : Bool)
    (f : Fmt → Rm → List Nat → Nat × Nat × Fl) (s : State) : Host.Outcome State Fault Refusal :=
  issue i (fun s => do
    let k := n.toNat + 1
    ensureWord (w != d && (!three || k == 3) && decide (a.val + k ≤ 16)) .illegal
    s.runOk a.val k
    ensureWord (!(w == 15 && s.me.vport.any (fun p => !p.wr))) .queueMisuse
    let t ← s.vfmt true e
    let (xs, s) ← s.readRun a.val k
    let out := fun (j : Nat) => f t s.me.rm (xs.map (fun x => laneOf t.bits x j))
    let (r, fl) := lanesOut t.bits (fun j => ((out j).1, (out j).2.2)) t.lanes 0
    let (wit, _) := lanesOut wb (fun j => ((out j).2.1, 0)) t.lanes 0
    let s ← (s.raiseFlags fl).writeV d (BitVec.ofNat 4096 r)
    s.writeV w (BitVec.ofNat 4096 wit)) s

/-- vadj (12 R276). -/
def vadjOp (i : Instr) (e n : BitVec 4) (w : Fin 16) (kd : BitVec 4) (d : Fin 16) (s : State) :
    Host.Outcome State Fault Refusal :=
  issue i (fun s => do
    let k := n.toNat + 1
    ensureWord (decide (kd.toNat ≤ 2) && (kd == 0 || k == 1) && decide (d.val + k ≤ 16)) .illegal
    s.runOk d.val k
    let t ← s.vfmt true e
    let (wv, s) ← s.readV w
    let dy := (s.me.v[d]).toNat
    let wb := if kd = 0 then 4 else if kd = 1 then 2 else 1
    let out := fun (m : Nat) => (lanesOut t.bits (fun j =>
      (if laneOf wb wv.toNat j = m then laneOf t.bits dy j else 0, 0)) t.lanes 0).1
    s.writeRegs ((List.range k).foldr (fun m acc => out m + 2 ^ 4096 * acc) 0) (groupRegs d k)) s

/-! ## The instructions -/

/-- VADD (09 R187, Table 09-3). -/
def execVadd (e : BitVec 4) (p : Fin 8) (b : Fin 16) (a : Fin 16) (d : Fin 16) (s : State) : Host.Outcome State Fault Refusal :=
  v2Op (.vadd e p b a d) (fun _ => true) e p a b d (laneBy (fun rm a b _ => Val.add rm a b) (fun a b _ => a + b)) s

/-- VSUB (09 R187, Table 09-3). -/
def execVsub (e : BitVec 4) (p : Fin 8) (b : Fin 16) (a : Fin 16) (d : Fin 16) (s : State) : Host.Outcome State Fault Refusal :=
  v2Op (.vsub e p b a d) (fun _ => true) e p a b d (laneBy (fun rm a b _ => Val.sub rm a b) (fun a b _ => a - b)) s

/-- VMUL (09 R187, Table 09-3). -/
def execVmul (e : BitVec 4) (p : Fin 8) (b : Fin 16) (a : Fin 16) (d : Fin 16) (s : State) : Host.Outcome State Fault Refusal :=
  v2Op (.vmul e p b a d) (fun _ => true) e p a b d (laneBy (fun _ a b _ => Val.mul a b) (fun a b _ => a * b)) s

/-- VFMA (09 R187, Table 09-3). -/
def execVfma (e : BitVec 4) (p : Fin 8) (b : Fin 16) (a : Fin 16) (d : Fin 16) (s : State) : Host.Outcome State Fault Refusal :=
  v2Op (.vfma e p b a d) (fun _ => true) e p a b d (laneBy (fun rm a b d => Val.fma rm a b d) (fun a b d => a * b + d)) s

/-- VMIN (09 R187, Table 09-3). -/
def execVmin (e : BitVec 4) (p : Fin 8) (b : Fin 16) (a : Fin 16) (d : Fin 16) (s : State) : Host.Outcome State Fault Refusal :=
  v2Op (.vmin e p b a d) (fun _ => true) e p a b d (fun f _ a b _ => minMaxCode f false a b) s

/-- VMAX (09 R187, Table 09-3). -/
def execVmax (e : BitVec 4) (p : Fin 8) (b : Fin 16) (a : Fin 16) (d : Fin 16) (s : State) : Host.Outcome State Fault Refusal :=
  v2Op (.vmax e p b a d) (fun _ => true) e p a b d (fun f _ a b _ => minMaxCode f true a b) s

/-- VABS (09 R187, Table 09-3). -/
def execVabs (e : BitVec 4) (p : Fin 8) (a : Fin 16) (d : Fin 16) (s : State) : Host.Outcome State Fault Refusal :=
  v1Op (.vabs e p a d) (fun _ => true) e p a d (lane1 (fun a => (a.abs, 0)) (fun a => (a.natAbs : Int))) s

/-- VNEG (09 R187, Table 09-3). -/
def execVneg (e : BitVec 4) (p : Fin 8) (a : Fin 16) (d : Fin 16) (s : State) : Host.Outcome State Fault Refusal :=
  v1Op (.vneg e p a d) (fun _ => true) e p a d (lane1 (fun a => (a.negate, 0)) (fun a => -a)) s

/-- VDIV (09 R187, Table 09-3). -/
def execVdiv (e : BitVec 4) (p : Fin 8) (b : Fin 16) (a : Fin 16) (d : Fin 16) (s : State) : Host.Outcome State Fault Refusal :=
  v2Op (.vdiv e p b a d) (isF) e p a b d (laneBy (fun _ a b _ => Val.div a b) (fun a _ _ => a)) s

/-- VSQRT (09 R187, Table 09-3). -/
def execVsqrt (e : BitVec 4) (p : Fin 8) (a : Fin 16) (d : Fin 16) (s : State) : Host.Outcome State Fault Refusal :=
  v1Op (.vsqrt e p a d) (isF) e p a d (lane1 Val.sqrt (fun a => a)) s

/-- VRSQRT (09 R187, Table 09-3). -/
def execVrsqrt (e : BitVec 4) (p : Fin 8) (a : Fin 16) (d : Fin 16) (s : State) : Host.Outcome State Fault Refusal :=
  v1Op (.vrsqrt e p a d) (isF) e p a d (lane1 Val.rsqrt (fun a => a)) s

/-- VRCP (09 R187, Table 09-3). -/
def execVrcp (e : BitVec 4) (p : Fin 8) (a : Fin 16) (d : Fin 16) (s : State) : Host.Outcome State Fault Refusal :=
  v1Op (.vrcp e p a d) (isF) e p a d (lane1 Val.rcp (fun a => a)) s

/-- VEXP2 (09 R187, Table 09-3). -/
def execVexp2 (e : BitVec 4) (p : Fin 8) (a : Fin 16) (d : Fin 16) (s : State) : Host.Outcome State Fault Refusal :=
  v1Op (.vexp2 e p a d) (isF) e p a d (lane1 Val.exp2 (fun a => a)) s

/-- VLOG2 (09 R187, Table 09-3). -/
def execVlog2 (e : BitVec 4) (p : Fin 8) (a : Fin 16) (d : Fin 16) (s : State) : Host.Outcome State Fault Refusal :=
  v1Op (.vlog2 e p a d) (isF) e p a d (lane1 Val.log2 (fun a => a)) s

/-- VAND (09 R187, Table 09-3). -/
def execVand (e : BitVec 4) (p : Fin 8) (b : Fin 16) (a : Fin 16) (d : Fin 16) (s : State) : Host.Outcome State Fault Refusal :=
  v2Op (.vand e p b a d) (fun _ => true) e p a b d (laneBits (· &&& ·)) s

/-- VOR (09 R187, Table 09-3). -/
def execVor (e : BitVec 4) (p : Fin 8) (b : Fin 16) (a : Fin 16) (d : Fin 16) (s : State) : Host.Outcome State Fault Refusal :=
  v2Op (.vor e p b a d) (fun _ => true) e p a b d (laneBits (· ||| ·)) s

/-- VXOR (09 R187, Table 09-3). -/
def execVxor (e : BitVec 4) (p : Fin 8) (b : Fin 16) (a : Fin 16) (d : Fin 16) (s : State) : Host.Outcome State Fault Refusal :=
  v2Op (.vxor e p b a d) (fun _ => true) e p a b d (laneBits (· ^^^ ·)) s

/-- VSHL (09 Table 09-3). -/
def execVshl (e : BitVec 4) (p : Fin 8) (g : Fin 32) (a : Fin 16) (d : Fin 16) (s : State) : Host.Outcome State Fault Refusal :=
  vgOp (.vshl e p g a d) (isI) e p g a d (fun t c x k => (laneShl t c.toNat (laneOf t.bits x k), 0)) s

/-- VSHR (09 Table 09-3). -/
def execVshr (e : BitVec 4) (p : Fin 8) (g : Fin 32) (a : Fin 16) (d : Fin 16) (s : State) : Host.Outcome State Fault Refusal :=
  vgOp (.vshr e p g a d) (isI) e p g a d (fun t c x k => (laneShr t c.toNat (laneOf t.bits x k), 0)) s

/-- VSEL (09 R189): P selects, and every lane is written. -/
def execVsel (e : BitVec 4) (p : Fin 8) (b : Fin 16) (a : Fin 16) (d : Fin 16) (s : State) : Host.Outcome State Fault Refusal :=
  issue (.vsel e p b a d) (fun s => do
    let t ← s.vfmt true e
    let (x, s) ← s.readV a
    let (y, s) ← s.readV b
    let (r, _) := lanesOut t.bits (masked t.bits (s.me.pred p) y.toNat (fun k => (laneOf t.bits x.toNat k, 0))) t.lanes 0
    s.writeV d (BitVec.ofNat 4096 r)) s

/-- VCMPEQ (09 R190). -/
def execVcmpeq (e : BitVec 4) (p : Fin 8) (b : Fin 16) (a : Fin 16) (pd : Fin 8) (s : State) : Host.Outcome State Fault Refusal :=
  vcmpOp (.vcmpeq e p b a pd) e p a b pd (fun c => c == 0) true s

/-- VCMPLT (09 R190). -/
def execVcmplt (e : BitVec 4) (p : Fin 8) (b : Fin 16) (a : Fin 16) (pd : Fin 8) (s : State) : Host.Outcome State Fault Refusal :=
  vcmpOp (.vcmplt e p b a pd) e p a b pd (fun c => decide (c < 0)) false s

/-- VCMPLE (09 R190). -/
def execVcmple (e : BitVec 4) (p : Fin 8) (b : Fin 16) (a : Fin 16) (pd : Fin 8) (s : State) : Host.Outcome State Fault Refusal :=
  vcmpOp (.vcmple e p b a pd) e p a b pd (fun c => decide (c ≤ 0)) false s

/-- VCVT (09 R194). -/
def execVcvt (e : BitVec 4) (p : Fin 8) (t : BitVec 4) (a : Fin 16) (d : Fin 16) (s : State) : Host.Outcome State Fault Refusal :=
  issue (.vcvt e p t a d) (fun s => do
    ensureWord (decide (t.toNat < 12)) .illegal
    let dst ← s.vfmt true e
    let src ← s.me.elem t.toNat
    let nar := min src.bits dst.bits
    s.group d.val (dst.bits / nar)
    let (x, s) ← s.readGroup a (src.bits / nar)
    let (old, s) := s.oldGroup d (dst.bits / nar)
    let (r, fl) := lanesOut dst.bits (masked dst.bits (s.me.pred p) old (fun k =>
      convert src dst (laneOf src.bits x k) s.me.rm false)) (4096 / nar) 0
    (s.raiseFlags fl).writeGroup d (dst.bits / nar) r) s

/-- VADDW (09 R192). -/
def execVaddw (e : BitVec 4) (p : Fin 8) (b : Fin 16) (a : Fin 16) (d : Fin 16) (s : State) : Host.Outcome State Fault Refusal :=
  vwideOp (.vaddw e p b a d) false e p a b d s

/-- VMACW (09 R192). -/
def execVmacw (e : BitVec 4) (p : Fin 8) (b : Fin 16) (a : Fin 16) (d : Fin 16) (s : State) : Host.Outcome State Fault Refusal :=
  vwideOp (.vmacw e p b a d) true e p a b d s

/-- VNARROW (09 R193). -/
def execVnarrow (e : BitVec 4) (p : Fin 8) (sat : Bool) (a : Fin 16) (d : Fin 16) (s : State) : Host.Outcome State Fault Refusal :=
  issue (.vnarrow e p sat a d) (fun s => do
    let (w, r) ← wideFor e
    let t ← s.vfmt true e
    let (x, s) ← s.readGroup a r
    let (old, s) := s.oldV d
    let (v, fl) := lanesOut t.bits (masked t.bits (s.me.pred p) old.toNat (fun k =>
      laneNarrow w t s.me.rm sat (laneOf w.bits x k))) t.lanes 0
    (s.raiseFlags fl).writeV d (BitVec.ofNat 4096 v)) s

/-- VADDS (09 R187, Table 09-3). -/
def execVadds (e : BitVec 4) (p : Fin 8) (b : Fin 16) (a : Fin 16) (d : Fin 16) (s : State) : Host.Outcome State Fault Refusal :=
  v2Op (.vadds e p b a d) (fun _ => true) e p a b d (laneAdds) s

/-- VCLAMP (09 R188). -/
def execVclamp (e : BitVec 4) (p : Fin 8) (g : Fin 32) (a : Fin 16) (d : Fin 16) (s : State) : Host.Outcome State Fault Refusal :=
  vgOp (.vclamp e p g a d) (fun _ => true) e p g a d (fun t c x k => laneClamp t c (laneOf t.bits x k)) s

/-- VSCAN (09 R195). -/
def execVscan (e : BitVec 4) (p : Fin 8) (g : Fin 32) (a : Fin 16) (d : Fin 16) (s : State) : Host.Outcome State Fault Refusal :=
  issue (.vscan e p g a d) (fun s => do
    let t ← s.vfmt true e
    let (c, s) ← s.srcB g
    let (x, s) ← s.readV a
    let (old, s) := s.oldV d
    let (r, fl) := scanLanes t s.me.rm (s.me.pred p) x.toNat old.toNat (min (2 ^ (c.toNat % 16)) t.lanes) (c.getLsbD 4) t.lanes 0 none
    (s.raiseFlags fl).writeV d (BitVec.ofNat 4096 r)) s

/-- VREDSUM (09 R196, 06 R133). -/
def execVredsum (e : BitVec 4) (p : Fin 8) (a : Fin 16) (d : Fin 16) (s : State) : Host.Outcome State Fault Refusal :=
  vredOp (.vredsum e p a d) e p a d treeSum s

/-- VREDMAX (09 R196). -/
def execVredmax (e : BitVec 4) (p : Fin 8) (a : Fin 16) (d : Fin 16) (s : State) : Host.Outcome State Fault Refusal :=
  vredOp (.vredmax e p a d) e p a d (fun t _ cs => foldMinMax t true (cs.filterMap id)) s

/-- VREDMIN (09 R196). -/
def execVredmin (e : BitVec 4) (p : Fin 8) (a : Fin 16) (d : Fin 16) (s : State) : Host.Outcome State Fault Refusal :=
  vredOp (.vredmin e p a d) e p a d (fun t _ cs => foldMinMax t false (cs.filterMap id)) s

/-- VPERM (09 R197). -/
def execVperm (e : BitVec 4) (p : Fin 8) (b : Fin 16) (a : Fin 16) (d : Fin 16) (s : State) : Host.Outcome State Fault Refusal :=
  issue (.vperm e p b a d) (fun s => do
    let t ← s.vfmt true e
    let (x, s) ← s.readV a
    let (y, s) ← s.readV b
    let (old, s) := s.oldV d
    let (r, _) := lanesOut t.bits (masked t.bits (s.me.pred p) old.toNat (fun k =>
      (laneOf t.bits x.toNat (laneOf t.bits y.toNat k % t.lanes), 0))) t.lanes 0
    s.writeV d (BitVec.ofNat 4096 r)) s

/-- VBCAST (09 R197). -/
def execVbcast (e : BitVec 4) (p : Fin 8) (g : Fin 32) (d : Fin 16) (s : State) : Host.Outcome State Fault Refusal :=
  vsOp (.vbcast e p g d) e p g d (fun t _ c _ => (c.toNat % 2 ^ t.bits, 0)) s

/-- VINS (09 R197). -/
def execVins (e : BitVec 4) (p : Fin 8) (g : Fin 32) (a : Fin 16) (d : Fin 16) (s : State) : Host.Outcome State Fault Refusal :=
  vgOp (.vins e p g a d) (fun _ => true) e p g a d (fun t c x k => (if k = 0 then c.toNat % 2 ^ t.bits else laneOf t.bits x (k - 1), 0)) s

/-- VEXT (09 R198): gN names the lane and takes its value. -/
def execVext (e : BitVec 4) (p : Fin 8) (g : Fin 32) (a : Fin 16) (s : State) : Host.Outcome State Fault Refusal :=
  issue (.vext e p g a) (fun s => do
    let t ← s.vfmt true e
    let (c, s) ← s.srcB g
    let (x, s) ← s.readV a
    let k := c.toNat % t.lanes
    if lane (s.me.pred p) k then
      let v := laneOf t.bits x.toNat k
      s.writeG g (if t.isInt then BitVec.ofInt 64 (intOf t v) else BitVec.ofNat 64 v)
    else .ok s) s

/-- VZERO (09 R197). -/
def execVzero (e : BitVec 4) (p : Fin 8) (d : Fin 16) (s : State) : Host.Outcome State Fault Refusal :=
  issue (.vzero e p d) (fun s => do
    let t ← s.vfmt true e
    let (old, s) := s.oldV d
    let (r, _) := lanesOut t.bits (masked t.bits (s.me.pred p) old.toNat (fun _ => (0, 0))) t.lanes 0
    s.writeV d (BitVec.ofNat 4096 r)) s

/-- VMOV (09 R187, Table 09-3). -/
def execVmov (e : BitVec 4) (p : Fin 8) (a : Fin 16) (d : Fin 16) (s : State) : Host.Outcome State Fault Refusal :=
  v1Op (.vmov e p a d) (fun _ => true) e p a d (fun _ _ a => (a, 0)) s

/-- VIOTA (09 R197): gN is a signed integer. -/
def execViota (e : BitVec 4) (p : Fin 8) (g : Fin 32) (d : Fin 16) (s : State) : Host.Outcome State Fault Refusal :=
  vsOp (.viota e p g d) e p g d (fun t rm c k =>
    if t.isInt then (intCode t.bits (c.toInt + k), 0) else roundTo (.ofInt (c.toInt + k)) t rm false) s

/-- VLD (09 R199 to R201). -/
def execVld (e : BitVec 4) (p : Fin 8) (gb : Fin 32) (ga : Fin 32) (d : Fin 16) (s : State) : Host.Outcome State Fault Refusal :=
  vloadOp (.vld e p gb ga d) e d (fun t s => withBase ga gb (fun s => s.contigElems t (s.me.pred p)) s) s

/-- VST (09 R199 to R202). -/
def execVst (e : BitVec 4) (p : Fin 8) (gb : Fin 32) (ga : Fin 32) (d : Fin 16) (s : State) : Host.Outcome State Fault Refusal :=
  vstoreOp (.vst e p gb ga d) e d (fun t s => withBase ga gb (fun s => s.contigElems t (s.me.pred p)) s) s

/-- VLDS (09 R199 to R201). -/
def execVlds (e : BitVec 4) (p : Fin 8) (gb : Fin 32) (ga : Fin 32) (d : Fin 16) (s : State) : Host.Outcome State Fault Refusal :=
  vloadOp (.vlds e p gb ga d) e d (fun t s => withBase ga gb (fun s => s.stridedElems t (s.me.pred p)) s) s

/-- VSTS (09 R199 to R202). -/
def execVsts (e : BitVec 4) (p : Fin 8) (gb : Fin 32) (ga : Fin 32) (d : Fin 16) (s : State) : Host.Outcome State Fault Refusal :=
  vstoreOp (.vsts e p gb ga d) e d (fun t s => withBase ga gb (fun s => s.stridedElems t (s.me.pred p)) s) s

/-- VGATH (09 R199 to R201). -/
def execVgath (e : BitVec 4) (p : Fin 8) (i : Fin 16) (ga : Fin 32) (d : Fin 16) (s : State) : Host.Outcome State Fault Refusal :=
  vloadOp (.vgath e p i ga d) e d (fun t s => withIndex ga i (fun s => s.gatherElems t (s.me.pred p)) s) s

/-- VSCAT (09 R199 to R202). -/
def execVscat (e : BitVec 4) (p : Fin 8) (i : Fin 16) (ga : Fin 32) (d : Fin 16) (s : State) : Host.Outcome State Fault Refusal :=
  vstoreOp (.vscat e p i ga d) e d (fun t s => withIndex ga i (fun s => s.gatherElems t (s.me.pred p)) s) s

/-- VWMAX (12 R275). -/
def execVwmax (e : BitVec 4) (n : BitVec 4) (w : Fin 16) (a : Fin 16) (d : Fin 16) (s : State) : Host.Outcome State Fault Refusal :=
  vwitOp (.vwmax e n w a d) 4 e n w a d false (fun t _ xs => witMinMax t true xs) s

/-- VWMIN (12 R275). -/
def execVwmin (e : BitVec 4) (n : BitVec 4) (w : Fin 16) (a : Fin 16) (d : Fin 16) (s : State) : Host.Outcome State Fault Refusal :=
  vwitOp (.vwmin e n w a d) 4 e n w a d false (fun t _ xs => witMinMax t false xs) s

/-- VWMED (12 R275). -/
def execVwmed (e : BitVec 4) (n : BitVec 4) (w : Fin 16) (a : Fin 16) (d : Fin 16) (s : State) : Host.Outcome State Fault Refusal :=
  vwitOp (.vwmed e n w a d) 4 e n w a d false (fun t _ xs => witMed t xs) s

/-- VWCLAMP (12 R275). -/
def execVwclamp (e : BitVec 4) (n : BitVec 4) (w : Fin 16) (a : Fin 16) (d : Fin 16) (s : State) : Host.Outcome State Fault Refusal :=
  vwitOp (.vwclamp e n w a d) 2 e n w a d true (fun t _ xs => witClamp t xs) s

/-- VWSSUM (12 R275). -/
def execVwssum (e : BitVec 4) (n : BitVec 4) (w : Fin 16) (a : Fin 16) (d : Fin 16) (s : State) : Host.Outcome State Fault Refusal :=
  vwitOp (.vwssum e n w a d) 1 e n w a d false witSum s

/-- VADJ (12 R276). -/
def execVadj (e : BitVec 4) (n : BitVec 4) (w : Fin 16) (kd : BitVec 4) (d : Fin 16) (s : State) : Host.Outcome State Fault Refusal :=
  vadjOp (.vadj e n w kd d) e n w kd d s

end Sys2Proof.Machine
end

