-- ==== Sys2Proof/Machine/Maps.lean ====
section
/-!
DEFINITION. Tensor maps (10_matrix.md R206 to R221): the descriptor and its validation, the elements and scales of a map,
the map instructions, the tile moves, and the weight buffer (R222 to R225).
-/

namespace Sys2Proof

/-! ## The descriptor (10 Table 10-1) -/

/-- The field of `n` bytes at an offset. -/
def Desc.raw (d : Desc) (off n : Nat) : Nat := d.toNat / 2 ^ (8 * off) % 2 ^ (8 * n)
/-- The descriptor with a field replaced. -/
def Desc.put (d : Desc) (off n v : Nat) : Desc :=
  BitVec.ofNat 1024 (d.toNat % 2 ^ (8 * off) + 2 ^ (8 * off) * (v % 2 ^ (8 * n)) +
    2 ^ (8 * (off + n)) * (d.toNat / 2 ^ (8 * (off + n))))
/-- BASE. -/
def Desc.base (d : Desc) : Nat := d.raw 0x00 8
/-- SPACE. -/
def Desc.space (d : Desc) : Nat := d.raw 0x08 1
/-- FMT. -/
def Desc.fmt (d : Desc) : Nat := d.raw 0x09 1
/-- NDIM. -/
def Desc.ndim (d : Desc) : Nat := d.raw 0x0A 1
/-- FLAGS (10 Table 10-2). -/
def Desc.flags (d : Desc) : Nat := d.raw 0x0B 1
/-- WINDOW, or CORE of a SPACE 3 map. -/
def Desc.window (d : Desc) : Nat := d.raw 0x0C 2
/-- SIZE[k]. -/
def Desc.size (d : Desc) (k : Nat) : Nat := d.raw (0x10 + 4 * k) 4
/-- STRIDE[k], k from 1. -/
def Desc.stride (d : Desc) (k : Nat) : Int := toSigned 64 (d.raw (0x28 + 8 * k) 8)
/-- SCALE. -/
def Desc.scale (d : Desc) : Nat := d.raw 0x68 8
/-- SVER. -/
def Desc.sver (d : Desc) : Nat := d.raw 0x70 4
/-- BLO. -/
def Desc.blo (d : Desc) : Nat := d.raw 0x74 4
/-- BHI. -/
def Desc.bhi (d : Desc) : Nat := d.raw 0x78 4
/-- WID. -/
def Desc.wid (d : Desc) : Nat := d.raw 0x7C 4
/-- FLAGS.SCALED. -/
def Desc.scaled (d : Desc) : Bool := bitOf d.flags 0
/-- FLAGS.SPARSE. -/
def Desc.sparse (d : Desc) : Bool := bitOf d.flags 1
/-- FLAGS.BOUNDS. -/
def Desc.bounds (d : Desc) : Bool := bitOf d.flags 2
/-- FLAGS.ACTION. -/
def Desc.action (d : Desc) : Nat := fld d.flags 3 2
/-- FLAGS.PUBLISH. -/
def Desc.publish (d : Desc) : Bool := bitOf d.flags 5
/-- FLAGS.WITNESS. -/
def Desc.witness (d : Desc) : Bool := bitOf d.flags 6

/-- The map with WID.generation counted up (10 R221). -/
def Desc.bump (d : Desc) : Desc :=
  d.put 0x7C 4 (d.wid / 2 ^ 28 * 2 ^ 28 + (d.wid / 16 % 2 ^ 24 + 1) % 2 ^ 24 * 16 + d.wid % 16)

/-- The first byte of [0x03, 0x07] that keeps BASE[63:25] from being zero. -/
def Desc.baseByte (d : Desc) : Nat :=
  if d.raw 3 1 / 2 ≠ 0 then 3 else if d.raw 4 1 ≠ 0 then 4 else if d.raw 5 1 ≠ 0 then 5 else if d.raw 6 1 ≠ 0 then 6 else 7

/-- The checks of 10 R209: the offset each is reported at, and whether it fails. -/
def Desc.checks (d : Desc) : List (Nat × Bool) :=
  [(d.baseByte, d.space == 0 && decide (d.base ≥ 2 ^ 25)),
   (0x08, decide (d.space > 3)),
   (0x09, decide (1 ≤ d.space) && decide (d.space ≤ 3) && decide (d.fmt > 0x23)),
   (0x0A, d.ndim == 0 || decide (d.ndim > 8)),
   (0x0B, bitOf d.flags 7 || d.action == 3 || (d.space == 0 && d.scaled && d.window == 0)),
   (if d.raw 0x0C 1 > 15 then 0x0C else 0x0D, d.space == 0 && decide (d.window > 15)),
   (0x0E, d.raw 0x0E 1 != 0), (0x0F, d.raw 0x0F 1 != 0),
   (0x74, d.bounds && (decodeVal fp32 d.blo).isNan), (0x78, d.bounds && (decodeVal fp32 d.bhi).isNan),
   (0x7F, d.wid / 2 ^ 28 != 0)]

/-- The lowest offset at which a check fails, an instruction's own conditions among them. -/
def Desc.fault (d : Desc) (own : List (Nat × Bool)) : Option Nat :=
  (d.checks ++ own).foldl (fun (m : Option Nat) (e : Nat × Bool) =>
    if e.2 then some (match m with | some k => min k e.1 | none => e.1) else m) none

/-! ## Elements (10 R208, R214, R220) -/

/-- An index of a list of indices; 0 from NDIM on (10 R208). -/
def Desc.ix (d : Desc) (ix : List Nat) (k : Nat) : Nat := if k < d.ndim then ix.getD k 0 else 0

/-- Whether an element is inside (10 R208). -/
def Desc.inside (d : Desc) (ix : List Nat) : Bool := (List.range d.ndim).all (fun k => decide (ix.getD k 0 < d.size k))

/-- BASE plus an element's offset, exactly (10 R208). -/
def Desc.addr (d : Desc) (bits : Nat) (ix : List Nat) : Int :=
  (List.range (d.ndim - 1)).foldl (fun (x : Int) (k : Nat) => x + ix.getD (k + 1) 0 * d.stride (k + 1))
    ((d.base : Int) + (ix.getD 0 0 * bits / 8 : Nat))

/-- The nibble of a 4-bit element. -/
def nibOf (bits : Nat) (ix : List Nat) : Option Nat := if bits = 4 then some (ix.getD 0 0 % 2) else none

/-- The block of an element (10 R214). -/
def Desc.block (d : Desc) (ix : List Nat) : Nat :=
  ix.getD 0 0 / 16 + (d.size 0 + 15) / 16 *
    (List.range (d.ndim - 1)).foldr (fun (k b : Nat) => ix.getD (k + 1) 0 + d.size (k + 1) * b) 0

/-- NREC, the records of a map (10 R214, R224). -/
def Desc.nrec (d : Desc) : Nat :=
  (List.range (d.ndim - 1)).foldl (fun (n k : Nat) => n * d.size (k + 1)) ((d.size 0 + 15) / 16)

/-- The address of an element's record (10 R214). -/
def Desc.record (d : Desc) (ix : List Nat) : Nat := d.scale + 8 + 2 * d.block ix

/-- The exponent that a record gives to pair j (06 R124): none for E = 0xFF. -/
def recordExp (e m : Byte) (j : Nat) : Option Int :=
  if e = 0xFF then none else some ((e.toNat : Int) - 127 - b2n (m.getLsbD j))

/-- A bound check's answer: the value that replaces it, the flags, and whether it traps (10 R220). -/
structure Bounded where
  clamped : Option Val := none
  above : Bool := false
  flags : Fl := 0
  traps : Bool := false
  deriving DecidableEq, Repr

/-- The check of a value written through a map (10 R220); one above BHI and below BLO at once clamps to BHI (DESIGN CHOICE, assumption
log 93). -/
def Desc.bound (d : Desc) (x : Val) : Bounded :=
  let lo := decodeVal fp32 d.blo
  let hi := decodeVal fp32 d.bhi
  let above := !x.isNan && decide (Val.cmp x hi > 0)
  let out := x.isNan || above || decide (Val.cmp x lo < 0)
  if !d.bounds || !out then {}
  else match d.action with
    | 2 => { traps := true }
    | 1 => { clamped := some (if above then hi else lo), above := above, flags := flBND }
    | _ => { flags := flBND }

/-- The core address of an element of a SPACE 0 map (10 R208). -/
def Desc.core (d : Desc) (bits : Nat) (ix : List Nat) : Word := wordOfInt ((d.window * 2 ^ 25 : Nat) + d.addr bits ix)

/-- The nibble of a group and column, and its byte's address; none outside (10 R224). -/
def Desc.nibble (d : Desc) (col row : Nat) : Option (Nat × Nat) :=
  if d.inside [col, row] then
    let t := col + d.size 0 * (d.ix [col, row] 1 / 2)
    some (d.scale + 8 + (if d.scaled then 2 * d.nrec else 0) + t / 2, t % 2)
  else none

end Sys2Proof

namespace Sys2Proof.Machine

/-! ## Slots and validation -/

/-- A map slot of the issuing core. -/
def State.map (s : State) (m : Fin 32) : Desc := s.mine.maps[m]
/-- Replaces a map slot of the issuing core. -/
def State.setMap (s : State) (m : Fin 32) (d : Desc) : State := s.setMine { s.mine with maps := s.mine.maps.set m d }

/-- TVAL of a MAP_INVALID (10 R209). -/
def mapTval (m : Fin 32) (off : Nat) : Word := BitVec.ofNat 64 (off * 256 + m.val)

/-- The valid descriptor of a slot, captured (10 R209, R210). -/
def State.useMap (s : State) (m : Fin 32) (own : Desc → List (Nat × Bool)) : M Desc :=
  match (s.map m).fault (own (s.map m)) with
  | some k => raise .mapInvalid (mapTval m k)
  | none => .ok (s.map m)

/-- The header of a scaled SPACE 0 map against SVER (10 R215); a code that takes no scale raises MAT_FORMAT first (R214). -/
def State.checkHeader (s : State) (d : Desc) (code : Nat) : M Unit := do
  ensureWord (!(decide (0x1E ≤ code) && decide (code ≤ 0x23))) .matFormat
  let a := BitVec.ofNat 64 d.scale
  let key ← s.accessR a 8 8
  ensure (s.load key 4 == d.sver) .scaleStale a

/-- The key of a record or a nibble in a map's side area, whose address is computed exactly (10 R214, R224). -/
def State.sideAccess (s : State) (a n : Nat) : M Nat := do
  ensure (decide (a < 2 ^ 64)) .scratchRange (BitVec.ofNat 64 a)
  s.accessR (BitVec.ofNat 64 a) n 1

/-- The scale of an inside element: from the map's record (10 R214), or from a scaled window (02 R32, R33), checked. -/
def State.elemScale (s : State) (d : Desc) (win : Win) (isInt : Bool) (bits : Nat) (ix : List Nat) (a : Word) :
    M (Option (Option Int)) := do
  if d.scaled then do
    ensure (decide (win.code ≤ 0x23)) .matFormat a
    let key ← s.sideAccess (d.record ix) 2
    return some (recordExp (s.byte key) (s.byte (key + 1)) (ix.getD 0 0 % 16 / 2))
  else do
    let csa := a.toNat % 2 ^ 25
    win.checks isInt csa bits a
    if win.scaled then do
      let e := win.index csa bits ((nibOf bits ix).getD 0)
      let r := win.sarea + 8 + 2 * (e / 16)
      ensure (decide (r + 1 < 2 ^ 25)) .scratchRange (BitVec.ofNat 64 r)
      let _ ← s.accessR (BitVec.ofNat 64 r) 2 1
      return some (s.scaleAt (s.clus * 2 ^ 25) win.sarea e)
    else return none

/-- The key of an inside element of a SPACE 0 map, whose core address is computed exactly (10 R208); TVAL of one past 64 bits is its low 64
bits (DESIGN CHOICE, assumption log 94). -/
def State.elemKey (s : State) (d : Desc) (bits : Nat) (ix : List Nat) : M Nat := do
  let x : Int := (d.window * 2 ^ 25 : Nat) + d.addr bits ix
  ensure (decide (0 ≤ x) && decide (x < 2 ^ 64)) .scratchRange (d.core bits ix)
  let n := bytesOfBits bits
  s.access (d.core bits ix) n (if bits = 4 then 1 else n)

/-- An inside element of a SPACE 0 map, checked (10 R218). -/
def State.mapElem (s : State) (d : Desc) (isInt : Bool) (bits lane : Nat) (ix : List Nat) : M Elem := do
  let key ← s.elemKey d bits ix
  let a := d.core bits ix
  if d.window = 0 then return { lane := lane, key := key, nib := nibOf bits ix, bits := bits, win := none, scale := none }
  else do
    let win := s.me.win (Fin.ofNat 16 d.window)
    let sc ← s.elemScale d win isInt bits ix a
    return { lane := lane, key := key, nib := nibOf bits ix, bits := bits, win := some win, scale := sc }

/-- The inside elements of a list of lanes and indices, checked in its order. -/
def State.mapElems (s : State) (d : Desc) (isInt : Bool) (bits : Nat) : List (Nat × List Nat) → M (List (Elem × Word))
  | [] => .ok []
  | (k, ix) :: rest =>
    if d.inside ix then do
      let e ← s.mapElem d isInt bits k ix
      let es ← s.mapElems d isInt bits rest
      return (e, d.core bits ix) :: es
    else s.mapElems d isInt bits rest

/-! ## Map instructions (10 R211 to R213) -/

/-- TMLD (10 R211). -/
def execTmld (g : Fin 32) (ms : Fin 32) (s : State) : Host.Outcome State Fault Refusal :=
  issue (.tmld g ms) (fun s => do
    let (x, s) ← s.srcA g
    let key ← s.accessRunR x 128 8
    return s.setMap ms (BitVec.ofNat 1024 (numOf (s.bytes key 128)))) s

/-- The issuing context as the agent of a write. -/
def State.writer (s : State) : Who := some (s.at_, s.slot)

/-- TMST (10 R211). -/
def execTmst (g : Fin 32) (ms : Fin 32) (s : State) : Host.Outcome State Fault Refusal :=
  issue (.tmst g ms) (fun s => do
    let (x, s) ← s.srcA g
    let key ← s.accessRun x 128 8
    return s.putBytes s.writer key (bytesOf 128 (s.map ms).toNat)) s

/-- The offset and size of a field selector; none for 26 to 31 (10 Table 10-4). -/
def mapField (f : Nat) : Option (Nat × Nat) :=
  match f with
  | 0 => some (0x00, 8)
  | 1 => some (0x08, 1)
  | 2 => some (0x09, 1)
  | 3 => some (0x0A, 1)
  | 4 => some (0x0B, 1)
  | 5 => some (0x0C, 2)
  | 21 => some (0x68, 8)
  | 22 => some (0x70, 4)
  | 23 => some (0x74, 4)
  | 24 => some (0x78, 4)
  | 25 => some (0x7C, 4)
  | k => if k ≤ 13 then some (0x10 + 4 * (k - 6), 4) else if k ≤ 20 then some (0x30 + 8 * (k - 14), 8) else none

/-- TMSET (10 R212). -/
def execTmset (g : Fin 32) (f : Fin 32) (ms : Fin 32) (s : State) : Host.Outcome State Fault Refusal :=
  issue (.tmset g f ms) (fun s => do
    match mapField f.val with
    | none => .error (.word .illegal)
    | some (off, n) =>
      let (x, s) ← s.srcA g
      return s.setMap ms ((s.map ms).put off n x.toNat)) s

/-- TMGET (10 R212). -/
def execTmget (f : Fin 32) (ms : Fin 32) (d : Fin 32) (s : State) : Host.Outcome State Fault Refusal :=
  issue (.tmget f ms d) (fun s => do
    match mapField f.val with
    | none => .error (.word .illegal)
    | some (off, n) => s.writeG d (BitVec.ofNat 64 ((s.map ms).raw off n))) s

/-- The trap of an engine fault at the instruction itself (10 R213, 18 R352). -/
def engTrap (f : EngFault) (tval : Word) : Stop :=
  .trap { cause := if f.status = 0x18 then .viewchg else .xferFault, tval := tval, sub := f.status, fault := f.fault }

/-- Whether a core belongs to the issuing panel, and is up: ENGINE_REJECT, then PANEL_DOWN (10 R213, 17 R309). -/
def State.targetUp (s : State) (c : Nat) (tval : Word) : M Unit := do
  ensure (decide (c < 8192) && s.inPanel c) .engineReject tval
  ensure (!s.coreDown c) .panelDown tval

/-- SVER of a slot written by a TMSYNC that completes (10 R213). -/
def State.synced (s : State) (ms : Fin 32) (v : Nat) : State := (s.setMap ms ((s.map ms).put 0x70 4 v)).finish 4

/-- The engine that a TMSYNC asks (10 R213): that of the page of SCALE, a page that does not translate being met by the own die's
unit, or the XFU of CORE's cluster (DESIGN CHOICE, assumption log 88). -/
def State.headerEngine (s : State) (d : Desc) : Engine :=
  match d.space with
  | 3 => .xfu (Fin.ofNat 128 (d.window / 64))
  | 2 => (s.servedBy d.scale false).getD (.cxl (Fin.ofNat 8 s.dieOf))
  | _ => (s.servedBy d.scale false).getD (.ske (Fin.ofNat 8 s.dieOf))

/-- The open publish entries of a cluster. -/
def Cluster.open_ (cl : Cluster) : List Pub := cl.pub.toList.filterMap id

/-- The publish entries in force when a command issues (11 R254) of the clusters it reads in, with their clusters. -/
def State.pubsOf (s : State) (cls : List Nat) : List (Nat × Pub) :=
  cls.eraseDups.flatMap (fun (c : Nat) => (s.cluster c).open_.map (fun (p : Pub) => (c, p)))

/-- The request of a TMSYNC (10 R213). -/
def State.headerCmd (s : State) (d : Desc) : Cmd :=
  { id := s.names, kind := .header, engine := s.headerEngine d, core := s.at_, slot := s.slot, panel := s.panelNo
    activation := s.me.act, src := d, tval := BitVec.ofNat 64 d.scale
    srcPub := if d.space = 3 then s.pubsOf [d.window / 64] else [], ptbase := s.mine.ptbase, asid := s.mine.asid }

/-- A TMSYNC asks and waits for the reply (10 R213); what an earlier issue of its context asked for is of no use any more. -/
def State.ask (s : State) (i : Instr) (m : Cmd) : State :=
  let t := s.waits i (.reply m.id)
  let old := fun (x : Cmd) => decide (x.kind = CmdKind.header) && x.core == m.core && x.slot == m.slot && x.ended
  ({ t with cmds := t.cmds.filter (fun x => !old x) ++ [m], names := s.names + 1 }).enterBox m.engine m.id

/-- The request of the issuing TMSYNC, if it has made one. -/
def State.asked (s : State) : Option Cmd :=
  if s.source = .entry ∨ s.me.pend = [] then
    match s.me.wait with
    | some { on := .reply id, .. } => s.cmd id
    | _ => none
  else none

/-- What the reply to a TMSYNC brings (10 R213): its bits [31:0], or a fault that surfaces here, the latch copied (18 R352). -/
def State.replied (s : State) (ms : Fin 32) (m : Cmd) : M State :=
  let t := { s with cmds := s.cmds.filter (fun x => x.id != m.id) }
  match m.state with
  | .done => .ok (t.synced ms (m.values.headD 0))
  | .failed st => .ok (t.takeTrap 4 { cause := .xferFault, tval := m.tval, sub := st })
  | _ => .error (.wait (.reply m.id))

/-- TMSYNC (10 R213). -/
def execTmsync (ms : Fin 32) (s : State) : Host.Outcome State Fault Refusal :=
  issueSelf (.tmsync ms) (fun s => do
    match s.asked with
    | some m => s.replied ms m
    | none =>
      let d ← s.useMap ms (fun _ => [])
      let tval := BitVec.ofNat 64 d.scale
      ensure (decide (d.scale < 2 ^ (if d.space = 0 then 64 else if d.space = 3 then 25 else 55))) .mapInvalid (mapTval ms 0x68)
      if d.space = 0 then do
        let key ← s.accessR tval 8 8
        return s.synced ms (s.load key 4)
      else do
        if d.space = 3 then s.targetUp d.window tval else s.walker d.scale false
        let m := s.headerCmd d
        waitFor (s.boxRoom m.engine && s.first (.engine m.engine)) (.engine m.engine)
        return s.ask (.tmsync ms) m) s

/-! ## Tiles (10 R216 to R221) -/

/-- Natural K of a format by its width (10 Table 10-6); the columns of a pair. -/
def natK (bits : Nat) : Nat := if bits = 8 then 32 else if bits = 4 then 64 else 16

/-- The register format of a tile (10 R216): the ACC type of a pair, else AFMT. -/
def Ctx.tileFmt (x : Ctx) (pair : Bool) : Fmt :=
  if pair then (if x.mfmt.getLsbD 5 then .int 32 true else fp32) else (Fmt.ofCode (x.mfmt.toNat % 32)).getD bf16

/-- The lanes of a tile in tile order with the indices of their elements, for the origin in gG (10 R218). -/
def tileOrder (rows cols : Nat) (tr : Bool) (g : Word) : List (Nat × List Nat) :=
  let col0 := g.toNat % 2 ^ 32
  let row0 := g.toNat / 2 ^ 32
  (List.range rows).flatMap (fun r => (List.range cols).map (fun c =>
    (cols * r + c, if tr then [col0 + r, row0 + c] else [col0 + c, row0 + r])))

/-- The element size in bits through a map, with `own` for window 0 (10 R208). -/
def State.elemBits (s : State) (d : Desc) (own : Nat) : Nat :=
  if d.window = 0 then own else codeBits (s.me.win (Fin.ofNat 16 d.window)).code

/-- The conditions of MLD and MST beside R209 (10 R218, R219). -/
def tileOwn (store : Bool) (d : Desc) : List (Nat × Bool) :=
  [(0x08, d.space != 0), (0x0B, d.sparse || d.witness || (store && d.publish))]

/-- The map and checked elements of a tile move, in tile order. -/
def State.tile (s : State) (ms : Fin 32) (store pair tr : Bool) (g : Word) : M (Desc × List (Elem × Word)) := do
  let d ← s.useMap ms (tileOwn store)
  let f := s.me.tileFmt pair
  let bits := s.elemBits d f.bits
  if d.scaled then s.checkHeader d (s.me.win (Fin.ofNat 16 d.window)).code
  let es ← s.mapElems d f.isInt bits (tileOrder 16 (natK f.bits) tr g)
  if !store then s.soundElems (es.map (·.1))
  return (d, es)

/-- MLD (10 R218). -/
def execMld (g : Fin 32) (pair : Bool) (tr : Bool) (ms : Fin 32) (v : Fin 16) (s : State) : Host.Outcome State Fault Refusal :=
  issue (.mld g pair tr ms v) (fun s => do
    let r := if pair then 2 else 1
    s.group v.val r
    let (x, s) ← s.srcA g
    let (_, es) ← s.tile ms false pair tr x
    let f := s.me.tileFmt pair
    let (y, fl) := fillLanes f.bits 0 (r * f.lanes) 0 (es.map (fun (e : Elem × Word) => (e.1.lane, s.loadElem f e.1)))
    (s.raiseFlags fl).writeGroup v r y) s

/-- The code that MST writes for an element and its flags, or the BOUND trap (10 R219, R220). -/
def storeTile (d : Desc) (f : Fmt) (e : Elem) (a : Word) (c : Nat) : M (Nat × Fl) :=
  let b := d.bound (decodeVal f c)
  if b.traps then raise .bound a
  else match b.clamped, e.win with
    | none, none => .ok (c, b.flags)
    | some y, none => .ok ((roundTo y f (if b.above then .rdn else .rup) true).1, b.flags)
    | none, some w => match Fmt.ofCode w.code with
      | some t =>
        let (k, g) := storeCode f t c e.scale w.rnd w.sat
        .ok (k, b.flags ||| g)
      | none => .ok (0, b.flags)
    | some y, some w => match Fmt.ofCode w.code with
      | some t =>
        let (k, g) := storeVal t y e.scale w.rnd w.sat
        .ok (k, b.flags ||| g)
      | none => .ok (0, b.flags)

/-- The codes that MST writes, in tile order. -/
def storeTiles (d : Desc) (f : Fmt) (x : Nat) : List (Elem × Word) → M (List (Elem × Nat) × Fl)
  | [] => .ok ([], 0)
  | (e, a) :: rest => do
    let (c, g) ← storeTile d f e a (laneOf f.bits x e.lane)
    let (cs, h) ← storeTiles d f x rest
    return ((e, c) :: cs, g ||| h)

/-- MST (10 R219 to R221). -/
def execMst (g : Fin 32) (pair : Bool) (tr : Bool) (ms : Fin 32) (v : Fin 16) (s : State) : Host.Outcome State Fault Refusal :=
  issue (.mst g pair tr ms v) (fun s => do
    let r := if pair then 2 else 1
    s.group v.val r
    let (x, s) ← s.srcA g
    let (y, s) ← s.readGroup v r
    let (d, es) ← s.tile ms true pair tr x
    let (cs, fl) ← storeTiles d (s.me.tileFmt pair) y es
    let s := s.pokeAll s.writer cs
    return (s.setMap ms (s.map ms).bump).raiseBound fl) s

/-! ## The weight buffer (10 R222 to R225) -/

/-- The conditions of WLOAD beside R209 (10 R223). -/
def wloadOwn (d : Desc) : List (Nat × Bool) :=
  [(0x08, d.space != 0), (0x0B, d.witness), (0x0C, d.space == 0 && d.window == 0)]

/-- The 16 elements of the block of record `r` of a slot (10 R223). -/
def blockElems (kn : Nat) (tr : Bool) (col0 row0 r : Nat) : List (List Nat) :=
  (List.range 16).map (fun j => if tr then [col0 + 16 * (r % (kn / 16)) + j, row0 + r / (kn / 16)] else [col0 + j, row0 + r])

/-- A record as the slot keeps it: E = 127 and micro-bits 0 for a block wholly outside (10 R223). -/
def State.slotRecord (s : State) (d : Desc) (es : List (List Nat)) : Nat :=
  match es.find? (fun ix => d.inside ix) with
  | some ix => numOf (s.bytes (s.keyOf (BitVec.ofNat 64 (d.record ix))) 2)
  | none => 0x7F

/-- The metadata of a sparse tile in group order, each byte checked before any is used (10 R223, R224). -/
def State.nibbles (s : State) (d : Desc) : List (Nat × Nat) → M (List (Nat × Word))
  | [] => .ok []
  | (col, row) :: rest =>
    match d.nibble col row with
    | none => do
      let ns ← s.nibbles d rest
      return (4, 0) :: ns
    | some (a, h) => do
      let key ← s.sideAccess a 1
      let ns ← s.nibbles d rest
      return ((s.byte key).toNat / 16 ^ h % 16, BitVec.ofNat 64 a) :: ns

/-- A number from digits of `w` bits, the first lowest. -/
def packed (w : Nat) : List Nat → Nat
  | [] => 0
  | c :: rest => c % 2 ^ w + 2 ^ w * packed w rest

/-- The raw codes of a tile in order; 0x00 outside (10 R223). -/
def State.rawCodes (s : State) : List (Nat × List Nat) → List (Elem × Word) → List Nat
  | [], _ => []
  | (_, _) :: rest, [] => 0 :: s.rawCodes rest []
  | (k, _) :: rest, (e, a) :: es =>
    if e.lane = k then s.peek e :: s.rawCodes rest es else 0 :: s.rawCodes rest ((e, a) :: es)

/-- WLOAD takes raw codes: its elements have no window scale. -/
def State.rawElems (s : State) (d : Desc) (bits : Nat) (scaled : Bool) : List (Nat × List Nat) → M (List (Elem × Word))
  | [] => .ok []
  | (k, ix) :: rest =>
    if d.inside ix then do
      let key ← s.elemKey d bits ix
      if scaled then
        let _ ← s.sideAccess (d.record ix) 2
      let es ← s.rawElems d bits scaled rest
      return ({ lane := k, key := key, nib := nibOf bits ix, bits := bits, win := none, scale := none }, d.core bits ix) :: es
    else s.rawElems d bits scaled rest

/-- The tile that WLOAD puts into a slot (10 R223, R224). -/
def State.loadSlot (s : State) (d : Desc) (tr : Bool) (g : Word) : M WSlot := do
  let code := (s.me.win (Fin.ofNat 16 d.window)).code
  ensureWord (decide (code ≤ 0x1F)) .matFormat
  let col0 := g.toNat % 2 ^ 32
  let row0 := g.toNat / 2 ^ 32
  if d.scaled then
    s.checkHeader d code
    ensure (col0 % 16 == 0) .misalign g
  ensureWord (!(d.sparse && (tr || row0 % 4 != 0 || d.size 1 % 2 == 1))) .matFormat
  let bits := codeBits code
  let kn := natK bits
  let rows := if d.sparse then kn / 2 else kn
  let first := if d.sparse then row0 / 2 else row0
  let order := tileOrder rows 16 tr (BitVec.ofNat 64 (col0 + 2 ^ 32 * first))
  let es ← s.rawElems d bits d.scaled order
  s.soundElems (es.map (·.1))
  let ns ← if d.sparse then
      s.nibbles d ((List.range (kn / 4)).flatMap (fun q => (List.range 16).map (fun c => (col0 + c, first + 2 * q))))
    else .ok []
  match ns.find? (fun (e : Nat × Word) => decide (e.1 % 4 ≥ e.1 / 4)) with
  | some (_, a) => raise .matFormat a
  | none =>
    return {
      valid := true, fmt := BitVec.ofNat 6 code, scaled := d.scaled, sparse := d.sparse, kn := BitVec.ofNat 8 kn, tr := tr
      codes := BitVec.ofNat 4096 (packed bits (s.rawCodes order es))
      records := if d.scaled then
          BitVec.ofNat 1024 (packed 16 ((List.range rows).map (fun r => s.slotRecord d (blockElems kn tr col0 first r))))
        else 0
      meta_ := BitVec.ofNat 1024 (packed 4 (ns.map (·.1))) }

/-- WLOAD (10 R223, R224). -/
def execWload (g : Fin 32) (tr : Bool) (ms : Fin 32) (d : Fin 32) (s : State) : Host.Outcome State Fault Refusal :=
  issue (.wload g tr ms d) (fun s => do
    let (x, s) ← s.srcA g
    let m ← s.useMap ms wloadOwn
    let w ← s.loadSlot m tr x
    return s.setMine { s.mine with wbuf := s.mine.wbuf.set d w }) s

/-- WFREE (10 R225). -/
def execWfree (d : Fin 32) (s : State) : Host.Outcome State Fault Refusal :=
  issue (.wfree d) (fun s =>
    .ok (s.setMine { s.mine with wbuf := s.mine.wbuf.set d { s.mine.wbuf[d] with valid := false } })) s

end Sys2Proof.Machine
end

