-- ==== Sys2Proof/Machine/Control.lean ====
section
/-!
DEFINITION. Control registers (07_scalar.md R147 to R154, 17 R301, R302, 18 R327) and the CTRL instructions with the
event rows that are writes of one register (03 R66, R70, 06 R128, 08 R173).
-/

namespace Sys2Proof.Machine

/-- A field of a word. -/
def field (w : Word) (lo n : Nat) : Nat := fld w.toNat lo n

/-- QUEUE_MISUSE in a cluster that is not wholly of the issuing panel: one that panels share, or that lies partly in no panel (03 R64;
DEDUCED, assumption log 90). -/
def State.ownsCluster (s : State) : M Unit :=
  ensureWord (match s.myPanel with | some p => p.hasCluster s.clus | none => false) .queueMisuse

/-- CTXID (07 Table 07-9). -/
def State.ctxid (s : State) : Word := BitVec.ofNat 64 (s.at_ * 8 + s.slot.val)

/-- BARCFG (08 Table 08-7). -/
def Panel.barcfg (p : Panel) : Word :=
  let b := p.bars[p.barIdx]
  BitVec.ofNat 64 (p.barIdx.val * 2 ^ 52 + b.phase.toNat * 2 ^ 48 + b.arrived.toNat * 2 ^ 32 + b.count.toNat)

/-- PANELCFG (17 Table 17-3). -/
def Panel.cfg (p : Panel) : Word :=
  BitVec.ofNat 64 (p.state * 2 ^ 38 + p.pfloor * 2 ^ 32 + p.w * 2 ^ 24 + p.h * 2 ^ 16 + p.x0 * 2 ^ 8 + p.y0)

/-- SUSPECT (20 Table 20-2). -/
def Core.suspect (k : Core) : Word :=
  let due := k.score.due || k.banks.toList.any Score.due
  let top := k.banks.toList.foldl (fun m b => max m b.value.toNat) 0
  BitVec.ofNat 64 (b2n due * 2 ^ 34 + b2n k.score.passed * 2 ^ 32 + top * 2 ^ 16 + k.score.value.toNat)

/-- The register a panel holds, 0 without one. -/
def State.ofPanel (s : State) (f : Panel → Word) : Word := match s.myPanel with | some p => f p | none => 0

/-- MFC: the value of control register n; a number that names none reads 0 (07 R149, Table 07-8, 17 Table 17-1). -/
def State.readCR (s : State) (n : Nat) : Word :=
  let x := s.me
  if 0x11 ≤ n ∧ n ≤ 0x1F then (x.winfmt[Fin.ofNat 16 n]).zeroExtend 64
  else if 0x21 ≤ n ∧ n ≤ 0x2F then x.winscale[Fin.ofNat 16 n]
  else if 0x40 ≤ n ∧ n ≤ 0x7F then s.mine.routine[Fin.ofNat 64 n]
  else match n with
    | 0x000 => x.flags.zeroExtend 64
    | 0x001 => x.frm.zeroExtend 64
    | 0x002 => x.mfmt.zeroExtend 64
    | 0x003 => x.f8sel.zeroExtend 64
    | 0x004 => x.hkey.zeroExtend 64
    | 0x005 => s.ctxid
    | 0x006 => s.mine.panelId.zeroExtend 64
    | 0x007 => BitVec.ofNat 64 s.cycle
    | 0x008 => s.mine.fitness.zeroExtend 64
    | 0x009 => s.mine.fitgen.zeroExtend 64
    | 0x00A => s.mine.actfcst
    | 0x00B => s.ofPanel Panel.barcfg
    | 0x00C => match x.rep with | some r => BitVec.ofNat 64 (r.n - 1 - r.idx) | none => 0
    | 0x00D => (s.cluster s.clus).tqcfg
    | 0x00E => (s.cluster s.clus).tdcfg
    | 0x00F => s.pkgid.zeroExtend 64
    | 0x100 => x.status false
    | 0x101 => s.mine.tvec
    | 0x102 => x.tcause.zeroExtend 64
    | 0x103 => x.tval
    | 0x104 => s.recAddr
    | 0x105 => x.epc
    | 0x106 => s.mine.ptbase
    | 0x107 => s.mine.asid.zeroExtend 64
    | 0x108 => s.mine.rxctx.zeroExtend 64
    | 0x109 => s.ofPanel Panel.cfg
    | 0x10A => s.mine.suspect
    | 0x10B => s.ofPanel Panel.savecur
    | _ => 0

/-- A write of BARCFG (08 R173): IDX, the barrier's COUNT, its arrivals and merging flags. -/
def Panel.setBarcfg (p : Panel) (v : Word) : Panel :=
  let i : Fin 16 := Fin.ofNat 16 (field v 52 4)
  let b := p.bars[i]
  { p with barIdx := i, bars := p.bars.set i { b with count := v.truncate 16, arrived := 0, merge := 0 } }

/-- A write of TQCFG (03 R64, R66): its checks, in their order and in every mode, before any field changes. SIZE 0 lays no
ring, and BASE is then not checked (DESIGN CHOICE, assumption log 81). -/
def State.writeTqcfg (s : State) (v : Word) : M State := do
  s.ownsCluster
  let cl := s.cluster s.clus
  let size := field v 25 4
  let base := field v 0 25
  ensureWord (cl.tasks.isEmpty && decide (cl.ringLen = 0) && decide (size ≤ 12)) .queueMisuse
  ensure (size == 0 || (s.inPanel (s.clus * 64 + base / 2 ^ 19) && decide (base % 2 ^ 19 + 64 * 2 ^ size ≤ 0x70000)))
    .scratchRange (BitVec.ofNat 64 base)
  ensure (base % 64 == 0) .misalign (BitVec.ofNat 64 base)
  return s.setCluster s.clus { cl with
    tqSize := BitVec.ofNat 4 size, tqBase := BitVec.ofNat 25 base, tqHead := 0, tqTail := 0 }

/-- A write of TDCFG (03 R64, R70): the cursor goes to the first sub-tile. -/
def State.writeTdcfg (s : State) (v : Word) : M State := do
  s.ownsCluster
  return s.setCluster s.clus { s.cluster s.clus with tdcfg := BitVec.ofNat 64 (field v 0 49), tdPos := 0 }

/-- A write of control register n, through each field's Access (07 R148, R149). -/
def State.writeCR (s : State) (n : Nat) (v : Word) : M State :=
  let x := s.me
  let k := s.mine
  if 0x11 ≤ n ∧ n ≤ 0x1F then .ok (s.setMe { x with winfmt := x.winfmt.set (Fin.ofNat 16 n) (v.truncate 10) })
  else if 0x21 ≤ n ∧ n ≤ 0x2F then .ok (s.setMe { x with winscale := x.winscale.set (Fin.ofNat 16 n) v })
  else if 0x40 ≤ n ∧ n ≤ 0x7F then
    .ok (s.setMine { k with routine := k.routine.set (Fin.ofNat 64 n) (v &&& 0x800003FFFDFFFFFF#64) })
  else match n with
    | 0x000 => .ok (s.setMe { x with flags := v.truncate 6 })
    | 0x001 => .ok (s.setMe { x with frm := v.truncate 2 })
    | 0x002 => .ok (s.setMe { x with mfmt := v.truncate 6 })
    | 0x003 => .ok (s.setMe { x with f8sel := v.truncate 5 })
    | 0x004 => .ok (s.setMe { x with hkey := v.truncate 10 })
    | 0x00B => .ok (match s.myPanel with | some p => s.setPanel (p.setBarcfg v) | none => s)
    | 0x00D => s.writeTqcfg v
    | 0x00E => s.writeTdcfg v
    | 0x100 => .ok (s.setMe { x with iprio := BitVec.ofNat 6 (field v 8 6), pmode := v.getLsbD 1 })
    | 0x101 => .ok (s.setMine { k with tvec := v &&& 0x1FFFFFE#64 })
    | 0x102 => .ok (s.setMe { x with tcause := v.truncate 17 })
    | 0x103 => .ok (s.setMe { x with tval := v })
    | 0x105 => .ok (s.setMe { x with epc := v &&& ~~~1#64 })
    | 0x106 => .ok (s.setMine { k with ptbase := v &&& 0x7FFFFFFFE001#64 })
    | 0x107 => .ok (s.setMine { k with asid := v.truncate 16 })
    | 0x108 => .ok (s.setMine { k with rxctx := v.truncate 8 })
    | _ => .ok s

/-- PRIV for a number from 0x100 up in U mode (07 R149). -/
def State.mayCR (s : State) (n : Nat) : M Unit := ensureWord (decide (n < 0x100) || s.me.mode) .priv

/-- The body of MFC. -/
def mfcBody (n : BitVec 10) (d : Fin 32) (s : State) : M State := do
  s.mayCR n.toNat
  s.writeG d (s.readCR n.toNat)

/-- The body of MTC. -/
def mtcBody (n : BitVec 10) (a : Fin 32) (s : State) : M State := do
  s.mayCR n.toNat
  let (v, s) ← s.srcA a
  s.writeCR n.toNat v

/-- The body of MSETB and MCLRB: `f` computes the 64 bits to write; gD gets the old value (07 R148). -/
def msetBody (f : Word → Word → Word) (n : BitVec 10) (a d : Fin 32) (s : State) : M State := do
  s.mayCR n.toNat
  let (v, s) ← s.srcA a
  let old := s.readCR n.toNat
  let s ← s.writeCR n.toNat (f old v)
  s.writeG d old

/-- A write of register n by one of the three CTRL writes (07 Table 07-6). -/
def ctrlWrite (op : CtrlOp) (n : BitVec 10) (a d : Fin 32) (s : State) : Host.Outcome State Fault Refusal :=
  match op with
  | .mtc => issue (.mtc n a) (mtcBody n a) s
  | .msetb => issue (.msetb n a d) (msetBody (· ||| ·) n a d) s
  | .mclrb => issue (.mclrb n a d) (msetBody (fun x y => x &&& ~~~y) n a d) s

/-- MFC (07 R147). -/
def execMfc (n : BitVec 10) (d : Fin 32) (s : State) : Host.Outcome State Fault Refusal :=
  issue (.mfc n d) (mfcBody n d) s

/-- MTC (07 R147). -/
def execMtc (n : BitVec 10) (a : Fin 32) (s : State) : Host.Outcome State Fault Refusal :=
  issue (.mtc n a) (mtcBody n a) s

/-- MSETB (07 R147, R148). -/
def execMsetb (n : BitVec 10) (a : Fin 32) (d : Fin 32) (s : State) : Host.Outcome State Fault Refusal :=
  issue (.msetb n a d) (msetBody (· ||| ·) n a d) s

/-- MCLRB (07 R147, R148). -/
def execMclrb (n : BitVec 10) (a : Fin 32) (d : Fin 32) (s : State) : Host.Outcome State Fault Refusal :=
  issue (.mclrb n a d) (msetBody (fun x y => x &&& ~~~y) n a d) s

/-- FLAGS_READ: an MFC of FLAGS, after every older instruction (06 R128). -/
def execFlagsRead (d : Fin 32) (s : State) : Host.Outcome State Fault Refusal :=
  issue (.mfc 0x000 d) (mfcBody 0x000 d) s

/-- FLAGS_WRITE: a CTRL write of FLAGS, after every older instruction (06 R128). -/
def execFlagsWrite (op : CtrlOp) (a : Fin 32) (d : Fin 32) (s : State) : Host.Outcome State Fault Refusal :=
  ctrlWrite op 0x000 a d s

/-- BARCFG_WRITE: a CTRL write of BARCFG (08 R173). -/
def execBarcfgWrite (op : CtrlOp) (a : Fin 32) (d : Fin 32) (s : State) : Host.Outcome State Fault Refusal :=
  ctrlWrite op 0x00B a d s

/-- TQCFG_WRITE: a CTRL write of TQCFG (03 R66). -/
def execTqcfgWrite (op : CtrlOp) (a : Fin 32) (d : Fin 32) (s : State) : Host.Outcome State Fault Refusal :=
  ctrlWrite op 0x00D a d s

/-- TDCFG_WRITE: a CTRL write of TDCFG (03 R70). -/
def execTdcfgWrite (op : CtrlOp) (a : Fin 32) (d : Fin 32) (s : State) : Host.Outcome State Fault Refusal :=
  ctrlWrite op 0x00E a d s

/-- CONTROL_REGISTER_WRITE: a CTRL write of register n (07 R148). -/
def execControlRegisterWrite (op : CtrlOp) (n : BitVec 10) (a : Fin 32) (d : Fin 32) (s : State) : Host.Outcome State Fault Refusal :=
  ctrlWrite op n a d s

end Sys2Proof.Machine
end

