-- ==== Sys2Proof/Machine/Msg.lean ====
section
/-!
DEFINITION. The MSG instructions (11_transfer.md R232 to R240): sending, ending an activation, queue ports, the cluster task
queue and the tile dispenser (03 R63 to R71).
-/

namespace Sys2Proof.Machine

/-! ## Sending (11 R233 to R235) -/

/-- Checks 1 to 3 of 11 R233, with TVAL = h0; `limit` is the largest LEN. -/
def State.sendChecks (s : State) (h0 h1 : Word) (limit : Nat) : M Unit := do
  ensure (decide (h0.toNat / 2 ^ 41 = 0) && decide (h1.toNat / 2 ^ 62 = 0) && hdrKind h0 != 7 && decide (hdrPrio h0 ≤ 47) &&
    decide (hdrLen h0 ≤ limit)) .engineReject h0
  ensure (s.me.mode || hdrKind h0 == 0) .priv h0
  ensure (hdrKind h0 == 4 || s.inPanel (hdrDest h0)) .priv h0

/-- A message of the issuing context (03 R44, R45, 17 R308). -/
def State.message (s : State) (h0 h1 : Word) (payload : List Byte) : Msg where
  h0 := h0
  h1 := h1
  payload := payload
  panel := s.panelNo
  cross := decide (s.dieOf ≠ hdrDest h0 / 1024)
  src := s.at_
  srcSlot := some s.slot.val
  at_ := 0

/-- Sends a message as a packet once fewer than 16 are unanswered (11 R234, R235): KIND 0 to its core, KIND 1 to 6 to its engine once the
engine's inbox has room (03 R59). The payload is the bytes at issue, but for sectors that the outside lets be read later
(`State.readLate`; DESIGN CHOICE, assumption log 70). -/
def State.sendOut (s : State) (m : Msg) : M State := do
  waitFor (s.holds s.at_ s.slot .sends) .sends
  if hdrKind m.h0 = 0 then return s.sendMsg m
  else
    let e := engineOf (hdrKind m.h0) (hdrDest m.h0)
    waitFor (s.boxRoom e && s.first (.engine e)) (.engine e)
    return s.sendOrder m e

/-- SEND (11 R233 to R235). -/
def execSend (b : Fin 32) (a : Fin 32) (d : Fin 32) (s : State) : Host.Outcome State Fault Refusal :=
  issue (.send b a d) (fun s => do
    let (h0, s) ← s.srcA a
    let (h1, s) ← s.srcB b
    let (p, s) ← s.srcD d
    s.sendChecks h0 h1 4096
    if hdrLen h0 = 0 then s.sendOut (s.message h0 h1 [])
    else
      let key ← s.accessRunR p (hdrLen h0) 8
      s.sendOut { s.message h0 h1 (s.bytes key (hdrLen h0)) with unread := some key }) s

/-- SENDV (11 R233 to R235). -/
def execSendv (b : Fin 32) (a : Fin 32) (v : Fin 16) (s : State) : Host.Outcome State Fault Refusal :=
  issue (.sendv b a v) (fun s => do
    let (h0, s) ← s.srcA a
    let (h1, s) ← s.srcB b
    s.sendChecks h0 h1 512
    let (x, s) ← s.readV v
    s.sendOut (s.message h0 h1 (bytesOf (hdrLen h0) x.toNat))) s

/-! ## Ending an activation (11 R236) -/

/-- The first command of the activation in issue order whose fault has not surfaced (11 R236). -/
def State.unsurfaced (s : State) : Option Cmd :=
  (s.cmdsOf s.at_ s.slot s.me.act).find? (fun m =>
    (match m.state with | .failed _ => true | _ => false) && !m.surfaced && decide (m.kind ≠ CmdKind.header))

/-- The STATUS of a failed command. -/
def Cmd.status (m : Cmd) : BitVec 8 := match m.state with | .failed st => st | _ => 0

/-- Marks the commands of a list as surfaced (11 R236, R245). -/
def State.surface (s : State) (ids : List Nat) : State :=
  { s with cmds := s.cmds.map (fun m => if ids.contains m.id then { m with surfaced := true } else m) }

/-- The trap that surfaces an engine fault (11 R236, R245). -/
def surfacing (st : BitVec 8) (tval : Word) : TrapInfo :=
  { cause := if st = 0x18 then .viewchg else .xferFault, tval := tval, sub := st, async := true }

/-- A context whose activation has ended (03 R43): ports unbound, monitor disarmed, Dormant. -/
def Ctx.dormant (x : Ctx) : Ctx :=
  { x.settle with
    run := .dormant, rep := none, pend := [], ports := .replicate 5 none, payload := [], mon := none
    wait := none, caught := none }

/-- The issuing context's activation ends (11 R236, 03 R43), and the core dispatches what it may (03 R50). -/
def State.endActivation (s : State) : State :=
  let me := s.me
  let s := (s.setMe me.dormant).releaseLocks s.at_ s.slot
  let s := { s with cmds := s.cmds.filter (fun m =>
    !(m.core == s.at_ && m.slot == s.slot && m.activation == me.act && m.ended && decide (m.kind ≠ CmdKind.popcmd))) }
  s.dispatch s.at_

/-- The body of ENDH and C.ENDH (11 R236). -/
def endhBody (len : Nat) (s : State) : M State := do
  waitFor (s.holds s.at_ s.slot .commands) .commands
  match s.unsurfaced with
  | some m => return (s.surface [m.id]).takeTrap len (surfacing m.status m.tval)
  | none => return s.readOut.endActivation

/-- ENDH (11 R236). -/
def execEndh (s : State) : Host.Outcome State Fault Refusal :=
  issueSelf .endh (endhBody 4) s

/-- C.ENDH (07 R146, 11 R236). -/
def execCEndh (s : State) : Host.Outcome State Fault Refusal :=
  issueSelf .cEndh (endhBody 2) s

/-! ## Queue ports (11 R237, R238) -/

/-- The index of a port: g28 to g31, or v15; none if D and M[1] disagree (11 R237). -/
def portOf (vq : Bool) (d : Fin 32) : Option (Fin 5) :=
  if vq then (if d.val = 15 then some 4 else none)
  else if 28 ≤ d.val then some (Fin.ofNat 5 (d.val - 28)) else none

/-- Whether a queue may be bound at a port in a direction (03 R55, R57). -/
def bindable (vq wr : Bool) (id : Fin 32) : Bool :=
  if vq then id.val == 8 || id.val == 9 else decide (id.val < 8) || (!wr && (id.val == 16 || id.val == 17))

/-- QBIND (11 R237). -/
def execQbind (vq : Bool) (wr : Bool) (id : Fin 32) (d : Fin 32) (s : State) : Host.Outcome State Fault Refusal :=
  issue (.qbind vq wr id d) (fun s => do
    match portOf vq d with
    | none => .error (.word .queueMisuse)
    | some i =>
      ensureWord ((s.me.ports[i]).isNone && bindable vq wr id) .queueMisuse
      return s.setMe { s.me with ports := s.me.ports.set i (some { q := id, wr := wr }) }) s

/-- QUNBIND (11 R237). -/
def execQunbind (vq : Bool) (d : Fin 32) (s : State) : Host.Outcome State Fault Refusal :=
  issue (.qunbind vq d) (fun s => do
    match portOf vq d with
    | none => .error (.word .queueMisuse)
    | some i => return s.setMe { s.me with ports := s.me.ports.set i none }) s

/-- Entries present and free of a queue; none for a reserved id (11 R238). -/
def State.queueCounts (s : State) (id : Nat) : Option (Nat × Nat) :=
  if id < 8 then
    let n := (s.mine.squeue[Fin.ofNat 8 id]).length
    some (n, 8 - n)
  else if id < 10 then
    let n := (s.mine.vqueue[Fin.ofNat 2 id]).length
    some (n, 2 - n)
  else if id = 16 then some (s.me.compq.length, 16 - s.me.compq.length)
  else if id = 17 then some (s.me.payload.length, 0)
  else none

/-- QPOLL (11 R238). -/
def execQpoll (id : Fin 32) (d : Fin 32) (s : State) : Host.Outcome State Fault Refusal :=
  issue (.qpoll id d) (fun s => do
    match s.queueCounts id.val with
    | none => .error (.word .queueMisuse)
    | some (n, f) => s.writeG d (BitVec.ofNat 64 (f % 2 ^ 16 * 2 ^ 16 + n % 2 ^ 16))) s

/-! ## Tasks and tiles (11 R239, R240, 03 R63 to R71) -/

/-- The key of a ring position (03 R65). -/
def State.ringKey (s : State) (cl j : Nat) : Nat :=
  let x := s.cluster cl
  cl * 2 ^ 25 + (x.tqBase.toNat + 64 * (j % 2 ^ x.tqSize.toNat)) % 2 ^ 25

/-- A ring position one on, modulo 2 × 2^SIZE (03 R65). -/
def Cluster.ringNext (x : Cluster) (p : BitVec 13) : BitVec 13 := BitVec.ofNat 13 ((p.toNat + 1) % (2 * 2 ^ x.tqSize.toNat))

/-- Adds a record (03 R67): to the queue's tail, else into the ring. -/
def State.addTask (s : State) (cl : Nat) (r : BitVec 512) : State :=
  let x := s.cluster cl
  if x.ringLen = 0 ∧ x.tasks.length < 32 then s.setCluster cl { x with tasks := x.tasks ++ [r], starveAt := none }
  else
    let s' := s.putBytes none (s.ringKey cl x.tqTail.toNat) (bytesOf 64 r.toNat)
    s'.setCluster cl { x with tqTail := x.ringNext x.tqTail, starveAt := none }

/-- Moves records from the ring to the queue while there is room (03 R67). -/
def State.refill (s : State) (cl : Nat) : Nat → State
  | 0 => s
  | n + 1 =>
    let x := s.cluster cl
    if x.ringLen = 0 ∨ 32 ≤ x.tasks.length then s
    else
      let r := BitVec.ofNat 512 (numOf (s.bytes (s.ringKey cl x.tqHead.toNat) 64))
      (s.setCluster cl { x with tasks := x.tasks ++ [r], tqHead := x.ringNext x.tqHead }).refill cl n

/-- Removes the queue's head (03 R67); a donation that waits for room is due again. -/
def State.takeTask (s : State) (cl : Nat) : State :=
  let x := s.cluster cl
  let s := (s.setCluster cl { x with tasks := x.tasks.drop 1, starveAt := none }).refill cl 32
  if x.donated.isSome then { s with agenda := s.agenda ++ [Due.donationAppend (Fin.ofNat 128 cl)] } else s

/-- TASKADD (11 R239, 03 R67). -/
def execTaskadd (a : Fin 32) (s : State) : Host.Outcome State Fault Refusal :=
  issue (.taskadd a) (fun s => do
    let (x, s) ← s.srcA a
    let key ← s.accessR x 64 64
    s.ownsCluster
    waitFor ((s.cluster s.clus).taskRoom && s.first (.taskRoom s.clus)) (.taskRoom s.clus)
    return s.addTask s.clus (BitVec.ofNat 512 (numOf (s.bytes key 64)))) s

/-- TASKTAKE (11 R239, 03 R67). -/
def execTasktake (a : Fin 32) (d : Fin 32) (s : State) : Host.Outcome State Fault Refusal :=
  issue (.tasktake a d) (fun s => do
    let (x, s) ← s.srcA a
    let key ← s.access x 64 64
    s.ownsCluster
    match (s.cluster s.clus).tasks with
    | [] => .error (.wait (.task s.clus))
    | r :: _ =>
      waitFor (s.first (.task s.clus)) (.task s.clus)
      let s := (s.takeTask s.clus).putBytes (some (s.at_, s.slot)) key (bytesOf 64 r.toNat)
      s.writeG d (BitVec.ofNat 64 r.toNat)) s

/-- The sub-tile at a cursor, none when finished (03 R70, R71). -/
def tileAt (cfg : Word) (pos : Nat) : Option Word :=
  let rows := field cfg 0 16
  let cols := field cfg 16 16
  let tr := field cfg 32 8
  let tc := field cfg 40 8
  if rows = 0 ∨ cols = 0 ∨ tr = 0 ∨ tc = 0 then none
  else
    let nr := (rows + tr - 1) / tr
    let nc := (cols + tc - 1) / tc
    if nr * nc ≤ pos then none
    else
      let (i, j) := if cfg.getLsbD 48 then (pos % nr, pos / nr) else (pos / nc, pos % nc)
      some (BitVec.ofNat 64 (i * tr * 2 ^ 48 + j * tc * 2 ^ 32 + min tr (rows - i * tr) * 2 ^ 16 + min tc (cols - j * tc)))

/-- TILEGET (11 R240, 03 R71). -/
def execTileget (d : Fin 32) (s : State) : Host.Outcome State Fault Refusal :=
  issue (.tileget d) (fun s => do
    s.ownsCluster
    let x := s.cluster s.clus
    match tileAt x.tdcfg x.tdPos with
    | none => s.writeG d (BitVec.allOnes 64)
    | some w => (s.setCluster s.clus { x with tdPos := x.tdPos + 1 }).writeG d w) s

end Sys2Proof.Machine
end

