-- ==== Sys2Proof/Machine/Transfer.lean ====
section
/-!
DEFINITION. The XFER instructions (11_transfer.md R241 to R257): transaction barriers, the issue of copy commands with the
checks of Table 11-8, and the publish table.
-/

namespace Sys2Proof.Machine

/-! ## Transaction barriers (11 R241 to R245) -/

/-- A number with the field of `n` bits at `lo` replaced. -/
def setField (b lo n v : Nat) : Nat := b % 2 ^ lo + 2 ^ lo * (v % 2 ^ n) + 2 ^ (lo + n) * (b / 2 ^ (lo + n))

/-- PHASE of a barrier (11 Table 11-2). -/
def barPhase (b : Nat) : Nat := fld b 0 4
/-- ARRIVE. -/
def barArrive (b : Nat) : Nat := fld b 4 20
/-- PEND. -/
def barPend (b : Nat) : Nat := fld b 28 40
/-- ARRIVE_INIT. -/
def barInit (b : Nat) : Nat := fld b 68 20
/-- FLAGS: error, overflow, and the engine's flags. -/
def barFlags (b : Nat) : Nat := fld b 88 8
/-- FCODE. -/
def barFcode (b : Nat) : Nat := fld b 100 8

/-- The phase advances when both counts are zero after an update that decrements one (11 R242). -/
def barAdvance (b : Nat) : Nat :=
  if barArrive b = 0 ∧ barPend b = 0 then setField (setField b 0 4 (barPhase b + 1)) 4 20 (barInit b) else b

/-- The overflow bit set. -/
def barOverflow (b : Nat) : Nat := setField b 88 8 (barFlags b ||| 2)

/-- An arrival (11 R242, R244). -/
def barArriveOne (b : Nat) : Nat :=
  barAdvance (if barArrive b = 0 then barOverflow b else setField b 4 20 (barArrive b - 1))

/-- A credit of bytes with flags to OR (11 R242, R250). -/
def barCredit (b n : Nat) (flags : Fl) : Nat :=
  let b := setField b 88 8 (barFlags b ||| flags.toNat * 4)
  if n = 0 then b
  else barAdvance (if barPend b < n then setField (barOverflow b) 28 40 0 else setField b 28 40 (barPend b - n))

/-- An expectation is posted (11 R252). -/
def barExpect (b n : Nat) : Nat := setField b 28 40 (barPend b + n)

/-- FLAGS.error set, and FCODE if it was 0 (11 R253). -/
def barError (b : Nat) (st : BitVec 8) : Nat :=
  let b := setField b 88 8 (barFlags b ||| 1)
  if barFcode b = 0 then setField b 100 8 st.toNat else b

/-- Updates a barrier as one operation on its sector (11 R241). -/
def State.updateBar (s : State) (who : Who) (key : Nat) (f : Nat → Nat) : State := s.store who key 16 (f (s.load key 16))

/-- TXBINIT (11 R243). -/
def execTxbinit (g : Fin 32) (d : Fin 32) (s : State) : Host.Outcome State Fault Refusal :=
  issue (.txbinit g d) (fun s => do
    let (x, s) ← s.srcA g
    let (v, s) ← s.srcD d
    let key ← s.access x 16 16
    let n := v.toNat % 2 ^ 20
    let sc := v.toNat / 2 ^ 32
    ensure (decide (sc ≤ 4) && decide (v.toNat % 2 ^ 32 = n)) .engineReject x
    return s.store s.writer key 16 (n * 2 ^ 4 + n * 2 ^ 68 + sc * 2 ^ 96)) s

/-- TXBARV (11 R244). -/
def execTxbarv (g : Fin 32) (d : Fin 32) (s : State) : Host.Outcome State Fault Refusal :=
  issue (.txbarv g d) (fun s => do
    let (x, s) ← s.srcA g
    let key ← s.accessR x 16 16
    let b := s.load key 16
    (s.updateBar s.writer key barArriveOne).writeG d (BitVec.ofNat 64 (barPhase b))) s

/-- The failed commands counted at a barrier and not yet surfaced (11 R245). -/
def State.failedAt (s : State) (key : Nat) : List Nat :=
  (s.cmds.filter (fun m => (match m.state with | .failed _ => true | _ => false) && decide (m.bar = some key))).map (·.id)

/-- What a successful wait does (11 R245): an abandoned command's fault surfaces, else the engine's flags come over and gD
is written; the instruction completes or traps, `o` being the state it issued in: a trap pops no port (00 R7, 03 R56). -/
def State.waited (s o : State) (x : Word) (key : Nat) (d : Fin 32) (v : Nat) : M State :=
  let b := s.load key 16
  if bitOf (barFlags b) 0 then
    return (o.surface (s.failedAt key)).takeTrap 4 (surfacing (BitVec.ofNat 8 (barFcode b)) x)
  else do
    let s ← (s.raiseFlags (BitVec.ofNat 6 (barFlags b / 4))).writeG d (BitVec.ofNat 64 v)
    return s.finish 4

/-- TXBWAIT (11 R245). -/
def execTxbwait (g : Fin 32) (r : Fin 32) (d : Fin 32) (s : State) : Host.Outcome State Fault Refusal :=
  issueSelf (.txbwait g r d) (fun o => do
    let (x, s) ← o.srcA g
    let (t, s) ← s.srcB r
    let key ← s.accessR x 16 16
    let b := s.load key 16
    waitFor (barPhase b != t.toNat % 16) (.phase key (t.truncate 4))
    s.waited o x key d (barPhase b)) s

/-- TXBTEST (11 R245). -/
def execTxbtest (g : Fin 32) (r : Fin 32) (d : Fin 32) (s : State) : Host.Outcome State Fault Refusal :=
  issueSelf (.txbtest g r d) (fun o => do
    let (x, s) ← o.srcA g
    let (t, s) ← s.srcB r
    let key ← s.accessR x 16 16
    if barPhase (s.load key 16) = t.toNat % 16 then do
      let s ← s.writeG d 0
      return s.finish 4
    else s.waited o x key d 1) s

/-! ## Boxes (11 R248) -/

/-- ORIGIN[k]. -/
def boxOrigin (b : BitVec 512) (k : Nat) : Nat := fld b.toNat (32 * k) 32
/-- EXTENT[k]. -/
def boxExtent (b : BitVec 512) (k : Nat) : Nat := fld b.toNat (256 + 16 * k) 16
/-- PAT. -/
def boxPat (b : BitVec 512) : Nat := fld b.toNat 384 8
/-- BFLAGS. -/
def boxFlags (b : BitVec 512) : Nat := fld b.toNat 392 8
/-- The eight extents. -/
def boxExtents (b : BitVec 512) : List Nat := (List.range 8).map (boxExtent b)
/-- The number of elements. -/
def boxCount (b : BitVec 512) : Nat := (boxExtents b).foldl (fun (n e : Nat) => n * e) 1

/-- The box indices in box order, b0 fastest (11 R249). -/
def boxIndices : List Nat → List (List Nat)
  | [] => [[]]
  | e :: rest => (boxIndices rest).flatMap (fun t => (List.range e).map (fun i => i :: t))

/-- The limits of a box (11 R248): `n` dimensions count; PAT and SWAP belong to FETCH; BFLAGS[7:3] are ignored (00 R1). -/
def boxOk (b : BitVec 512) (n : Nat) (fetch : Bool) : Bool :=
  (List.range 8).all (fun k => decide (1 ≤ boxExtent b k) && (decide (k < n) || boxExtent b k == 1)) &&
    (boxPat b == 0xFF || (fetch && decide (boxPat b < 64))) &&
    (!bitOf (boxFlags b) 0 || (fetch && decide (2 ≤ n))) && decide (b.toNat / 2 ^ 400 = 0)

/-- Indices with the origin added. -/
def addOrigin (b : BitVec 512) (ix : List Nat) : List Nat := ix.mapIdx (fun (k i : Nat) => i + boxOrigin b k)

/-- Destination and source indices of a box index, before the pattern (11 R249). -/
def boxPlaces (b : BitVec 512) (ix : List Nat) : List Nat × List Nat :=
  let sw := if bitOf (boxFlags b) 0 then (match ix with | x :: y :: rest => y :: x :: rest | l => l) else ix
  if bitOf (boxFlags b) 1 then (addOrigin b ix, sw) else (ix, addOrigin b sw)

/-! ## Copy commands (11 R246 to R253) -/

/-- The four commands (11 Table 11-4). -/
inductive Xf where
  | copy | fetch | store | tier
  deriving DecidableEq, Repr

/-- F of a command. -/
def Xf.f : Xf → Nat
  | .copy => 0
  | .fetch => 1
  | .store => 2
  | .tier => 3

/-- The command's kind. -/
def Xf.kind : Xf → CmdKind
  | .copy => .copy
  | .fetch => .fetch
  | .store => .store
  | .tier => .tier

/-- The spaces of 11 Table 11-5. -/
def Xf.spaces (f : Xf) (src dst : Nat) : Bool :=
  match f with
  | .copy => src == 0
  | .fetch => src == 1 && (dst == 0 || dst == 3)
  | .store => true
  | .tier => if src = 2 then dst == 0 || dst == 1 || dst == 3 else (src == 0 || src == 1) && dst == 2

/-- The code of a side of a command: none for SPACE 0 through window 0 (11 R250). -/
def sideCode (d : Desc) (winfmt : Vector (BitVec 10) 16) : Option Nat :=
  if d.space = 0 then (if d.window = 0 then none else some ((winfmt[Fin.ofNat 16 d.window]).toNat % 64)) else some d.fmt

/-- The codes of source and destination, a window-0 side taking the other's; none for raw bytes (11 R250). -/
def sideCodes (src dst : Option Nat) : Option (Nat × Nat) :=
  match src, dst with
  | some a, some b => some (a, b)
  | some a, none => some (a, a)
  | none, some b => some (b, b)
  | none, none => none

/-- The source and destination codes of a command; STORE takes the destination's (11 R250). -/
def Cmd.codes (m : Cmd) : Option (Nat × Nat) :=
  match m.kind with
  | .store => sideCodes none (sideCode m.dst m.winfmt)
  | _ => sideCodes (sideCode m.src m.winfmt) (sideCode m.dst m.winfmt)

/-- The destination element's size in bits. -/
def Cmd.dstBits (m : Cmd) : Nat := match m.codes with | some (_, b) => codeBits b | none => 8
/-- The source element's size in bits. -/
def Cmd.srcBits (m : Cmd) : Nat := match m.codes with | some (a, _) => codeBits a | none => 8

/-- Check 3 of 11 Table 11-8 beside R209. -/
def copyOwn (d : Desc) : List (Nat × Bool) :=
  let va := d.space == 1 || d.space == 2
  [(0x0B, d.sparse), (if bitOf d.base 55 then 6 else 7, va && decide (d.base ≥ 2 ^ 55)),
   (if bitOf d.scale 55 then 0x6E else 0x6F, va && decide (d.scale ≥ 2 ^ 55)),
   (d.baseByte, d.space == 3 && decide (d.base ≥ 2 ^ 25)), (0x0D, d.space == 3 && decide (d.window > 0x1FFF))]

/-- Check 6 of 11 Table 11-8 on one map, and R214. -/
def State.scaleCheck (s : State) (d : Desc) (code : Option Nat) : M Unit :=
  if d.scaled then
    (if d.space = 0 then s.checkHeader d (code.getD 0)
     else ensureWord (!(decide (0x1E ≤ code.getD 0) && decide (code.getD 0 ≤ 0x23))) .matFormat)
  else .ok ()

/-- The open publish entry whose front range covers `n` bytes at a cluster scratch address: its index and the address in
the back range (11 R254). -/
def Cluster.backOf (cl : Cluster) (csa n : Nat) : Option (Nat × Nat) :=
  (List.finRange 16).findSome? (fun i => match cl.pub[i] with
    | some p => if p.front ≤ csa ∧ csa + n ≤ p.front + 64 * p.len then some (i.val, csa - p.front + p.back) else none
    | none => none)

/-- Check 7 of 11 Table 11-8 on one element of a SPACE 0 map: R155, R33, and the publish table for a destination. -/
def State.elemCheck (s : State) (d : Desc) (bits : Nat) (ix : List Nat) (dst : Bool) : M Unit :=
  if d.space = 0 ∧ d.inside ix then do
    let e ← s.mapElem d false bits 0 ix
    ensure (!(dst && d.publish) || ((s.cluster s.clus).backOf (e.key % 2 ^ 25) (bytesOfBits bits)).isSome) .engineReject
      (d.core bits ix)
  else .ok ()

/-- Check 7 over the elements of a command, in box order, the source before the destination. -/
def State.elemChecks (s : State) (m : Cmd) : List (List Nat) → M Unit
  | [] => .ok ()
  | ix :: rest => do
    let (di, si) := boxPlaces m.box ix
    if m.kind ≠ .store then s.elemCheck m.src m.srcBits si false
    s.elemCheck m.dst m.dstBits di true
    s.elemChecks m rest

/-- Whether the box or the maps of a command break check 4 of 11 Table 11-8. -/
def State.rejects (s : State) (f : Xf) (m : Cmd) (pend : Nat) : Bool :=
  let n := if f = .store then m.dst.ndim else min m.dst.ndim m.src.ndim
  !f.spaces m.src.space m.dst.space || !boxOk m.box n (f == .fetch) ||
    (m.dstBits == 4 && boxExtent m.box 0 % 2 == 1) ||
    (bitOf (boxFlags m.box) 0 && (m.dstBits == 4 || m.srcBits == 4)) ||
    (f == .store && decide (m.total > 512)) || (m.dst.space == 3 && !s.inPanel m.dst.window) ||
    (m.dst.bounds && m.codes.isNone) || decide (pend + m.total ≥ 2 ^ 40)

/-- The engine whose inbox takes a command (11 Table 11-5): that of the first element's page for FETCH and TIER; a page that
does not translate is met by the own die's unit. -/
def State.engineFor (s : State) (f : Xf) (m : Cmd) : Engine :=
  let first := (boxPlaces m.box (List.replicate 8 0))
  let own := Engine.ske (Fin.ofNat 8 s.dieOf)
  let at_ := fun (d : Desc) (bits : Nat) (ix : List Nat) (write : Bool) =>
    if 0 ≤ d.addr bits ix then s.servedBy (d.addr bits ix).toNat write else none
  match f with
  | .fetch => (at_ m.src m.srcBits first.2 false).getD own
  | .tier =>
    (if m.src.space = 2 then at_ m.src m.srcBits first.2 false else at_ m.dst m.dstBits first.1 true).getD
      (.cxl (Fin.ofNat 8 s.dieOf))
  | _ => .xfu (Fin.ofNat 128 s.clus)

/-- The first element's page of a FETCH or TIER is walked where it is not cached (11 Table 11-5). -/
def State.walksFirst (s : State) (f : Xf) (m : Cmd) : M Unit :=
  let first := boxPlaces m.box (List.replicate 8 0)
  match f with
  | .fetch => s.walker (m.src.addr m.srcBits first.2).toNat false
  | .tier => if m.src.space = 2 then s.walker (m.src.addr m.srcBits first.2).toNat false
      else s.walker (m.dst.addr m.dstBits first.1).toNat true
  | _ => .ok ()

/-- The clusters that the maps of a command lie in: the issuer's, and that of each SPACE 3 map. -/
def State.clustersOf (s : State) (ds : List Desc) : List Nat :=
  s.clus :: ds.filterMap (fun (d : Desc) => if d.space = 3 then some (d.window / 64) else none)

/-- The publish entries of a cluster whose front ranges cover writes of `n` bytes, as cluster × 16 + index. -/
def State.entriesAt (s : State) (cl n : Nat) (as : List Nat) : List Nat :=
  (as.filterMap (fun a => ((s.cluster cl).backOf a n).map (fun (e : Nat × Nat) => cl * 16 + e.1))).eraseDups

/-- Bytes of a migration descriptor (12 Table 12-17), kept in the command's box. -/
def Cmd.mig (m : Cmd) (off n : Nat) : Nat := fld m.box.toNat (8 * off) (8 * n)

/-- The size of a CME element: 2 bytes for BF16, 4 for FP32. -/
def Cmd.migSize (m : Cmd) : Nat := if m.mig 0x14 1 = 0x1C then 2 else 4

/-- Where a MIGRATE goes if not to this package: its fabric header (12 R282, 19 R366). -/
def State.away (s : State) (m : Cmd) : Option (Nat × Nat) :=
  if m.kind = CmdKind.migrate ∧ m.mig 0x02 2 ≠ s.pkgid.toNat then some (m.mig 0x02 2, s.pkgid.toNat) else none

/-- The publish entries whose back ranges a command's writes are aimed at (11 R254, R256): of a copy through a PUBLISH map, or of a
CME copy within the package. -/
def State.frontsOf (s : State) (m : Cmd) : List Nat :=
  match m.kind with
  | .migrate | .mutcopy =>
    if (s.away m).isSome then []
    else s.entriesAt (m.target / 64) m.migSize ((List.range (m.mig 0x0C 4 / m.migSize)).map (fun k => m.mig 0x10 4 + k * m.migSize))
  | .copy | .fetch | .store | .tier =>
    if m.dst.publish ∧ (m.dst.space = 0 ∨ m.dst.space = 3) then
      s.entriesAt (if m.dst.space = 0 then m.core / 64 else m.dst.window / 64) (bytesOfBits m.dstBits)
        (((boxIndices (boxExtents m.box)).map (fun ix => (boxPlaces m.box ix).1)).filter m.dst.inside |>.map (fun di =>
          (wordOfInt (m.dst.addr m.dstBits di)).toNat % 2 ^ 25))
    else []
  | _ => []

/-- A new publish entry takes the writes of commands that have still to find their entries (11 R254, R256). -/
def State.reaim (s : State) : State :=
  { s with cmds := s.cmds.map (fun m => if m.ended ∨ m.srcRead then m else { m with fronts := (m.fronts ++ s.frontsOf m).eraseDups }) }

/-- A command's checks at issue in the order of 11 Table 11-8, and the command with all it captures (11 R252). -/
def State.captureCopy (s : State) (f : Xf) (mt : Fin 32) (ms : Option (Fin 32)) (data : VReg) (box bar : Word) : M Cmd := do
  let bkey ← s.accessR bar 16 16
  let xkey ← s.accessR box 64 64
  let dst ← s.useMap mt copyOwn
  let src ← match ms with
    | some k => s.useMap k copyOwn
    | none => .ok dst
  let m0 : Cmd := {
    id := 0, kind := f.kind, engine := .xfu (Fin.ofNat 128 s.clus), core := s.at_, slot := s.slot, panel := s.panelNo
    activation := s.me.act, dst := dst, src := src, dstSlot := mt, winfmt := s.me.winfmt, winscale := s.me.winscale
    box := BitVec.ofNat 512 (numOf (s.bytes xkey 64)), boxAddr := xkey, tag := f.f * 2 ^ 25 + xkey % 2 ^ 25
    bar := some bkey, tval := bar, data := data, srcPub := s.pubsOf (s.clustersOf [dst, src])
    ptbase := s.mine.ptbase, asid := s.mine.asid }
  let m := { m0 with total := boxCount m0.box * m0.dstBits / 8 }
  ensure (!s.rejects f m (barPend (s.load bkey 16))) .engineReject box
  ensure (dst.space != 3 || !s.coreDown dst.window) .panelDown box
  s.scaleCheck dst (m.codes.map (·.2))
  if ms.isSome then s.scaleCheck src (m.codes.map (·.1))
  s.elemChecks m (boxIndices (boxExtents m.box))
  s.walksFirst f m
  return { m with engine := s.engineFor f m, fronts := s.frontsOf m }

/-- A captured command enters its engine's inbox (11 R252): WID, the expectation, and the inbox, as one step. -/
def State.enqueue (s : State) (m : Cmd) : State :=
  let s := s.setMap m.dstSlot (s.map m.dstSlot).bump
  let s := match m.bar with
    | some k => s.updateBar none k (fun b => barExpect b m.total)
    | none => s
  ({ s with cmds := s.cmds ++ [{ m with id := s.names }], names := s.names + 1 }).enterBox m.engine s.names

/-- Whether the issuing instruction is the one whose command was captured while it waited (11 R252). -/
def State.captured (s : State) : Option Cmd :=
  if s.source = .entry ∨ s.me.pend = [] then s.me.caught else none

/-- Issues an engine command: reads its sources by `src`, captures it or takes the one captured before it waited, and enters it by
`put` when the engine's inbox has room and it is its turn (11 R252, 03 R59). A port it names is popped as it completes (03 R56). -/
def issueCommand {α : Type} (i : Instr) (src : State → M (α × State)) (capture : α → State → M Cmd) (put : State → Cmd → State)
    (s : State) : Host.Outcome State Fault Refusal :=
  issue i (fun s => do
    let (a, s) ← src s
    let m ← match s.captured with
      | some m => .ok m
      | none => capture a s
    if s.boxRoom m.engine && s.first (.engine m.engine) then return put s m
    else .error (.box (.engine m.engine) m)) s

/-- COPY, FETCH and TIER. -/
def xferOp (i : Instr) (f : Xf) (g mt ms d : Fin 32) (s : State) : Host.Outcome State Fault Refusal :=
  issueCommand i (fun s => do
    let (box, s) ← s.srcA g
    let (bar, s) ← s.srcD d
    return ((box, bar), s)) (fun a s => s.captureCopy f mt (some ms) 0 a.1 a.2) State.enqueue s

/-- COPY (11 R246). -/
def execCopy (g : Fin 32) (mt : Fin 32) (ms : Fin 32) (d : Fin 32) (s : State) : Host.Outcome State Fault Refusal :=
  xferOp (.copy g mt ms d) .copy g mt ms d s

/-- FETCH (11 R246). -/
def execFetch (g : Fin 32) (mt : Fin 32) (ms : Fin 32) (d : Fin 32) (s : State) : Host.Outcome State Fault Refusal :=
  xferOp (.fetch g mt ms d) .fetch g mt ms d s

/-- TIER (11 R246). -/
def execTier (g : Fin 32) (mt : Fin 32) (ms : Fin 32) (d : Fin 32) (s : State) : Host.Outcome State Fault Refusal :=
  xferOp (.tier g mt ms d) .tier g mt ms d s

/-- STORE (11 R246): vD is read when it issues. -/
def execStore (g : Fin 32) (mt : Fin 32) (r : Fin 32) (v : Fin 16) (s : State) : Host.Outcome State Fault Refusal :=
  issueCommand (.store g mt r v) (fun s => do
    let (box, s) ← s.srcA g
    let (bar, s) ← s.srcB r
    let (x, s) ← s.readV v
    return ((box, bar, x), s)) (fun a s => s.captureCopy .store mt none a.2.2 a.1 a.2.1) State.enqueue s

/-! ## Shadows and publish (11 R254 to R257) -/

/-- The limits of a range of SHOPEN (11 R255): within the user range of one core region of the panel. -/
def State.userRange (s : State) (a n : Nat) : Bool :=
  decide (a < 2 ^ 25) && s.inPanel (s.clus * 64 + a / 2 ^ 19) && decide (a % 2 ^ 19 + n ≤ 0x70000)

/-- Whether two ranges share a byte. -/
def overlaps (a b n m : Nat) : Bool := decide (a < b + m) && decide (b < a + n)

/-- Whether new ranges overlap each other or an open entry (11 R255). -/
def Cluster.clashes (cl : Cluster) (front back n : Nat) : Bool :=
  overlaps front back n n || cl.open_.any (fun p =>
    overlaps front p.front n (64 * p.len) || overlaps front p.back n (64 * p.len) ||
      overlaps back p.front n (64 * p.len) || overlaps back p.back n (64 * p.len))

/-- The index of an entry equal in FRONT, BACK and LEN. -/
def Cluster.same (cl : Cluster) (front back len : Nat) : Option (Fin 16) :=
  (List.finRange 16).find? (fun i => match cl.pub[i] with
    | some p => p.front == front && p.back == back && p.len == len
    | none => false)

/-- SHOPEN (11 R255). -/
def execShopen (g : Fin 32) (r : Fin 32) (d : Fin 32) (s : State) : Host.Outcome State Fault Refusal :=
  issue (.shopen g r d) (fun s => do
    let (x, s) ← s.srcA g
    let m ← s.useMap r (fun d => [(0x08, d.space != 0), (0x0B, !d.publish)])
    let front := m.base
    let back := x.toNat % 2 ^ 25
    let len := fld x.toNat 32 16
    ensure (front % 64 == 0) .misalign (BitVec.ofNat 64 front)
    ensure (back % 64 == 0) .misalign (BitVec.ofNat 64 back)
    ensure (s.userRange front (64 * len)) .scratchRange (BitVec.ofNat 64 front)
    ensure (s.userRange back (64 * len)) .scratchRange (BitVec.ofNat 64 back)
    let cl := s.cluster s.clus
    ensure (decide (x.toNat = back + len * 2 ^ 32) && decide (1 ≤ len)) .engineReject x
    match cl.same front back len with
    | some i => s.writeG d (BitVec.ofNat 64 i.val)
    | none =>
      ensure (!cl.clashes front back (64 * len)) .engineReject x
      match (List.finRange 16).find? (fun i => (cl.pub[i]).isNone) with
      | none => raise .engineReject x
      | some i =>
        (s.setCluster s.clus { cl with pub := cl.pub.set i (some { front := front, back := back, len := len, gen := 0 }) }).reaim.writeG d
          (BitVec.ofNat 64 i.val)) s

/-- The open entry of a FRONT (11 R256). -/
def Cluster.atFront (cl : Cluster) (front : Nat) : Option (Fin 16 × Pub) :=
  (List.finRange 16).findSome? (fun i => match cl.pub[i] with
    | some p => if p.front = front then some (i, p) else none
    | none => none)

/-- The exchange of an entry's buffers (11 R256): a write to every byte of the front range (13 R283). -/
def State.exchange (s : State) (who : Who) (cl : Nat) (i : Fin 16) (p : Pub) (close : Bool) : State :=
  let x := s.cluster cl
  let q := if close then none else some { p with gen := p.gen + 1 }
  let s' := s.setCluster cl { x with pub := x.pub.set i q }
  s'.note who ((List.range p.len).map (fun k => (cl * 2 ^ 25 + p.front + 64 * k) / 64))

/-- PUBLISH (11 R256). With .close the entry is freed after the exchange, and both ranges are plain scratch again. -/
def execPublish (close : Bool) (sc : BitVec 3) (ms : Fin 32) (d : Fin 32) (s : State) : Host.Outcome State Fault Refusal :=
  issue (.publish close sc ms d) (fun s => do
    let m ← s.useMap ms (fun _ => [])
    let base := BitVec.ofNat 64 m.base
    match (s.cluster s.clus).atFront m.base with
    | none => raise .engineReject base
    | some (i, p) =>
      waitFor (s.holds s.at_ s.slot (.backWrites s.clus i.val)) (.backWrites s.clus i.val)
      ensure (!close || p.gen.getLsbD 0) .engineReject base
      (s.exchange s.writer s.clus i p close).writeG d ((p.gen + 1).zeroExtend 64)) s

end Sys2Proof.Machine
end

