-- ==== Sys2Proof/Machine/Engine.lean ====
section
/-!
DEFINITION. What an engine does with a command (11_transfer.md R247 to R254, 12 R281): the elements of its box or region in
order, each read, converted and placed; the destination sectors they make; the credits at the barrier; and abandonment.
-/

namespace Sys2Proof.Machine

/-- Why the work on a command cannot go on: a page to walk first, or a fault (11 R253, 18 R351). -/
inductive Halt where
  | walk (va : Nat) (write : Bool)
  | fault (f : EngFault)
  deriving DecidableEq, Repr

/-- An engine's answer. -/
abbrev P (α : Type) := Except Halt α

/-- A fault with a STATUS of 11 Table 11-9. -/
def engFail {α : Type} (st : BitVec 8) : P α := .error (.fault { status := st })

/-- Goes on when the condition holds, else fails with a STATUS. -/
def engNeed (ok : Bool) (st : BitVec 8) : P Unit := if ok then .ok () else engFail st

/-! ## Where bytes lie -/

/-- Keys of bytes in order, and the translations that found them. -/
structure Spot where
  keys : List Nat
  used : List TlbEntry := []
  deriving DecidableEq, Repr

/-- The key of a virtual byte through a translation, if its stack or port can be reached. -/
def State.keyBy (s : State) (e : TlbEntry) (va : Nat) : P (Nat × TlbEntry) :=
  match s.unreachable e.eng with
  | some st => engFail st
  | none => .ok (e.keyOf va, e)

/-- The key of a virtual byte through a translation that the command has walked itself, or a cached one of the issuing core (18
R350, R353); none there, it is walked. A sector that is to be translated anew goes by the tables as they stand (R355). -/
def State.vkey (s : State) (m : Cmd) (va : Nat) (write : Bool) : P (Nat × TlbEntry) :=
  if m.anew.contains (va / 32) then
    match s.walk m.ptbase m.asid va write with
    | .error k => .error (.fault { status := 0x10, fault := some { va := va, kind := k } })
    | .ok e => s.keyBy e va
  else match (if m.ptbase.getLsbD 0 then (m.walked.find? (fun e => e.hits m.asid va write)).orElse (fun _ => s.cached m.core m.asid va write)
    else none) with
  | none => .error (.walk va write)
  | some e => s.keyBy e va

/-- The keys of `n` virtual bytes. -/
def State.vkeys (s : State) (m : Cmd) (va : Nat) (write : Bool) : Nat → P Spot
  | 0 => .ok { keys := [] }
  | n + 1 => do
    let (k, e) ← s.vkey m va write
    let r ← s.vkeys m (va + 1) write n
    return { keys := k :: r.keys, used := if r.used.contains e then r.used else e :: r.used }

/-- Consecutive keys. -/
def run (k n : Nat) : List Nat := (List.range n).map (fun i => k + i)

/-- The keys of `n` bytes at an address in a map's space (11 R246): SPACE 3 only in CORE's own user range. -/
def State.keysOf (s : State) (m : Cmd) (d : Desc) (a : Int) (n : Nat) (write : Bool) : P Spot :=
  match d.space with
  | 0 => .ok { keys := run (m.core / 64 * 2 ^ 25 + (wordOfInt a).toNat % 2 ^ 25) n }
  | 3 => do
    engNeed (s.serves d.window m.panel) 0x14
    let x := a.toNat
    engNeed (decide (0 ≤ a) && decide (x < 2 ^ 25) && x / 2 ^ 19 == d.window % 64 && decide (x % 2 ^ 19 + n ≤ 0x70000)) 0x15
    return { keys := run (d.window / 64 * 2 ^ 25 + x) n }
  | _ =>
    if 0 ≤ a ∧ a < 2 ^ 55 then s.vkeys m a.toNat write n
    else .error (.fault { status := 0x10, fault := some { va := (wordOfInt a).toNat, kind := if m.ptbase.getLsbD 0 then 3 else 0 } })

/-- The byte of memory that a source key reaches: through the publish entries open in its cluster when the command issued
(11 R254). -/
def physWith (pub : List (Nat × Pub)) (key : Nat) : Nat :=
  if key < deviceBase then
    key / 2 ^ 25 * 2 ^ 25 + ((pub.findSome? (fun (p : Nat × Pub) => if p.1 = key / 2 ^ 25 then p.2.swap (key % 2 ^ 25) else none)).getD
      (key % 2 ^ 25))
  else key

/-- The number in the bytes at source keys; an uncorrectable one fails with UNCORR. -/
def State.readKeys (s : State) (m : Cmd) : List Nat → P Nat
  | [] => .ok 0
  | k :: rest => do
    let p := physWith m.srcPub k
    engNeed (!s.poisoned p) 0x12
    let r ← s.readKeys m rest
    return (Memory.get s.mem p).toNat + 256 * r

/-! ## Pieces and sectors -/

/-- A byte, or half a byte, to write: its sector, the half bytes it credits, and flags. An element outside its destination
credits without a write (11 R249). -/
structure Piece where
  sec : Option Nat
  put : Option Put
  half : Nat
  flags : Fl := 0
  deriving DecidableEq, Repr

/-- The pieces of an inside element of `bits` bits at its keys. -/
def piecesOf (bits : Nat) (nib : Option Nat) (code : Nat) (flags : Fl) : List Nat → List Piece
  | [] => []
  | k :: rest =>
    let p : Put := match nib with
      | some h => { key := k, mask := BitVec.ofNat 8 (15 * 16 ^ h), val := BitVec.ofNat 8 (code % 16 * 16 ^ h) }
      | none => { key := k, mask := 0xFF, val := BitVec.ofNat 8 code }
    { sec := some (k / 32), put := some p, half := if bits = 4 then 1 else 2, flags := flags } ::
      piecesOf bits nib (code / 256) 0 rest

/-- The half bytes of an element. -/
def halfOf (bits : Nat) : Nat := if bits = 4 then 1 else 2 * bytesOfBits bits

/-- A piece added to the sectors made so far: to the one of its sector, else a new one. -/
def addPiece (target : Option Nat) (secs : List (Option Nat × Sector)) (p : Piece) : List (Option Nat × Sector) :=
  if secs.any (fun e => e.1 == p.sec) then
    secs.map (fun (e : Option Nat × Sector) => if e.1 == p.sec then
        (e.1, { e.2 with puts := e.2.puts ++ p.put.toList, credit := e.2.credit + p.half, flags := e.2.flags ||| p.flags })
      else e)
  else secs ++ [(p.sec, { n := secs.length, puts := p.put.toList, target := target, credit := p.half, flags := p.flags })]

/-- The 32-byte destination sectors of pieces (11 R247). -/
def sectorsOf (target : Option Nat) (ps : List Piece) : List Sector := (ps.foldl (addPiece target) []).map (·.2)

/-! ## The elements of a copy command (11 R249, R250) -/

/-- Row `s1` of the command's pattern (11 R249, R251): none outside COUNT; a pattern with COUNT = 0 fails with SPT. -/
def State.patternRow (s : State) (m : Cmd) (s1 : Nat) : P (Option Nat) :=
  let d := match m.engine with | .ske d => d.val | _ => m.core / 1024
  let row := (SMap.get (s.die d).spt 0 (boxPat m.box)).toNat
  let count := row % 2 ^ 32
  if count = 0 ∨ 63 < count then engFail 0x11
  else .ok (if s1 < count then some (fld row (32 + 32 * s1) 32) else none)

/-- The source index after the pattern; none outside it. -/
def State.srcIndex (s : State) (m : Cmd) (ix : List Nat) : P (Option (List Nat)) :=
  if boxPat m.box = 0xFF then .ok (some ix)
  else do
    match ← s.patternRow m (ix.getD 1 0) with
    | some r => return some (ix.set 1 r)
    | none => return none

/-- The scale of an inside element for an engine: of the map's record (10 R214) or of a scaled window (02 R32), read as source data
are (11 R253, R254). -/
def State.engScale (s : State) (m : Cmd) (d : Desc) (bits : Nat) (ix : List Nat) : P (Option (Option Int) × List TlbEntry) :=
  if d.scaled then do
    let r ← s.keysOf m d (d.record ix) 2 false
    let v ← s.readKeys m r.keys
    return (some (recordExp (BitVec.ofNat 8 v) (BitVec.ofNat 8 (v / 256)) (ix.getD 0 0 % 16 / 2)), r.used)
  else if d.space = 0 ∧ d.window ≠ 0 then
    let w := winOf m.winfmt[Fin.ofNat 16 d.window] m.winscale[Fin.ofNat 16 d.window]
    let csa := (wordOfInt (d.addr bits ix)).toNat % 2 ^ 25
    if w.scaled then do
      let e := w.index csa bits ((nibOf bits ix).getD 0)
      let v ← s.readKeys m ([8, 9].map (fun (i : Nat) => m.core / 64 * 2 ^ 25 + (w.sarea + i + 2 * (e / 16)) % 2 ^ 25))
      return (some (recordExp (BitVec.ofNat 8 v) (BitVec.ofNat 8 (v / 256)) (e % 16 / 2)), [])
    else .ok (none, [])
  else .ok (none, [])

/-- A source element: its raw code and its scale; none if it lies outside, and reads as zero (11 R249). -/
structure SrcElem where
  raw : Nat
  scale : Option (Option Int)
  used : List TlbEntry
  deriving DecidableEq, Repr

/-- Source element `ix` of a command, the `j`-th of the box. -/
def State.srcElem (s : State) (m : Cmd) (j : Nat) (ix : List Nat) : P (Option SrcElem) :=
  if m.kind = .store then
    .ok (some { raw := laneOf m.dstBits m.data.toNat j, scale := none, used := [] })
  else do
    match ← s.srcIndex m ix with
    | none => return none
    | some ix =>
      if m.src.inside ix then do
        let b := m.srcBits
        let r ← s.keysOf m m.src (m.src.addr b ix) (bytesOfBits b) false
        let v ← s.readKeys m r.keys
        let (sc, u) ← s.engScale m m.src b ix
        return some { raw := (match nibOf b ix with | some h => v / 16 ^ h % 16 | none => v), scale := sc, used := r.used ++ u }
      else return none

/-- Whether a command's values move raw (11 R250). -/
def Cmd.isRaw (m : Cmd) : Bool :=
  match m.codes with
  | none => true
  | some (a, b) => a == b && !m.dst.bounds && !m.dst.scaled && (m.kind == .store || !m.src.scaled)

/-- The destination window's RND and SAT (11 R250). -/
def Cmd.dstRound (m : Cmd) : Rm × Bool :=
  if m.dst.space = 0 then
    let w := winOf m.winfmt[Fin.ofNat 16 m.dst.window] 0
    (w.rnd, w.sat)
  else (.rne, false)

/-- The code written for an element and its flags: decoded exactly, checked, encoded once (11 R250, 10 R220). -/
def Cmd.convertElem (m : Cmd) (x : Option SrcElem) (dscale : Option (Option Int)) : P (Nat × Fl) :=
  match m.codes with
  | none => .ok ((match x with | some e => e.raw | none => 0), 0)
  | some (a, b) =>
    match Fmt.ofCode a, Fmt.ofCode b with
    | some f, some t =>
      let (rnd, sat) := m.dstRound
      let v := match x with | some e => scaledVal f e.raw e.scale | none => decodeVal f 0
      let bd := m.dst.bound v
      if bd.traps then engFail 0x17
      else match bd.clamped, x with
        | some y, _ =>
          let (c, g) := storeVal t y dscale rnd sat
          .ok (c, bd.flags ||| g)
        | none, some e =>
          let (c, g) := if e.scale.isNone then storeCode f t e.raw dscale rnd sat else storeVal t v dscale rnd sat
          .ok (c, bd.flags ||| g)
        | none, none =>
          let (c, g) := storeVal t v dscale rnd sat
          .ok (c, bd.flags ||| g)
    | _, _ => .ok (0, 0)

/-- The keys an element is written at: in the back range through a PUBLISH map (11 R254). -/
def State.dstSpot (s : State) (m : Cmd) (d : Desc) (bits : Nat) (ix : List Nat) : P Spot := do
  let n := bytesOfBits bits
  let r ← s.keysOf m d (d.addr bits ix) n true
  if d.publish ∧ (d.space = 0 ∨ d.space = 3) then
    let k := r.keys.headD 0
    match (s.cluster (k / 2 ^ 25)).backOf (k % 2 ^ 25) n with
    | some (_, b) => return { r with keys := run (k / 2 ^ 25 * 2 ^ 25 + b) n }
    | none => engFail 0x15
  else return r

/-- The pieces of the `j`-th element of a copy command. -/
def State.copyElem (s : State) (m : Cmd) (j : Nat) (ix : List Nat) : P (List Piece × List TlbEntry) := do
  let (di, si) := boxPlaces m.box ix
  let x ← s.srcElem m j si
  let bits := m.dstBits
  let u := match x with | some e => e.used | none => []
  if m.dst.inside di then do
    let r ← s.dstSpot m m.dst bits di
    if m.isRaw then
      let c := match x with | some e => e.raw | none => 0
      return (piecesOf bits (nibOf bits di) c 0 r.keys, u ++ r.used)
    else do
      let (sc, u2) ← s.engScale m m.dst bits di
      let (c, g) ← m.convertElem x sc
      return (piecesOf bits (nibOf bits di) c g r.keys, u ++ r.used ++ u2)
  else return ([{ sec := none, put := none, half := halfOf bits }], u)

/-- The header of a scaled SPACE 1 to 3 map against SVER: SCALE (11 Table 11-9). -/
def State.engHeader (s : State) (m : Cmd) (d : Desc) : P (List TlbEntry) :=
  if d.scaled ∧ d.space ≠ 0 then do
    let r ← s.keysOf m d d.scale 8 false
    let v ← s.readKeys m r.keys
    engNeed (v % 2 ^ 32 == d.sver) 0x16
    return r.used
  else .ok []

/-! ## The elements of a CME copy (12 R281) -/

/-- The noise of an element index (12 R281): an integer multiple of 2^−15. -/
def noiseOf (seed i : Nat) : Int :=
  let x := (seed + i * 0x9E3779B9) % 2 ^ 32
  let x := (x ^^^ (x / 2 ^ 16)) * 0x85EBCA6B % 2 ^ 32
  let x := (x ^^^ (x / 2 ^ 13)) * 0xC2B2AE35 % 2 ^ 32
  let x := x ^^^ (x / 2 ^ 16)
  ((x / 2 ^ 16 + x % 2 ^ 16 : Nat) : Int) - 65535

/-- A mutated weight and its flags (12 R281). -/
def mutated (bf : Bool) (seed i sigma w : Nat) : Nat × Fl :=
  let k := noiseOf seed i
  let n : Val := .fin (k < 0) { n := k.natAbs, e := -15 }
  let (p, f0) := Val.mul (decodeVal fp32 sigma) n
  let (q, f1) := roundTo p fp32 .rne false
  let (t, f2) := Val.add .rne (decodeVal (if bf then bf16 else fp32) w) (decodeVal fp32 q)
  let (u, f3) := roundTo t fp32 .rne false
  if bf then
    let (v, f4) := roundTo (decodeVal fp32 u) bf16 .rne false
    (v, f0 ||| f1 ||| f2 ||| f3 ||| f4)
  else (u, f0 ||| f1 ||| f2 ||| f3)

/-- The pieces of element `k` of a CME copy into the back buffer at the target (12 R280, R281); another package's entry is not
known here, and its own endpoint finds it. -/
def State.migElem (s : State) (m : Cmd) (k : Nat) : P (List Piece × List TlbEntry) := do
  let sz := m.migSize
  let far := (s.away m).isSome
  engNeed (far || s.serves m.target m.targetPanel) 0x14
  let w ← s.readKeys m (run (m.source / 64 * 2 ^ 25 + (m.mig 0x08 4 + k * sz) % 2 ^ 25) sz)
  let (c, g) := if bitOf (m.mig 0x04 4) 0 then
      mutated (sz == 2) (m.mig 0x18 4) ((m.mig 0x20 4 + k) % 2 ^ 32) (m.mig 0x1C 4) w
    else (w, 0)
  if far then return (piecesOf (8 * sz) none c g (run (m.target / 64 * 2 ^ 25 + (m.mig 0x10 4 + k * sz) % 2 ^ 25) sz), [])
  else match (s.cluster (m.target / 64)).backOf (m.mig 0x10 4 + k * sz) sz with
  | some (_, b) => return (piecesOf (8 * sz) none c g (run (m.target / 64 * 2 ^ 25 + b) sz), [])
  | none => engFail 0x15

/-! ## Planning a command -/

/-- What the engine has to do for a command: its sectors, or the number that it pushes back, the fault after them, and the
translations it uses. -/
structure Plan where
  pieces : List Piece := []
  answer : Option Nat := none
  fail : Option EngFault := none
  used : List TlbEntry := []
  deriving DecidableEq, Repr

/-- The union of two lists of translations. -/
def mergeTlb (a b : List TlbEntry) : List TlbEntry := b ++ a.filter (fun e => !b.contains e)

/-- Works through elements in order up to the first fault; a page to walk comes first (log 20). -/
def planElems {α : Type} (f : Nat → α → P (List Piece × List TlbEntry)) : Nat → List α → Except (Nat × Bool) Plan
  | _, [] => .ok {}
  | j, x :: rest =>
    match f j x with
    | .error (.walk va w) => .error (va, w)
    | .error (.fault e) => .ok { fail := some e }
    | .ok (ps, u) =>
      match planElems f (j + 1) rest with
      | .error w => .error w
      | .ok r => .ok { pieces := ps ++ r.pieces, fail := r.fail, used := mergeTlb u r.used }

/-- Whether a command is a CME copy. -/
def CmdKind.isMig : CmdKind → Bool
  | .migrate | .mutcopy | .pair _ => true
  | _ => false

/-- The 8 bytes that a TMSYNC asks for (10 R213). -/
def State.headerPlan (s : State) (m : Cmd) : P Plan := do
  let r ← s.keysOf m m.src m.src.scale 8 false
  let v ← s.readKeys m r.keys
  return { answer := some v, used := r.used }

/-- The plan of a command (11 R249, R250, 12 R281, 10 R213). -/
def State.planOf (s : State) (m : Cmd) : Except (Nat × Bool) Plan :=
  if m.kind = .header then
    match s.headerPlan m with
    | .error (.walk va w) => .error (va, w)
    | .error (.fault e) => .ok { fail := some e }
    | .ok r => .ok r
  else if m.kind.isMig then
    planElems (fun (_ k : Nat) => s.migElem m k) 0 (List.range (m.mig 0x0C 4 / m.migSize))
  else
    let headers : P (List TlbEntry) := do
      let a ← s.engHeader m m.dst
      let b ← if m.kind = .store then .ok [] else s.engHeader m m.src
      return mergeTlb a b
    match headers with
    | .error (.walk va w) => .error (va, w)
    | .error (.fault e) => .ok { fail := some e }
    | .ok u =>
      match planElems (fun (j : Nat) (ix : List Nat) => s.copyElem m j ix) 0 (boxIndices (boxExtents m.box)) with
      | .error w => .error w
      | .ok r => .ok { r with used := mergeTlb u r.used }

/-! ## Commands in the state -/

/-- Replaces a command. -/
def State.setCmd (s : State) (m : Cmd) : State := { s with cmds := s.cmds.map (fun x => if x.id = m.id then m else x) }

/-- Bytes credited so far. -/
def Cmd.creditedBytes (m : Cmd) : Nat := m.got / 2

/-- The completion word of a command (11 R253). -/
def Cmd.word (m : Cmd) (st : BitVec 8) : Word := compWord st.toNat (kindOf m.engine) m.tag

/-! ## Sectors in packets (19 R358) -/

/-- The endpoint of a key: the core of a scratch byte, or the core id that selects the engine of a stack or port (19 Table 19-1). -/
def endpointOf (key : Nat) : Nat :=
  if key < deviceBase then key / 2 ^ 19
  else if key < deviceBase + 2 ^ 52 then (key - deviceBase) / 2 ^ 36 * 1024
  else (key - deviceBase - 2 ^ 52) / 2 ^ 48 * 1024

/-- Whether an engine writes a key itself, with no packet: an XFU its own cluster's scratch, an SKE its own stack, a CXL port
its own memory (DESIGN CHOICE, assumption log 10). -/
def nearBy (e : Engine) (key : Nat) : Bool :=
  match e with
  | .xfu cl => decide (key < deviceBase) && key / 2 ^ 25 == cl.val
  | .ske d => decide (deviceBase ≤ key) && decide (key < deviceBase + 2 ^ 52) && (key - deviceBase) / 2 ^ 36 == d.val
  | .cxl p => decide (deviceBase + 2 ^ 52 ≤ key) && (key - deviceBase - 2 ^ 52) / 2 ^ 48 == p.val
  | _ => false

/-- The endpoint of a sector that goes in a packet; none for one written in place, or with nothing to write or push back. -/
def sectorEnd (e : Engine) (x : Sector) : Option Nat :=
  match x.puts with
  | [] => x.back.filter (fun c => !nearBy e (regionBase c))
  | p :: _ => if nearBy e p.key then none else some (endpointOf p.key)

/-- Sectors in runs of one endpoint. -/
def runsOf (e : Engine) : List Sector → List (Nat × List Sector)
  | [] => []
  | x :: rest => match sectorEnd e x with
    | none => runsOf e rest
    | some c => match runsOf e rest with
      | (d, xs) :: more => if d = c then (c, x :: xs) :: more else (c, [x]) :: (d, xs) :: more
      | [] => [(c, [x])]

/-- The sectors of a command set out in packets of at most 16 data flits (DESIGN CHOICE, assumption log 10). -/
def State.sendSectors (s : State) (m : Cmd) (secs : List Sector) : State :=
  (runsOf m.engine secs).foldl (fun (s : State) (r : Nat × List Sector) =>
    (chunks 32 r.2.length r.2).foldl (fun (s : State) (xs : List Sector) =>
      s.sendPacket (agentOf m.engine) r.1 (.sectors m.id (xs.map (·.n)))
        (if m.kind = .header then bytesOf 8 (m.values.headD 0)
          else xs.flatMap (fun (x : Sector) => bytesOf 32 (numOf (x.puts.map (·.val))))) (s.away m)) s) s

/-- The walk of a command is over. -/
def State.endWalk (s : State) (m : Cmd) : State :=
  let x := s.die m.walkerDie
  s.setDie m.walkerDie { x with walks := x.walks.filter (fun e => e.1 != m.id) }

/-- A command is abandoned (11 R253): the error and the rest of its bytes at the barrier in one update, the completion word,
and its end. The copy of a pair reports to the Atelier alone (12 R279), the request of a TMSYNC to that (10 R213). -/
def State.abandon (s : State) (m : Cmd) (st : BitVec 8) : State :=
  let s := match m.bar with
    | some k => s.updateBar none k (fun b => barCredit (barError b st) (m.total - m.creditedBytes) 0)
    | none => s
  let s := (s.endWalk m).setCmd { m with state := .failed st, sectors := [], pages := [], srcRead := true, got := 2 * m.total }
  match m.kind with
  | .pair i => { s with agenda := s.agenda ++ [Due.pairCopyDone i] }
  | .header => s
  | _ => s.postWord m.core m.slot (m.word st)

/-- The last sector of a command has been written (11 R253, 12 R279, R282). -/
def State.completeCmd (s : State) (m : Cmd) : State :=
  match m.kind with
  | .migrate => { s.setCmd { m with srcRead := true } with agenda := s.agenda ++ [Due.migrateComplete m.id] }
  | .pair i => { s.setCmd { m with state := .done, srcRead := true } with agenda := s.agenda ++ [Due.pairCopyDone i] }
  | .mutcopy => s.setCmd { m with state := .done, srcRead := true }
  | _ =>
    let s := s.setCmd { m with state := .done, srcRead := true }
    if bitOf (boxFlags m.box) 2 then s.postWord m.core m.slot (m.word 0) else s

/-- The command has no sector left: it ends as its fault says, or completes. -/
def State.endCmd (s : State) (m : Cmd) : State :=
  match m.fail with
  | some st => s.abandon m st
  | none => s.completeCmd m

/-- A command waits for a page: the die's walker takes it in the order of arrival (18 R353). -/
def State.askWalk (s : State) (m : Cmd) (w : Nat × Bool) : State :=
  let x := s.die m.walkerDie
  { (s.setDie m.walkerDie { x with walks := x.walks.filter (fun e => e.1 != m.id) ++ [(m.id, w.1)] }).setCmd
      { m with state := .running, pages := [w] } with agenda := s.agenda ++ [Due.pageWalk m.id] }

/-- The sectors that a command still has to write are set going: those of packets are written when these are delivered. -/
def State.issueSectors (s : State) (m : Cmd) : State :=
  let here := if (s.away m).isSome then [] else m.sectors.filter (fun (x : Sector) => (sectorEnd m.engine x).isNone)
  State.sendSectors { s with agenda := s.agenda ++ here.map (fun (x : Sector) => Due.sectorWrite m.id x.n) } m m.sectors

/-- The engine works on a running command: a page to walk, or its sectors (11 R247, 18 R351). -/
def State.advance (s : State) (m : Cmd) : State :=
  match s.planOf m with
  | .error w => s.askWalk m w
  | .ok r =>
    let target := if m.kind.isMig then some m.target else if m.dst.space = 3 then some m.dst.window else none
    let secs : List Sector := match r.answer with
      | some _ => [{ n := 0, puts := [], target := none, credit := 0, flags := 0, back := some m.core }]
      | none => sectorsOf target r.pieces
    let s := match r.fail.bind (·.fault) with
      | some f => s.latchFault m.core m.slot f
      | none => s
    let m := { m with state := .running, pages := [], sectors := secs, nsec := secs.length, walked := r.used, srcRead := true,
                      fail := r.fail.map (·.status), values := r.answer.toList ++ m.values }
    let s := s.setCmd m
    if secs = [] then s.endCmd m else s.issueSectors m

/-- A byte written under its mask. -/
def putByte (mem : List Host.Cell) (key : Nat) (p : Put) : List Host.Cell :=
  Memory.set mem key ((Memory.get mem key &&& ~~~p.mask) ||| (p.val &&& p.mask))

/-- Writes a sector's bytes, each through the publish table as it stands (11 R254), seen by the monitors at their addresses
(08 R176). -/
def State.writeSector (s : State) (x : Sector) : State :=
  { s with mem := x.puts.foldl (fun (mem : List Host.Cell) (p : Put) => putByte mem (s.phys p.key) p) s.mem }.note none
    (x.puts.map (fun (p : Put) => p.key / 64))

/-- The panel that a command writes to (17 R308). -/
def Cmd.toPanel (m : Cmd) : Nat := if m.kind.isMig then m.targetPanel else m.panel

/-- Why a sector for a panel cannot be written now: DOWN for its core (17 R307), LINK for its stack or port. -/
def State.sectorFault (s : State) (panel : Nat) (x : Sector) : Option (BitVec 8) :=
  match x.target with
  | some c => if s.serves c panel then none else some 0x14
  | none =>
    if x.puts.any (fun (p : Put) => decide (deviceBase + 2 ^ 52 ≤ p.key) && !s.portServes ((p.key - deviceBase - 2 ^ 52) / 2 ^ 48))
    then some 0x13
    else if x.puts.any (fun (p : Put) => decide (deviceBase ≤ p.key) && decide (p.key < deviceBase + 2 ^ 39) &&
      !s.dieLive ((p.key - deviceBase) / 2 ^ 36)) then some 0x13
    else none

/-- Sectors of a command that is gone are written where they can be, with no credit (17 R310). -/
def State.landLoose (s : State) (panel : Nat) (secs : List Sector) : State :=
  secs.foldl (fun (s : State) (x : Sector) => if (s.sectorFault panel x).isSome then s else s.writeSector x) s

/-- A destination sector is written and its bytes are credited (11 R247, R250, 20 R379). -/
def State.landSector (s : State) (m : Cmd) (x : Sector) : State :=
  let s := s.writeSector x
  let m' := { m with got := m.got + x.credit, flags := m.flags ||| x.flags, sectors := m.sectors.filter (fun y => y.n != x.n) }
  let s := match m.bar with
    | some k => s.updateBar none k (fun b => barCredit b (m'.creditedBytes - m.creditedBytes) x.flags)
    | none => s
  let s := if x.flags &&& flBND ≠ 0 ∧ m.flags &&& flBND = 0 ∧ m.bar.isSome then s.suspectCore m.core 4 else s
  let s := s.setCmd m'
  if m'.sectors = [] then s.endCmd m' else s

end Sys2Proof.Machine
end

