-- ==== Sys2Proof/Machine/Matrix.lean ====
section
/-!
DEFINITION. The matrix instructions (10_matrix.md R226 to R231, 06 R130, R131): exact sums rounded once, the decompressor,
and the online softmax. Results stand in `Ctx.mat` until the instruction completes (06 R127).
-/

namespace Sys2Proof

/-- The exact sum of dyadic reals as an integer multiple of 2^e. -/
def sumAt (e : Int) : List Val → Int
  | [] => 0
  | .fin neg x :: rest => (if neg then -(x.scaled e : Int) else x.scaled e) + sumAt e rest
  | _ :: rest => sumAt e rest

/-- The least exponent among finite values. -/
def leastExp (d : Int) : List Val → Int
  | [] => d
  | .fin _ x :: rest => leastExp (min d x.e) rest
  | _ :: rest => leastExp d rest

/-- An exact sum of many terms (06 R130). -/
def exactSum (ts : List Val) : Val × Fl :=
  let pos := ts.any (· == .inf false)
  let neg := ts.any (· == .inf true)
  let fl : Fl := if (pos && neg) || ts.any Val.sig then flNV else 0
  if ts.any Val.isNan || (pos && neg) then (.nan false, fl)
  else if pos then (.inf false, fl)
  else if neg then (.inf true, fl)
  else
    let e := leastExp 0 ts
    let v := sumAt e ts
    (if v = 0 then .zero (ts != [] && ts.all Val.neg) else .fin (v < 0) { n := v.natAbs, e := e }, fl)

/-- The integer of an exact integer value. -/
def Val.int : Val → Int
  | .fin neg x => if neg then -(x.scaled 0 : Int) else x.scaled 0
  | _ => 0

/-- An accumulated sum in its 32-bit code (06 R130): one rounding to FP32 RNE, or saturation to I32 with OF. -/
def accCode (isInt : Bool) (ts : List Val) : Nat × Fl :=
  let (v, g) := exactSum ts
  if isInt then
    let (i, out) := clampInt (.int 32 true) v.int
    (intCode 32 i, if out then flOF else 0)
  else
    let (c, h) := roundTo v fp32 .rne false
    (c, g ||| h)

/-- Products of two lists of values with their flags. -/
def products : List Val → List Val → List Val × Fl
  | a :: as, b :: bs =>
    let (p, g) := Val.mul a b
    let (ps, h) := products as bs
    (p :: ps, g ||| h)
  | _, _ => ([], 0)

/-- A number from codes of `w` bits, the first lowest, with their flags. -/
def packedFl (w : Nat) : List (Nat × Fl) → Nat × Fl
  | [] => (0, 0)
  | (c, g) :: rest =>
    let (r, h) := packedFl w rest
    (c % 2 ^ w + 2 ^ w * r, g ||| h)

end Sys2Proof

namespace Sys2Proof.Machine

/-- Bv(k, col) of the decompressor (10 R227, R224). -/
def WSlot.value (w : WSlot) (k col : Nat) : Val :=
  let f := (Fmt.ofCode w.fmt.toNat).getD bf16
  let nib := laneOf 4 w.meta_.toNat (16 * (k / 4) + col)
  let row := if !w.sparse then some k
    else if k % 4 = nib % 4 then some (2 * (k / 4)) else if k % 4 = nib / 4 then some (2 * (k / 4) + 1) else none
  match row with
  | none => .zero false
  | some r =>
    let raw := laneOf f.bits w.codes.toNat (16 * r + col)
    if w.scaled then
      let n := if w.tr then col * (w.kn.toNat / 16) + r / 16 else r
      let j := if w.tr then r % 16 / 2 else col / 2
      let b := laneOf 16 w.records.toNat n
      scaledVal f raw (some (recordExp (BitVec.ofNat 8 b) (BitVec.ofNat 8 (b / 256)) j))
    else decodeVal f raw

/-- The operands of MMA and MCHK (10 R226, R227): the rows of A, the columns and rows of Bv as values, and the type. -/
structure MatOp where
  k : Nat
  isInt : Bool
  sparse : Bool
  a : Nat
  aBits : Nat
  kn : Nat
  aFmt : Fmt
  b : WSlot
  deriving DecidableEq, Repr

/-- The K of its code (04 R87). -/
def kOf (k : BitVec 2) : Nat := 16 * 2 ^ k.toNat

/-- The checks of 10 R226 in order, and the captured operands. -/
def State.matOp (s : State) (k : BitVec 2) (wb : Fin 32) (a : Fin 16) (c : Fin 8) : M (MatOp × State) := do
  let w := s.mine.wbuf[wb]
  ensure w.valid .wbEmpty (BitVec.ofNat 64 wb.val)
  let af := s.me.tileFmt false
  let bInt := decide (0x1E ≤ w.fmt.toNat)
  ensureWord (af.isInt == bInt) .matFormat
  ensureWord (af.isInt == s.me.mfmt.getLsbD 5) .matFormat
  ensureWord (kOf k == min (natK af.bits) w.kn.toNat) .matFormat
  s.group (2 * c.val) 2
  let (x, s) ← s.readV a
  return ({ k := kOf k, isInt := af.isInt, sparse := w.sparse, a := x.toNat, aBits := af.bits, kn := natK af.bits, aFmt := af, b := w }, s)

/-- Row `r` of A. -/
def MatOp.row (m : MatOp) (r : Nat) : List Val :=
  (List.range m.k).map (fun k => decodeVal m.aFmt (laneOf m.aBits m.a (m.kn * r + k)))

/-- Column `c` of Bv. -/
def MatOp.col (m : MatOp) (c : Nat) : List Val := (List.range m.k).map (fun k => m.b.value k c)

/-- The row sums Σcol Bv(k, col) (10 R228). -/
def MatOp.sums (m : MatOp) : List (Val × Fl) :=
  (List.range m.k).map (fun k => exactSum ((List.range 16).map (fun c => m.b.value k c)))

/-- Element (row, col) of an MMA (10 R227). -/
def MatOp.mma (m : MatOp) (z : Bool) (old r c : Nat) : Nat × Fl :=
  let acc := if z then Val.zero false else decodeVal (if m.isInt then .int 32 true else fp32) (laneOf 32 old (16 * r + c))
  let (ps, g) := products (m.row r) (m.col c)
  let (x, h) := accCode m.isInt (acc :: ps)
  (x, g ||| h)

/-- Lane `row` of MCHK (10 R228). -/
def MatOp.chk (m : MatOp) (r : Nat) : Nat × Fl :=
  let (ps, g) := products (m.row r) (m.sums.map (·.1))
  let (x, h) := accCode m.isInt ps
  (x, g ||| h)

/-- The even register of a pair. -/
def evenOf (c : Fin 8) : Fin 16 := Fin.ofNat 16 (2 * c.val)
/-- The odd register of a pair. -/
def oddOf (c : Fin 8) : Fin 16 := Fin.ofNat 16 (2 * c.val + 1)

/-- The two registers of a pair from its 256 elements. -/
def pairRegs (c : Fin 8) (v : Nat) : List (Fin 16 × VReg) :=
  [(evenOf c, BitVec.ofNat 4096 v), (oddOf c, BitVec.ofNat 4096 (v / 2 ^ 4096))]

/-- A matrix instruction issues: its result stands until it completes (10 R231, 06 R127); a held register is not written
in S mode (18 R332). -/
def State.matIssue (s : State) (busy : Nat) (vs : List (Fin 16 × VReg)) (zs : List (Fin 8 × ZReg)) (fl : Fl) : M State := do
  ensureWord (!(s.me.mode && vs.any (fun (e : Fin 16 × VReg) => s.held.getLsbD e.1.val))) .illegal
  let s := s.setMine { s.mine with busyMat := s.mine.busyMat + busy }
  return s.setMe { s.me with mat := some { vs := vs, zs := zs, flags := fl } }

/-- The row and column of each element of a pair, in its order. -/
def pairOrder : List (Nat × Nat) := (List.range 16).flatMap (fun r => (List.range 16).map (fun c => (r, c)))

/-- MMA (10 R226 to R228). The two paths of .chk agree in every fault-free part; in a faulty one (`Core.badMat`, which an
UNCORRECTABLE_ERROR of the matrix unit sets) the MMA raises UNCORRECTABLE and writes nothing. With .chk the result is there
when the instruction completes (18 Table 18-5). Its TVAL is not stated (DESIGN CHOICE, assumption log 3). -/
def execMma (chk : Bool) (z : Bool) (k : BitVec 2) (wb : Fin 32) (a : Fin 16) (c : Fin 8) (s : State) : Host.Outcome State Fault Refusal :=
  issue (.mma chk z k wb a c) (fun s => do
    let (m, s) ← s.matOp k wb a c
    let (old, s) ← s.readGroup (evenOf c) 2
    if chk && s.mine.badMat then
      .error (.trap { cause := .uncorrectable, tval := Config.openTval s.tick, mismatch := true })
    let (v, fl) := packedFl 32 (pairOrder.map (fun (e : Nat × Nat) => m.mma z old e.1 e.2))
    let s ← s.matIssue (if m.sparse then 4 else 8) (pairRegs c v) [] fl
    return if chk then s.settle else s) s

/-- MCHK (10 R228). -/
def execMchk (k : BitVec 2) (wb : Fin 32) (a : Fin 16) (c : Fin 8) (s : State) : Host.Outcome State Fault Refusal :=
  issue (.mchk k wb a c) (fun s => do
    let (m, s) ← s.matOp k wb a c
    let (v, fl) := packedFl 32 ((List.range 16).map m.chk)
    let old := (s.me.v[evenOf c]).toNat
    let fl := m.sums.foldl (fun (f : Fl) (e : Val × Fl) => f ||| e.2) fl
    s.matIssue 8 [(evenOf c, BitVec.ofNat 4096 (old / 2 ^ 512 * 2 ^ 512 + v))] [] fl) s

/-- One row of MSOFT (10 R229). -/
structure SoftRow where
  p : List Nat
  o : List Nat
  sum : Nat
  max : Nat
  flags : Fl
  deriving DecidableEq, Repr

/-- FP32 negative infinity. -/
def negInf32 : Nat := 0xFF800000

/-- MSOFT on one row: the scores, the outputs, the row sum and the row maximum as FP32 codes (10 R229). -/
def softRow (s o : List Nat) (sum mold : Nat) : SoftRow :=
  let (mnew, f0) := s.foldl (fun (x : Nat × Fl) c =>
    let (y, g) := minMaxCode fp32 true x.1 c
    (y, x.2 ||| g)) (mold, 0)
  let top := decodeVal fp32 mnew
  let dead := mnew == negInf32
  let ex : Fmt → Nat → Nat × Fl := fun f c =>
    let (x, g) := Val.sub .rne (decodeVal fp32 c) top
    let (y, h) := Val.exp2 x
    let (k, q) := roundTo y f .rne false
    (k, g ||| h ||| q)
  let alpha : Nat × Fl := if dead then (0x3F800000, 0) else ex fp32 mold
  let ps : List (Nat × Fl) := s.map (fun c => if dead then (0, 0) else ex bf16 c)
  let a := decodeVal fp32 alpha.1
  let (t, f1) := Val.mul (decodeVal fp32 sum) a
  let (u, f2) := exactSum (t :: ps.map (fun (e : Nat × Fl) => decodeVal bf16 e.1))
  let (w, f3) := roundTo u fp32 .rne false
  let os := o.map (fun c =>
    let (x, g) := Val.mul (decodeVal fp32 c) a
    let (y, h) := roundTo x fp32 .rne false
    (y, g ||| h))
  { p := ps.map (·.1), o := os.map (·.1), sum := w, max := mnew
    flags := (ps ++ os).foldl (fun (f : Fl) (e : Nat × Fl) => f ||| e.2) (f0 ||| alpha.2 ||| f1 ||| f2 ||| f3) }

/-- z[k + 4]. -/
def zSum (k : BitVec 2) : Fin 8 := Fin.ofNat 8 (k.toNat + 4)
/-- z[k]. -/
def zMax (k : BitVec 2) : Fin 8 := Fin.ofNat 8 k.toNat

/-- The 16 codes of row `r` of a pair. -/
def rowCodes (v r : Nat) : List Nat := (List.range 16).map (fun c => laneOf 32 v (16 * r + c))

/-- MSOFT (10 R229, R131). -/
def execMsoft (k : BitVec 2) (a : Fin 16) (c : Fin 8) (s : State) : Host.Outcome State Fault Refusal :=
  issue (.msoft k a c) (fun s => do
    ensureWord (a.val % 2 == 0) .illegal
    ensureWord (!s.me.mfmt.getLsbD 5) .matFormat
    s.group (2 * c.val) 2
    let (x, s) ← s.readGroup a 2
    let (y, s) ← s.readGroup (evenOf c) 2
    let sums := (s.me.z[zSum k]).toNat
    let maxs := (s.me.z[zMax k]).toNat
    let rows := (List.range 16).map (fun r => softRow (rowCodes x r) (rowCodes y r) (laneOf 32 sums r) (laneOf 32 maxs r))
    let os := packed 32 (rows.flatMap SoftRow.o)
    let ps := packed 16 (rows.flatMap SoftRow.p)
    s.matIssue 8 (pairRegs c os ++ [(a, BitVec.ofNat 4096 ps)])
      [(zMax k, BitVec.ofNat 512 (packed 32 (rows.map SoftRow.max))), (zSum k, BitVec.ofNat 512 (packed 32 (rows.map SoftRow.sum)))]
      (rows.foldl (fun (f : Fl) r => f ||| r.flags) 0)) s

/-- MSFIN (10 R230): a zero row sum raises DZ, whatever stands above it. -/
def execMsfin (k : BitVec 2) (c : Fin 8) (s : State) : Host.Outcome State Fault Refusal :=
  issue (.msfin k c) (fun s => do
    ensureWord (!s.me.mfmt.getLsbD 5) .matFormat
    s.group (2 * c.val) 2
    let (y, s) ← s.readGroup (evenOf c) 2
    let sums := (s.me.z[zSum k]).toNat
    let (v, fl) := packedFl 32 (pairOrder.map (fun (e : Nat × Nat) =>
      rounded fp32 .rne false (Val.div (decodeVal fp32 (laneOf 32 y (16 * e.1 + e.2))) (decodeVal fp32 (laneOf 32 sums e.1)))))
    let zero := (List.range 16).any (fun r => (decodeVal fp32 (laneOf 32 sums r)).isZero)
    s.matIssue 8 (pairRegs c v) [] (if zero then fl ||| flDZ else fl)) s

/-- MZERO (10 R230). -/
def execMzero (k : BitVec 2) (s : State) : Host.Outcome State Fault Refusal :=
  issue (.mzero k) (fun s =>
    s.matIssue 8 [] [(zMax k, BitVec.ofNat 512 (packed 32 (List.replicate 16 negInf32))), (zSum k, 0)] 0) s

end Sys2Proof.Machine
end

