-- ==== Sys2Proof/Machine/Coll.lean ====
section
/-!
DEFINITION. Collectives (12_collective.md R258 to R274): handles and membership instructions, the issue of CRED, CBCAST and
CADJ, the reductions, and the writing of results at every live member.
-/

namespace Sys2Proof

/-! ## Reductions (12 Table 12-7, 00 R8) -/

/-- Pairwise (00 R8) with the level of each node. -/
def treeAt {α : Type} (f : Nat → α → α → α × Fl) : Nat → Nat → List (Option α) → Option α × Fl
  | _, _, [] => (none, 0)
  | _, _, [x] => (x, 0)
  | 0, _, x :: _ => (x, 0)
  | k + 1, lv, xs =>
    let (ys, g) := pairLevel (f lv) xs
    let (r, h) := treeAt f k (lv + 1) ys
    (r, g ||| h)

/-- A node of a sum: its value, the lowest slice under it, and the clamping node nearest the root below it as its level and
lowest slice. -/
structure Node where
  v : Val
  low : Nat
  clamp : Option (Nat × Nat) := none
  deriving DecidableEq, Repr

/-- A node's sum before a clamp: FP32 RNE, or an exact sum saturated to I32 with OF. -/
def nodeSum (isInt : Bool) (a b : Val) : Val × Fl :=
  if isInt then
    let (i, out) := clampInt (.int 32 true) (a.int + b.int)
    (.ofInt i, if out then flOF else 0)
  else
    let (v, g) := Val.add .rne a b
    let (c, h) := roundTo v fp32 .rne false
    (decodeVal fp32 c, g ||| h)

/-- floor and ceiling of a finite bound. -/
def Val.floorCeil (up : Bool) : Val → Int
  | .fin neg x =>
    let p : Int := (x.n * 2 ^ x.e.toNat : Nat)
    let q : Int := (x.d * 2 ^ (-x.e).toNat : Nat)
    let p := if neg then -p else p
    if up then -((-p) / q) else p / q
  | _ => 0

/-- The value clamped to [lo, hi], none if it lies inside. A NaN stays NaN. -/
def clampNode (isInt : Bool) (lo hi v : Val) : Option Val :=
  if isInt then
    let i := v.int
    match lo, hi with
    | .inf false, _ => some (.ofInt (Config.clampBeyond i))
    | _, .inf true => some (.ofInt (Config.clampBeyond i))
    | _, _ =>
      if hi ≠ .inf false ∧ i > hi.floorCeil false then some (.ofInt (hi.floorCeil false))
      else if lo ≠ .inf true ∧ i < lo.floorCeil true then some (.ofInt (lo.floorCeil true))
      else none
  else if v.isNan then none
  else if Val.cmp v hi > 0 then some hi
  else if Val.cmp v lo < 0 then some lo
  else none

/-- The clamp nearest the root of two; among equals the lowest slice. -/
def nearerRoot : Option (Nat × Nat) → Option (Nat × Nat) → Option (Nat × Nat)
  | some a, some b => some (if a.1 > b.1 ∨ (a.1 = b.1 ∧ a.2 ≤ b.2) then a else b)
  | some a, none => some a
  | none, b => b

/-- A node of SUM, or of SSUM with bounds. -/
def sumNode (isInt : Bool) (bounds : Option (Val × Val)) (lv : Nat) (x y : Node) : Node × Fl :=
  let (v, g) := nodeSum isInt x.v y.v
  let low := min x.low y.low
  match bounds.bind (fun (b : Val × Val) => clampNode isInt b.1 b.2 v) with
  | some w => ({ v := w, low := low, clamp := some (lv, low) }, g)
  | none => ({ v := v, low := low, clamp := nearerRoot x.clamp y.clamp }, g)

/-- The REWEIGHT scaling of a SUM (06 R133, 12 R267). -/
def reweigh (isInt : Bool) (n alive : Nat) (v : Val) : Val × Fl :=
  if isInt then
    let p : Int := v.int * n
    let (m, nx) := roundInt .rne (p < 0) { n := Int.natAbs p, d := alive }
    let (i, out) := clampInt (.int 32 true) (if p < 0 then -(m : Int) else m)
    (.ofInt i, (if nx then flNX else 0) ||| (if out then flOF else 0))
  else
    let (f, g) := roundTo (.fin false { n := n, d := alive }) fp32 .rne false
    let (p, h) := Val.mul v (decodeVal fp32 f)
    let (c, k) := roundTo p fp32 .rne false
    (decodeVal fp32 c, g ||| h ||| k)

/-- Inserts into a list sorted ascending and stably, NaN last (12 Table 12-7, MED). -/
def insertVal (e : Nat × Val) : List (Nat × Val) → List (Nat × Val)
  | [] => [e]
  | x :: rest =>
    if !e.2.isNan && (x.2.isNan || e.2.ltTotal x.2) then e :: x :: rest else x :: insertVal e rest

/-- A NaN as the canonical one. -/
def Val.canon (v : Val) : Val := if v.isNan then .nan false else v

/-- The chosen value of MAX, MIN and MED, and its slice. -/
def chosen (op : Nat) (xs : List (Nat × Val)) : Val × Nat :=
  let pick := if op = 3 then
      (xs.foldl (fun (l : List (Nat × Val)) (e : Nat × Val) => insertVal e l) [])[(xs.length - 1) / 2]?
    else match xs.find? (fun (e : Nat × Val) => e.2.isNan) with
      | some e => some e
      | none => xs.head?.map (fun (x : Nat × Val) => xs.foldl (fun (m e : Nat × Val) =>
          if (if op = 1 then m.2.ltTotal e.2 else e.2.ltTotal m.2) then e else m) x)
  match pick with
  | some e => (e.2.canon, e.1)
  | none => (.nan false, 0)

/-- One slice's share of an operation (12 R267): F, N, whether a witness is named, MODE, its elements and its bounds. -/
structure Part where
  slice : Nat
  op : Nat
  n : Nat
  wit : Bool
  mode : Nat
  isInt : Bool
  bits : Nat
  raws : List Nat
  vals : List Val
  lo : Nat
  hi : Nat
  deriving DecidableEq, Repr

/-- The result, witness and flags of one element from the values of the present slices, ascending (12 Table 12-7);
`slices` is SLICES and `count` is S. -/
def reduceElem (p : Part) (slices count : Nat) (xs : List (Nat × Val)) : Val × Nat × Fl :=
  if p.op = 0 ∨ p.op = 4 then
    let bounds := if p.op = 4 then some (decodeVal fp32 p.lo, decodeVal fp32 p.hi) else none
    let leaves := (List.range slices).map (fun i =>
      (xs.find? (fun (e : Nat × Val) => e.1 == i)).map (fun (e : Nat × Val) => ({ v := e.2, low := e.1 } : Node)))
    let (r, g) := treeAt (sumNode p.isInt bounds) 13 1 leaves
    let r := r.getD { v := .zero false, low := 0 }
    if p.op = 0 ∧ p.mode = 1 ∧ xs.length < count then
      let (v, h) := reweigh p.isInt count xs.length r.v
      (v, 0xFFFF, g ||| h)
    else (r.v, (match r.clamp with | some c => c.2 | none => 0xFFFF), g)
  else
    let (v, w) := chosen p.op xs
    (v, w, if xs.any (fun (e : Nat × Val) => e.2.sig) then flNV else 0)

/-- The columns of rows. -/
def columns : Nat → List (Nat × List Val) → List (List (Nat × Val))
  | 0, _ => []
  | n + 1, rows => rows.map (fun (e : Nat × List Val) => (e.1, e.2.headD (.zero false))) ::
      columns n (rows.map (fun (e : Nat × List Val) => (e.1, e.2.drop 1)))

/-- The results of every element. -/
def reduceAll (p : Part) (slices count : Nat) (parts : List Part) : List (Val × Nat × Fl) :=
  (columns p.n (parts.map (fun (q : Part) => (q.slice, q.vals)))).map (reduceElem p slices count)

end Sys2Proof

namespace Sys2Proof.Machine

/-! ## Groups and handles (12 R258 to R261) -/

/-- The member index of a die of this package (12 R258). -/
def State.member (s : State) (d : Nat) : Nat := s.pkgid.toNat * 8 + d % 8

/-- The die of this package that a member index names. -/
def State.memberDie (s : State) (m : Nat) : Option (Fin 8) := if m / 8 = s.pkgid.toNat then some (Fin.ofNat 8 m) else none

/-- Whether a member is of another package. -/
def State.farMember (s : State) (m : Nat) : Bool := (s.memberDie m).isNone

/-- A member puts messages on the ring (19 R359). -/
def State.ringSend (s : State) (src : Nat) (es : List Due) : State := { s with ring := s.ring ++ es.map (fun (e : Due) => (src, e)) }

/-- The due event that brings something to a member of this package; none to another package's. -/
def State.toMember (s : State) (m : Nat) (f : Fin 8 → Due) : List Due :=
  match s.memberDie m with
  | some d => [f d]
  | none => []

/-- The fabric agents send notes to members of other packages, each over a circuit that is up (20 R386; DESIGN CHOICE, assumption log 46). -/
def State.tellFar (s : State) (ms : List Nat) (f : Fin 8 → Due) : State :=
  { s with abroad := s.abroad ++ (ms.filter (fun m => s.farMember m && (s.circuitTo (m / 8)).isSome)).map (fun (m : Nat) =>
      (m / 8, Abroad.note (f (Fin.ofNat 8 m)))) }

/-- A member tells others: those of its package over the ring, those of others through the fabric agents (20 R386, R387). -/
def State.tell (s : State) (src : Nat) (ms : List Nat) (f : Fin 8 → Due) : State :=
  (s.ringSend src (ms.flatMap (fun m => s.toMember m f))).tellFar ms f

/-- A group by number. -/
def State.group_ (s : State) (n : Nat) : Option Group := s.groups.find? (fun g => g.num == n)

/-- Replaces a group. -/
def State.setGroup (s : State) (g : Group) : State := { s with groups := s.groups.map (fun x => if x.num = g.num then g else x) }

/-- The leader: the lowest live member (12 R258). -/
def leaderOf (live : List Nat) : Nat := live.foldl (fun (m x : Nat) => min m x) (live.headD 0)

/-- The group of a descriptor's address: the issuing panel's job first. -/
def State.groupAt (s : State) (desc : Nat) : Option Group :=
  let job := match s.myPanel with | some p => p.job | none => 0
  (s.groups.find? (fun g => g.desc == desc && g.job == job)).orElse (fun _ => s.groups.find? (fun g => g.desc == desc))

/-- A field of a handle's 64 bytes (12 Table 12-2). -/
def hand (h off n : Nat) : Nat := fld h (8 * off) (8 * n)

/-- A handle that has passed the checks of 12 R261. -/
structure Handle where
  key : Nat
  h : Nat
  grp : Group
  txb : Nat
  deriving DecidableEq, Repr

/-- MYSLOT. -/
def Handle.slice (x : Handle) : Nat := hand x.h 0x06 2
/-- MODE. -/
def Handle.mode (x : Handle) : Nat := hand x.h 0x0A 1
/-- SCOPE. -/
def Handle.scope (x : Handle) : Nat := hand x.h 0x0B 1
/-- TXB as a core address. -/
def Handle.bar (x : Handle) : Word := BitVec.ofNat 64 (hand x.h 0x0C 4)
/-- DESC. -/
def Handle.desc (x : Handle) : Nat := hand x.h 0x10 8
/-- STATUS. -/
def Handle.status (x : Handle) : Nat := hand x.h 0x1C 4
/-- STATE. -/
def Handle.st (x : Handle) : Nat := x.status % 16

/-- The checks that every COLL instruction makes first (12 R261). -/
def State.handle (s : State) (x : Word) : M Handle := do
  let key ← s.accessR x 64 64
  let h := s.load key 64
  ensure (decide (hand h 0x0A 1 ≤ 2) && decide (2 ≤ hand h 0x0B 1) && decide (hand h 0x0B 1 ≤ 4) && hand h 0x03 1 == 0 &&
    decide (hand h 0x0C 4 < 2 ^ 25) && decide (hand h 0x1C 4 < 128) && hand h 0x24 28 == 0) .engineReject x
  let t ← s.access (BitVec.ofNat 64 (hand h 0x0C 4)) 16 16
  match s.groupAt (hand h 0x10 8) with
  | none => raise .engineReject x
  | some g => return { key := key, h := h, grp := g, txb := t }

/-- The CLE writes a field of a handle (12 R260). -/
def State.setHand (s : State) (key off n v : Nat) : State := s.store none (key + off) n v

/-- STATUS ← (STATUS and not `clear`) or `set`. -/
def State.setHandStatus (s : State) (key clear set : Nat) : State :=
  let old := s.load (key + 0x1C) 4
  s.setHand key 0x1C 4 ((old &&& (127 ^^^ clear)) ||| set)

/-- The view descriptor as a membership instruction reads it (12 R261): VIEW, LIVE, SLICES. -/
def State.readView (s : State) (desc : Nat) : M (Nat × Nat × Nat × State) := do
  s.walker desc false
  match s.readVa s.at_ s.mine.ptbase s.mine.asid desc 0x14 with
  | .error f => .error (engTrap f (BitVec.ofNat 64 desc))
  | .ok (bs, s) =>
    let n := numOf bs
    .ok (hand n 0x04 3, hand n 0x0A 2, hand n 0x08 2, s)

/-- VIEW, MEMBERS and SLICES written into a handle (12 Table 12-5). -/
def State.writeView (s : State) (key : Nat) (v : Nat × Nat × Nat) : State :=
  ((s.setHand key 0x00 4 v.1).setHand key 0x04 2 v.2.1).setHand key 0x08 2 v.2.2

/-- The bytes of a group's view descriptor (12 Table 12-1). -/
def Group.bytes (g : Group) : List Byte :=
  bytesOf 4 g.num ++ bytesOf 4 g.view ++ bytesOf 2 g.slices ++ bytesOf 2 g.live.length ++ bytesOf 2 (leaderOf g.live) ++
    bytesOf 2 0 ++ bytesOf 4 g.commitSeq ++ List.replicate 44 0 ++
    bytesOf 512 (g.live.foldl (fun (n m : Nat) => n ||| 2 ^ m) 0) ++
    g.slice.flatMap (fun (e : Nat × Bool) => bytesOf 2 (e.1 % 4096 + b2n e.2 * 2 ^ 15))

/-- The leader's CLE writes `n` bytes of the descriptor from an offset (12 R259), through the tables of the panel that made it;
where they do not reach a byte it is not written. -/
def State.writeDesc (s : State) (g : Group) (off n : Nat) : State :=
  { s with mem := (((g.bytes.zipIdx).drop off).take n).foldl (fun (mem : List Host.Cell) (e : Byte × Nat) =>
      match s.walk g.ptbase g.asid (g.desc + e.2) false with
      | .ok t => match s.served (t.phys (g.desc + e.2)) with
        | some (key, _) => Memory.set mem key e.1
        | none => mem
      | .error _ => mem) s.mem }

/-! ## Membership instructions (12 R262, R263) -/

/-- Whether no member of the group, live or named by a slice, lies outside SCOPE (12 R262). -/
def State.inScope (s : State) (x : Handle) : Bool :=
  (x.grp.live ++ x.grp.slice.map (·.1)).all (fun m => if x.scope = 2 then m == s.member s.dieOf else if x.scope = 3 then m / 8 == s.pkgid.toNat else true)

/-- Whether the slice of a handle names the caller's die, is not retired and is live (12 Table 12-5). -/
def State.sliceHere (s : State) (x : Handle) : Bool :=
  match x.grp.slice[x.slice]? with
  | some (mem, retired) => mem == s.member s.dieOf && !retired && x.grp.live.contains mem && decide (x.slice < x.grp.slices)
  | none => false

/-- Whether a registration is the issuing context's own through a handle. -/
def State.ownJoin (s : State) (x : Handle) (j : Join) : Bool := j.core == s.at_ && j.slot == s.slot && j.handle == x.key

/-- Whether MYSLOT is free, or registered by a CJOIN of this context that has not completed (12 R261). -/
def State.mayJoin (s : State) (x : Handle) : Bool :=
  x.grp.joins.all (fun j => j.slice != x.slice || (j.joining && s.ownJoin x j))

/-- The registration of a slice replaced. -/
def Group.putJoin (g : Group) (j : Join) : Group := { g with joins := g.joins.filter (fun k => k.slice != j.slice) ++ [j] }

/-- The registration of the issuing context. -/
def State.joinOf (s : State) (x : Handle) : Join :=
  { slice := x.slice, core := s.at_, slot := s.slot, panel := s.panelNo, handle := x.key }

/-- CJOIN (12 R262): registers the slice, and completes when every non-retired slice on a live member has joined. -/
def execCjoin (g : Fin 32) (s : State) : Host.Outcome State Fault Refusal :=
  issueSelf (.cjoin g) (fun s0 => do
    let (a, s) ← s0.srcA g
    let x ← s.handle a
    ensure (x.st == 0 && s.sliceHere x && s.inScope x && s.mayJoin x) .engineReject a
    let (v, l, n, s) ← s.readView x.desc
    let g' := x.grp.putJoin { s.joinOf x with joining := true }
    let w := Wait.joined g'.num
    if (s.setGroup g').holds s.at_ s.slot w then
      let s := (s.setGroup (x.grp.putJoin (s.joinOf x))).writeView x.key (v, l, n)
      let s := ((s.setHand x.key 0x18 4 0).setHand x.key 0x20 4 0).setHandStatus x.key 0x1F 1
      return s.finish 4
    else return (s0.setGroup g').waits (.cjoin g) w) s

/-- CLEAVE (12 R262, R263). -/
def execCleave (g : Fin 32) (s : State) : Host.Outcome State Fault Refusal :=
  issue (.cleave g) (fun s => do
    let (a, s) ← s.srcA g
    let x ← s.handle a
    ensure (x.st == 1) .engineReject a
    waitFor (s.holds s.at_ s.slot (.left x.grp.num x.slice)) (.left x.grp.num x.slice)
    s.walker x.desc false
    let q := hand x.h 0x20 4
    let g' := { x.grp with
      slice := x.grp.slice.mapIdx (fun (i : Nat) (e : Nat × Bool) => if i = x.slice then (e.1, true) else e)
      joins := x.grp.joins.map (fun j => if j.slice = x.slice then { j with leftFrom := some q } else j) }
    let s := ((s.setGroup g').writeDesc g' (0x240 + 2 * x.slice) 2).setHandStatus x.key 0x0F 2
    return { s with agenda := s.agenda ++ [Due.cleOperationStart g'.num] }) s

/-- CVIEW (12 R262). -/
def execCview (g : Fin 32) (s : State) : Host.Outcome State Fault Refusal :=
  issue (.cview g) (fun s => do
    let (a, s) ← s.srcA g
    let x ← s.handle a
    ensure (x.st == 1 || x.st == 3 || x.st == 4) .engineReject a
    let (v, l, n, s) ← s.readView x.desc
    return (s.writeView x.key (v, l, n)).setHandStatus x.key 0x10 0) s

/-- CREJOIN (12 R262, R273): sends its JOIN to the leader once, and completes at the rejoin commit. STATE 4 is written when
the leader has received the JOIN (R261). The group's SLICE table must name the caller's die (20 R389; DEDUCED, assumption
log 74). -/
def execCrejoin (g : Fin 32) (s : State) : Host.Outcome State Fault Refusal :=
  issueSelf (.crejoin g) (fun s0 => do
    let (a, s) ← s0.srcA g
    let x ← s.handle a
    let own := x.grp.joins.find? (fun j => j.slice == x.slice && s.ownJoin x j && (j.rejoining || x.st == 4))
    ensure ((x.st == 0 || x.st == 3 || x.st == 4) && decide (x.slice < x.grp.slices) &&
      (own.isSome || (!x.grp.live.contains (s.member s.dieOf) && (x.grp.slice[x.slice]?).any (fun e => e.1 == s.member s.dieOf))) &&
      s.dieLive s.dieOf) .engineReject a
    let (v, l, n, s) ← s.readView x.desc
    let w := Wait.rejoined x.grp.num x.slice
    match own with
    | some j =>
      if j.rejoining then return s0.waits (.crejoin g) w
      else
        let s := (s.writeView x.key (v, l, n)).setHand x.key 0x20 4 j.rejoinAt
        return (s.setHandStatus x.key 0x1F 1).finish 4
    | none =>
      let s1 := s0.setGroup (x.grp.putJoin { s.joinOf x with rejoining := true })
      return (s1.tell (s1.member s1.dieOf) [leaderOf x.grp.live] (fun _ => Due.joinReceive x.grp.num x.slice)).waits (.crejoin g) w) s

/-! ## Issue of CRED, CBCAST and CADJ (12 R264 to R266) -/

/-- Check 3 of 12 Table 12-6 on MA and MB. -/
def collOwn (d : Desc) : List (Nat × Bool) :=
  [(0x08, d.space != 0), (0x0B, d.scaled || d.sparse || d.witness), (0x0C, d.window == 0)]
/-- Check 3 of 12 Table 12-6 on MW. -/
def witOwn (d : Desc) : List (Nat × Bool) :=
  [(0x08, d.space != 0), (0x0B, d.scaled || d.sparse || !d.witness), (0x0C, d.window % 256 != 0), (0x0D, d.window / 256 != 0)]

/-- The sizes of a map's dimensions. -/
def sizesOf (d : Desc) : List Nat := (List.range d.ndim).map (fun k => d.size k)

/-- N, the elements of a map. -/
def countOf (d : Desc) : Nat := (sizesOf d).foldl (fun (n k : Nat) => n * k) 1

/-- Whether a code is of an integer kind (12 R265). -/
def codeIsInt (c : Nat) : Bool := match Fmt.ofCode c with | some f => f.isInt | none => false

/-- Check 4 of 12 Table 12-6. -/
def collRejects (op : Nat) (ma mb : Desc) (mw : Option Desc) (same : Bool) (ca cb slices pend e : Nat) : Bool :=
  let lo := decodeVal fp32 mb.blo
  let hi := decodeVal fp32 mb.bhi
  sizesOf ma != sizesOf mb || (match mw with | some w => sizesOf w != sizesOf mb | none => false) || same ||
    decide (countOf mb > 65536) || codeIsInt ca != codeIsInt cb || (op == 3 && decide (slices > 64)) ||
    (op == 4 && (lo.isNan || hi.isNan || decide (Val.cmp lo hi > 0))) || decide (pend + e ≥ 2 ^ 40)

/-- Check 7 of 12 Table 12-6 on one map, in map order. -/
def State.sideChecks (s : State) (d : Desc) (bits : Nat) : List (List Nat) → M Unit
  | [] => .ok ()
  | ix :: rest => do
    let _ ← s.mapElem d false bits 0 ix
    s.sideChecks d bits rest

/-- The publish entries whose back ranges a command's results are aimed at (11 R254, R256, 12 R268). -/
def State.frontsColl (s : State) (cl : Nat) (sides : List (Desc × Nat)) : List Nat :=
  (sides.flatMap (fun (e : Desc × Nat) =>
    if e.1.publish then
      (boxIndices (sizesOf e.1)).filterMap (fun ix =>
        ((s.cluster cl).backOf ((wordOfInt (e.1.addr e.2 ix)).toNat % 2 ^ 25) (bytesOfBits e.2)).map
          (fun (b : Nat × Nat) => cl * 16 + b.1))
    else [])).eraseDups

/-- The kind of an operation F (12 Table 12-4). -/
def collKind (op : Nat) : CmdKind := match op with | 5 => .cbcast | 6 => .cadj | k => .cred (Fin.ofNat 5 k)

/-- The checks at issue (12 R261, R264) and the command with all that it captures (R266). -/
def State.captureColl (s : State) (op : Nat) (mbN maN : Fin 32) (mwN : Option (Fin 32)) (a : Word) : M Cmd := do
  let x ← s.handle a
  ensure (x.st == 1) .engineReject a
  let _ ← s.useMap maN (fun _ => [])
  let _ ← s.useMap mbN (fun _ => [])
  match mwN with
  | some k => let _ ← s.useMap k (fun _ => [])
  | none => .ok ()
  let ma ← s.useMap maN collOwn
  let mb ← s.useMap mbN collOwn
  let mw : Option Desc ← match mwN with
    | some k => (s.useMap k witOwn).map some
    | none => .ok none
  let ca := (s.me.winfmt[Fin.ofNat 16 ma.window]).toNat % 64
  let cb := (s.me.winfmt[Fin.ofNat 16 mb.window]).toNat % 64
  let n := countOf mb
  let e := n * codeBits cb / 8 + (if mwN.isSome && op != 6 then 2 * n else 0)
  ensure (!collRejects op ma mb mw (mwN == some mbN) ca cb x.grp.slices (barPend (s.load x.txb 16)) e) .engineReject a
  let wid := match mw with | some w => w.wid | none => 0
  let oper := wid % 16
  if op = 6 then
    ensure (ma.wid == wid) .witnessStale (BitVec.ofNat 64 (match mwN with | some k => k.val | none => 0))
    ensure (decide (1 ≤ oper) && decide (oper ≤ 4)) .engineReject a
  s.sideChecks ma (codeBits ca) (boxIndices (sizesOf ma))
  s.sideChecks mb (codeBits cb) (boxIndices (sizesOf mb))
  match mw with
  | some w => s.sideChecks w 16 (boxIndices (sizesOf w))
  | none => .ok ()
  let sides := (mb, codeBits cb) :: (match mw with | some w => if op = 6 then [] else [(w, 16)] | none => [])
  return {
    id := 0, kind := collKind op, engine := .cle (Fin.ofNat 8 s.dieOf), core := s.at_, slot := s.slot, panel := s.panelNo
    activation := s.me.act, dst := mb, src := ma, wit := mw.getD 0, dstSlot := mbN, witSlot := mwN, winfmt := s.me.winfmt
    winscale := s.me.winscale, boxAddr := x.key, tag := op * 2 ^ 25 + x.key % 2 ^ 25, bar := some x.txb, tval := x.bar
    total := e, fronts := s.frontsColl s.clus sides, srcPub := s.pubsOf [s.clus], ptbase := s.mine.ptbase
    asid := s.mine.asid, grp := x.grp.num, slice := x.slice, mode := x.mode }

/-- The map with WID set (12 R266). -/
def stampWid (d : Desc) (gen oper : Nat) : Desc := d.put 0x7C 4 (gen % 2 ^ 24 * 16 + oper)

/-- The WIDs of a command (12 R266). -/
def State.stampColl (s : State) (op : Nat) (m : Cmd) : State :=
  match (if op = 6 then none else m.witSlot) with
  | some k =>
    let g := (s.map m.dstSlot).wid / 16 % 2 ^ 24 + 1
    (s.setMap k (stampWid (s.map k) g op)).setMap m.dstSlot (stampWid (s.map m.dstSlot) g op)
  | none => s.setMap m.dstSlot (s.map m.dstSlot).bump

/-- The operation of a group's OPSEQ, if it is known. -/
def Group.op (g : Group) (q : Nat) : Option CollOp := g.ops.find? (fun o => o.opseq == q)

/-- The operation of an OPSEQ replaced or added. -/
def Group.putOp (g : Group) (o : CollOp) : Group :=
  { g with ops := if (g.op o.opseq).isSome then g.ops.map (fun p => if p.opseq = o.opseq then o else p) else g.ops ++ [o] }

/-- A captured command enters the CLE's inbox (12 R266): OPSEQ, the WIDs, PEND and the inbox, as one step. -/
def State.enqueueColl (op : Nat) (s : State) (m : Cmd) : State :=
  let q := s.load (m.boxAddr + 0x20) 4
  let s := s.store s.writer (m.boxAddr + 0x20) 4 (q + 1)
  let s := s.stampColl op m
  let s := match m.bar with
    | some k => s.updateBar none k (fun b => barExpect b m.total)
    | none => s
  let s := match s.group_ m.grp with
    | some g => if (g.op q).isSome then s else s.setGroup (g.putOp { opseq := q, born := g.view })
    | none => s
  ({ s with cmds := s.cmds ++ [{ m with id := s.names, opseq := q }], names := s.names + 1 }).enterBox m.engine s.names

/-- CRED, CBCAST and CADJ. -/
def collOp (i : Instr) (op : Nat) (mb ma : Fin 32) (mw : Option (Fin 32)) (g : Fin 32) (s : State) :
    Host.Outcome State Fault Refusal :=
  issueCommand i (State.srcA · g) (fun a s => s.captureColl op mb ma mw a) (State.enqueueColl op) s

/-- MW of a CRED: none is written 31 (05 Table 05-3), and a repeat that steps 30 to 31 reads so too (DESIGN CHOICE, assumption
log 82). -/
def mwOf (mw : Fin 32) : Option (Fin 32) := if mw = 31 then none else some mw

/-- CRED.SUM (12 R264 to R267). -/
def execCredSum (mb : Fin 32) (ma : Fin 32) (g : Fin 32) (s : State) : Host.Outcome State Fault Refusal :=
  collOp (.credSum mb ma g) 0 mb ma none g s

/-- CRED.MAX (12 R264 to R267). -/
def execCredMax (mw : Fin 32) (mb : Fin 32) (ma : Fin 32) (g : Fin 32) (s : State) : Host.Outcome State Fault Refusal :=
  collOp (.credMax mw mb ma g) 1 mb ma (mwOf mw) g s

/-- CRED.MIN (12 R264 to R267). -/
def execCredMin (mw : Fin 32) (mb : Fin 32) (ma : Fin 32) (g : Fin 32) (s : State) : Host.Outcome State Fault Refusal :=
  collOp (.credMin mw mb ma g) 2 mb ma (mwOf mw) g s

/-- CRED.MED (12 R264 to R267). -/
def execCredMed (mw : Fin 32) (mb : Fin 32) (ma : Fin 32) (g : Fin 32) (s : State) : Host.Outcome State Fault Refusal :=
  collOp (.credMed mw mb ma g) 3 mb ma (mwOf mw) g s

/-- CRED.SSUM (12 R264 to R267). -/
def execCredSsum (mw : Fin 32) (mb : Fin 32) (ma : Fin 32) (g : Fin 32) (s : State) : Host.Outcome State Fault Refusal :=
  collOp (.credSsum mw mb ma g) 4 mb ma (mwOf mw) g s

/-- CBCAST (12 R269). -/
def execCbcast (mb : Fin 32) (ma : Fin 32) (g : Fin 32) (s : State) : Host.Outcome State Fault Refusal :=
  collOp (.cbcast mb ma g) 5 mb ma none g s

/-- CADJ (12 R270); an MW that a repeat has stepped to 31 is slot m31 (DESIGN CHOICE, assumption log 82). -/
def execCadj (mw : Fin 32) (mb : Fin 32) (ma : Fin 32) (g : Fin 32) (s : State) : Host.Outcome State Fault Refusal :=
  collOp (.cadj mw mb ma g) 6 mb ma (some mw) g s

/-! ## Leaves (12 R265, R266) -/

/-- The operation F of a command; none for one that is not a collective. -/
def CmdKind.coll : CmdKind → Option Nat
  | .cred op => some op.val
  | .cbcast => some 5
  | .cadj => some 6
  | _ => none

/-- Whether a command takes part in an operation of a group and has not ended. -/
def Cmd.inOp (m : Cmd) (grp opseq : Nat) : Bool := m.kind.coll.isSome && m.grp == grp && m.opseq == opseq && !m.ended

/-- The codes of a side of a command with their scales, in map order. -/
def State.readSide (s : State) (m : Cmd) (d : Desc) (bits : Nat) : List (List Nat) → P (List (Nat × Option (Option Int)))
  | [] => .ok []
  | ix :: rest => do
    let r ← s.keysOf m d (d.addr bits ix) (bytesOfBits bits) false
    let v ← s.readKeys m r.keys
    let (sc, _) ← s.engScale m d bits ix
    let xs ← s.readSide m d bits rest
    return ((match nibOf bits ix with | some h => v / 16 ^ h % 16 | none => v), sc) :: xs

/-- What a root reads and keeps: MA for CBCAST, dy in MB for CADJ (12 R269, R270). -/
def State.readRoot (s : State) (m : Cmd) : P Cmd :=
  if m.rootRead then .ok m
  else match m.kind with
    | .cbcast => do
      let xs ← s.readSide m m.src m.srcBits (boxIndices (sizesOf m.src))
      return { m with values := xs.map (·.1), rootRead := true, srcRead := true }
    | .cadj => do
      let xs ← s.readSide m m.dst m.dstBits (boxIndices (sizesOf m.dst))
      return { m with values := xs.map (·.1), rootRead := true, srcRead := true }
    | _ => .ok m

/-- The sources that a member reads when its command starts: CRED its MA; CADJ its MW; and what the root reads. What has been
read once is kept (12 R266). A member that is not the root may become it, and reads then (R269), so its reads are not over
for FENCE.E until the operation has ended (13 R290; DEDUCED, assumption log 75). -/
def State.readLeaf (s : State) (m : Cmd) (root : Bool) : P Cmd :=
  match m.kind with
  | .cred _ =>
    if m.srcRead then .ok m
    else do
      let xs ← s.readSide m m.src m.srcBits (boxIndices (sizesOf m.src))
      match Fmt.ofCode (((m.winfmt[Fin.ofNat 16 m.src.window]).toNat) % 64) with
      | some f => return { m with leaf := xs.map (fun (e : Nat × Option (Option Int)) => scaledVal f e.1 e.2), srcRead := true }
      | none => return { m with srcRead := true }
  | .cbcast => if root then s.readRoot m else .ok m
  | _ => do
    let ws ← if m.wits.isEmpty then s.readSide m m.wit 16 (boxIndices (sizesOf m.wit)) else .ok []
    let m := if m.wits.isEmpty then { m with wits := ws.map (·.1) } else m
    if root then s.readRoot m else return m

/-- A command's share. -/
def Cmd.part (m : Cmd) : Part where
  slice := m.slice
  op := m.kind.coll.getD 0
  n := countOf m.dst
  wit := m.witSlot.isSome
  mode := m.mode
  isInt := codeIsInt ((m.winfmt[Fin.ofNat 16 m.src.window]).toNat % 64)
  bits := match m.kind with | .cadj => m.dstBits | _ => m.srcBits
  raws := m.values
  vals := m.leaf
  lo := m.dst.blo
  hi := m.dst.bhi

/-- The share of a slice on another package. -/
def leafPart (x : Leaf) (slice : Nat) : Part where
  slice := slice
  op := x.op
  n := x.n
  wit := x.wit
  mode := x.mode
  isInt := codeIsInt x.code
  bits := codeBits x.code
  raws := x.values
  vals := match Fmt.ofCode x.code with | some f => x.values.map (decodeVal f) | none => []
  lo := x.lo
  hi := x.hi

/-! ## Who is present (12 R267, 17 R307) -/

/-- Whether a slice is RETIRED for an operation (12 R263). -/
def Group.retiredAt (g : Group) (slice opseq : Nat) : Bool :=
  match g.slice[slice]?, g.joins.find? (fun j => j.slice == slice) with
  | some (_, r), some j => match j.leftFrom with | some q => decide (q ≤ opseq) | none => r
  | some (_, r), none => r
  | none, _ => true

/-- Whether a slice is present under a set of members; one whose core alone is down counts as
absent (17 R307); that of a lost die stays until a commit removes its member (12 R272). -/
def State.present (s : State) (g : Group) (live : List Nat) (opseq slice : Nat) : Bool :=
  match g.slice[slice]? with
  | some (mem, _) => !g.retiredAt slice opseq && live.contains mem &&
      (match g.joins.find? (fun j => j.slice == slice) with
        | some j => !s.dieLive (j.core / 1024) || s.serves j.core j.panel
        | none => true)
  | none => false

/-- The present slices, ascending. -/
def State.presentSlices (s : State) (g : Group) (live : List Nat) (opseq : Nat) : List Nat :=
  (List.range g.slices).filter (s.present g live opseq)

/-! ## Ending an operation (12 R268 to R272) -/

/-- The state after an abandoned command of an operation (12 R272, 11 R253): LASTAB, its witness slot's generation counted
again, and the rest of its bytes at the barrier; of a parked one, once it goes on (17 R319). -/
def State.abandonColl (s : State) (m : Cmd) (st : BitVec 8) : State :=
  if m.ended then s else if s.coreDown m.core then s.setCmd { m with state := .failed st }
  else if m.state = .parked then s.setCmd { m with fail := some (m.fail.getD st) } else
  let s := match m.kind, m.witSlot with
    | .cred _, some k =>
      let c := s.core m.core
      s.setCore m.core { c with maps := c.maps.set k (c.maps[k]).bump }
    | _, _ => s
  (s.setHandStatus m.boxAddr 0x60 0x40).abandon m st

/-- The group's operation has ended. -/
def State.endOp (s : State) (grp opseq : Nat) : State :=
  match s.group_ grp with
  | some g => match g.op opseq with
    | some o => s.setGroup (g.putOp { o with ended := true })
    | none => s
  | none => s

/-- Abandons every command of an operation. -/
def State.abandonOp (s : State) (grp opseq : Nat) (st : BitVec 8) : State :=
  (s.cmds.filter (fun m => m.inOp grp opseq)).foldl (fun (s : State) (m : Cmd) => s.abandonColl m st) (s.endOp grp opseq)

/-- A result encoded for MB (12 R268): the bound check of 10 R220, then one rounding, an integer saturating with OF; BOUND where
the check traps. -/
def Cmd.encode (m : Cmd) (r : Val) (dscale : Option (Option Int)) : P (Nat × Fl) :=
  match Fmt.ofCode ((m.winfmt[Fin.ofNat 16 m.dst.window]).toNat % 64) with
  | none => .ok (0, 0)
  | some t =>
    let (rnd, sat) := m.dstRound
    let bd := m.dst.bound r
    if bd.traps then engFail 0x17
    else
      let (c, g) := storeVal t (bd.clamped.getD r) dscale rnd sat
      let whole := codeIsInt ((m.winfmt[Fin.ofNat 16 m.src.window]).toNat % 64) && t.isInt && dscale.isNone && bd.clamped.isNone
      .ok (c, bd.flags ||| (if whole ∧ g &&& flNV ≠ 0 then flOF else g))

/-- The codes of a CRED's results for a member, with their flags. -/
def State.encodeAll (s : State) (m : Cmd) : List (List Nat) → List (Val × Nat × Fl) → P (List Nat × Fl)
  | ix :: rest, r :: rs => do
    let (sc, _) ← s.engScale m m.dst m.dstBits ix
    let (c, g) ← m.encode r.1 sc
    let (cs, h) ← s.encodeAll m rest rs
    return (c :: cs, g ||| h)
  | _, _ => .ok ([], 0)

/-- The bytes to write for codes of a side, in its shadow where it publishes (11 R254, 12 R268). -/
def State.sidePuts (s : State) (m : Cmd) (d : Desc) (bits : Nat) : List (List Nat) → List Nat → P (List Put)
  | ix :: rest, c :: cs => do
    let r ← s.dstSpot m d bits ix
    let ps := (piecesOf bits (nibOf bits ix) c 0 r.keys).filterMap (·.put)
    let qs ← s.sidePuts m d bits rest cs
    return ps ++ qs
  | _, _ => .ok []

/-- What a member is to write: its codes, its witnesses. -/
structure Result where
  codes : List Nat
  wits : List Nat := []
  deriving DecidableEq, Repr

/-- The results land at one member (12 R268), and change nothing of a down core (17 R307): MB, MW, the handle's STATUS, then the credits with the flags (R260). -/
def State.landColl (s : State) (m : Cmd) (r : Result) (flags : Fl) (rw : Bool) : State :=
  if s.coreDown m.core then s.setCmd { m with state := .done } else
  let puts : P (List Put) := do
    let a ← s.sidePuts m m.dst m.dstBits (boxIndices (sizesOf m.dst)) r.codes
    let b ← if r.wits = [] then .ok [] else s.sidePuts m m.wit 16 (boxIndices (sizesOf m.wit)) r.wits
    return a ++ b
  match puts with
  | .error (.fault f) => s.abandonColl m f.status
  | .error (.walk _ _) => s.abandonColl m 0x10
  | .ok ps =>
    let s := s.writeSector { n := 0, puts := ps, target := none, credit := 0, flags := 0 }
    let s := s.setHandStatus m.boxAddr 0x60 (if rw then 0x20 else 0)
    let s := match m.bar with
      | some k => s.updateBar none k (fun b => barCredit b m.total flags)
      | none => s
    let s := if flags &&& flBND = 0 then s else s.suspectCore m.core 4
    s.setCmd { m with state := .done, srcRead := true }

/-- The codes that a raw move writes at a member: bits of another size than the root's are foreign, and read as free values
(12 R269; DESIGN CHOICE, assumption log 3). -/
def foreign (fresh bits : Nat) (p : Part) : List Nat :=
  p.raws.zipIdx.map (fun (e : Nat × Nat) => if p.bits = bits then e.1 else (Config.freeWord (fresh + e.2)).toNat % 2 ^ bits)

/-- What a member of CBCAST and CADJ writes (12 R269, R270). -/
def rawResult (fresh : Nat) (root : Part) (m : Cmd) : Result :=
  let dy := foreign fresh m.dstBits root
  match m.kind with
  | .cadj => { codes := (dy.zip m.wits).map (fun (e : Nat × Nat) =>
      if (if m.wit.wid % 16 = 4 then e.2 == 0xFFFF else e.2 == m.slice) then e.1 else 0) }
  | _ => { codes := dy }

/-- Each member's results, or why it writes none, and the flags of them all (12 R268). -/
def State.results (s : State) (root : Part) (red : List (Val × Nat × Fl)) (m : Cmd) : P (Result × Fl) :=
  match m.kind with
  | .cred _ => do
    let (cs, g) ← s.encodeAll m (boxIndices (sizesOf m.dst)) red
    return ({ codes := cs, wits := if m.witSlot.isSome then red.map (fun (e : Val × Nat × Fl) => e.2.1) else [] }, g)
  | _ => .ok (rawResult s.fresh root m, 0)

/-- The CLE of this package that writes the results of an operation of some members: the leader's, or where its die is lost the lowest
other's (12 R272; DESIGN CHOICE, assumption log 10); none where the leader is of another package. -/
def State.resultsFrom (s : State) (live : List Nat) : Option (Fin 8) :=
  (s.memberDie (leaderOf live)).bind (fun d => if s.dieLive d.val then some d else (live.filterMap s.memberDie).find? (fun e => s.dieLive e.val))

/-- The results go to one member (12 R268): on the writing CLE's own die they land at once, to another die they go in packets (19 R358,
R362); at a parked command they wait for it (17 R319). Those of a leader of another package come over the fabric. -/
def State.giveResult (s : State) (src : Option (Fin 8)) (m : Cmd) (r : Result) (flags : Fl) (rw : Bool) : State :=
  let t := s.setCmd { m with outcome := some (r.codes, r.wits, flags, rw) }
  if m.state = .parked then t
  else match src with
    | some d =>
      if d.val = m.core / 1024 then s.landColl m r flags rw
      else t.sendParts (agentOf (.cle d)) m.core (fun last => .result m.id last)
        (r.codes.flatMap (bytesOf (bytesOfBits m.dstBits)) ++ r.wits.flatMap (bytesOf 2)) none
    | none => s.landColl m r flags rw

/-- The results go to every member of a list. -/
def State.landAll (s : State) (src : Option (Fin 8)) (flags : Fl) (rw : Bool) : List (Cmd × P (Result × Fl)) → State
  | [] => s
  | (m, r) :: rest =>
    (match r with
      | .ok (x, _) => s.giveResult src m x flags rw
      | .error (.fault f) => s.abandonColl m f.status
      | .error (.walk _ _) => s.abandonColl m 0x10).landAll src flags rw rest

/-- The shares of the present slices, in slice order. -/
def State.parts (s : State) (g : Group) (o : CollOp) (slices : List Nat) : List Part :=
  slices.filterMap (fun i =>
    match s.cmds.find? (fun m => m.inOp g.num o.opseq && m.slice == i) with
    | some m => some m.part
    | none => (o.away.find? (fun (e : Nat × Leaf) => e.1 == i)).map (fun (e : Nat × Leaf) => leafPart e.2 i))

/-- The root of an operation, if its command is of this package, with what it reads as root (12 R269, R270): a slice that
became the root reads now. -/
def State.withRoot (s : State) (g : Group) (o : CollOp) (slices : List Nat) : P State :=
  match slices.head?.bind (fun i => s.cmds.find? (fun m => m.inOp g.num o.opseq && m.slice == i)) with
  | some m => do
    let m ← s.readRoot m
    return s.setCmd m
  | none => .ok s

/-- The operation is computed from the shares of the present slices, and ends at every member (12 R267 to R272). `view` says
that a commit has come over it. -/
def State.computeOp (s : State) (g : Group) (o : CollOp) (slices : List Nat) (view rw : Bool) : State :=
  let ms := s.cmds.filter (fun m => m.inOp g.num o.opseq)
  let here := ms.filter (fun m => slices.contains m.slice)
  let gone := ms.filter (fun m => !slices.contains m.slice)
  let s := gone.foldl (fun (s : State) (m : Cmd) => s.abandonColl m 0x18) s
  let ps := s.parts g o slices
  match ps with
  | [] => s.abandonOp g.num o.opseq 0x18
  | root :: rest =>
    if rest.any (fun (p : Part) => p.op != root.op || p.n != root.n || p.wit != root.wit || p.mode != root.mode) then
      s.abandonOp g.num o.opseq 0x19
    else
      let count := ((List.range g.slices).filter (fun i => !g.retiredAt i o.opseq)).length
      let red := if root.op < 5 then reduceAll root g.slices count ps else []
      let outs := here.map (fun (m : Cmd) => (m, s.results root red m))
      let flags : Fl := outs.foldl (fun (f : Fl) (e : Cmd × P (Result × Fl)) =>
        match e.2 with | .ok (_, h) => f ||| h | .error _ => f)
        (red.foldl (fun (f : Fl) (e : Val × Nat × Fl) => f ||| e.2.2) 0)
      let s := if view then here.foldl (fun (s : State) (m : Cmd) => match m.bar with
          | some k => s.updateBar none k (fun b => barError b 0x18)
          | none => s) s
        else s
      let s := { s with fresh := s.fresh + root.n }
      (s.landAll (s.resultsFrom (if o.started then o.live else g.live)) flags rw outs).endOp g.num o.opseq

/-- An operation ends; where its root cannot read, every member's share is abandoned (DESIGN CHOICE, assumption log 75). -/
def State.finishOp (s : State) (g : Group) (o : CollOp) (slices : List Nat) (view rw : Bool) : State :=
  match s.withRoot g o slices with
  | .ok s => s.computeOp g o slices view rw
  | .error (.fault f) => s.abandonOp g.num o.opseq f.status
  | .error (.walk _ _) => s.abandonOp g.num o.opseq 0x10

/-- A started operation whose every present slice has been combined ends (12 R267), unless a command of it is parked (17 R319). -/
def State.tryOp (s : State) (g : Group) (o : CollOp) : State :=
  let slices := s.presentSlices g o.live o.opseq
  if o.started && !o.ended && slices.all (fun i => o.arrived.contains i) &&
      s.cmds.all (fun m => !m.inOp g.num o.opseq || m.state != .parked) then
    s.finishOp g o slices false o.rw
  else s

end Sys2Proof.Machine
end

