-- ==== Sys2Proof/Machine/Pop.lean ====
section
/-!
DEFINITION. The population (12_collective.md R277 to R282): FITSET, POPCMD, MIGRATE and MUTCOPY, the Atelier's rounds, and
the end of a migration.
-/

namespace Sys2Proof.Machine

/-- An event that comes about only while its occasion exists (DESIGN CHOICE, assumption log 7). -/
def event (name : String) (ok : Bool) (f : State → State) (s : State) : Host.Outcome State Fault Refusal :=
  if ok then .next (f s) else .fault (.notEnabled name)


/-- FITSET (12 R277). -/
def execFitset (b : Fin 32) (a : Fin 32) (s : State) : Host.Outcome State Fault Refusal :=
  issue (.fitset b a) (fun s => do
    let (x, s) ← s.srcA a
    let (y, s) ← s.srcB b
    return s.setMine { s.mine with fitness := x.truncate 32, fitgen := y.truncate 32 }) s

/-! ## POPCMD (12 R278) -/

/-- A field of a 64-byte record. -/
def rec64 (b : BitVec 512) (off n : Nat) : Nat := fld b.toNat (8 * off) (8 * n)

/-- The limits of a population command (12 R278, Table 12-15); FLAGS[7:1] are ignored (00 R1). -/
def popOk (b : BitVec 512) : Bool :=
  let len := rec64 b 0x0C 4
  let n := rec64 b 0x28 4
  rec64 b 0x00 1 == 1 && decide (rec64 b 0x1E 1 ≤ 47) && (rec64 b 0x01 1 == 0x1C || rec64 b 0x01 1 == 0x20) &&
    decide (rec64 b 0x1C 1 ≤ 63) && len != 0 && len % 64 == 0 && decide (rec64 b 0x08 4 + len ≤ 0x70000) &&
    decide (rec64 b 0x10 4 + len ≤ 0x70000) && rec64 b 0x20 8 % 32 == 0 && decide (rec64 b 0x20 8 < 2 ^ 55) &&
    (List.range 21).any (fun k => n == 2 ^ k) && rec64 b 0x1F 1 == 0 && rec64 b 0x2C 20 == 0

/-- The Atelier admits a population command: for ENDH and FENCE.E it has then completed (12 R278). -/
def State.enqueuePop (s : State) (m : Cmd) : State :=
  { s with
    cmds := s.cmds ++ [{ m with id := s.names, state := .done }], names := s.names + 1
    atelierBox := s.atelierBox ++ [s.names], agenda := s.agenda ++ [Due.atelierRoundStart] }

/-- A command of the issuing context, all its own fields still to set. -/
def State.baseCmd (s : State) (kind : CmdKind) (e : Engine) : Cmd :=
  { id := 0, kind := kind, engine := e, core := s.at_, slot := s.slot, panel := s.panelNo, activation := s.me.act
    ptbase := s.mine.ptbase, asid := s.mine.asid }

/-- POPCMD (12 R278). -/
def execPopcmd (a : Fin 32) (s : State) : Host.Outcome State Fault Refusal :=
  issueCommand (.popcmd a) (State.srcA · a) (fun x s => do
    let key ← s.accessR x 64 64
    let b := BitVec.ofNat 512 (s.load key 64)
    ensure (popOk b) .engineReject x
    return { s.baseCmd .popcmd .atelier with
      box := b, tval := x, srcRead := true, tag := 2 ^ 25 + x.toNat % 2 ^ 25 }) State.enqueuePop s

/-! ## MIGRATE and MUTCOPY (12 R280) -/

/-- The number of the panel that is resident at a core when a command issues (17 R308); no panel has the number 2^32. -/
def State.residentAt (s : State) (c : Nat) : Nat :=
  match s.panelAt c with | some p => if p.resident then p.num else 2 ^ 32 | none => 2 ^ 32

/-- The limits of a migration descriptor (12 Table 12-17); CCLASS and CPRIO are MIGRATE's. -/
def State.migOk (s : State) (b : BitVec 512) (mu : Bool) : Bool :=
  let src := rec64 b 0x08 4
  let len := rec64 b 0x0C 4
  decide (rec64 b 0x00 2 < 2 ^ 13) && len % 64 == 0 && decide (64 ≤ len) && decide (len ≤ 0x70000) && decide (src < 2 ^ 25) &&
    s.inPanel (s.clus * 64 + src / 2 ^ 19) && decide (src % 2 ^ 19 + len ≤ 0x70000) && decide (rec64 b 0x10 4 < 2 ^ 25) &&
    (rec64 b 0x14 1 == 0x1C || rec64 b 0x14 1 == 0x20) &&
    (if mu then !bitOf (rec64 b 0x04 4) 1 && rec64 b 0x02 2 == s.pkgid.toNat && s.inPanel (rec64 b 0x00 2)
     else decide (rec64 b 0x24 1 ≤ 63) && decide (rec64 b 0x25 1 ≤ 47))

/-- The checks of a CME command and all that it captures (12 R280); the panel resident at a core of another package is not in this
package's state (17 R308; DESIGN CHOICE, assumption log 3). -/
def State.captureMig (s : State) (mu : Bool) (a : Word) (bar : Word) : M Cmd := do
  let key ← s.accessR a 64 64
  let b := BitVec.ofNat 512 (s.load key 64)
  ensure (s.migOk b mu) .engineReject a
  let k ← if mu then (match s.access bar 16 16 with | .ok k => .ok (some k) | .error _ => raise .engineReject a) else .ok none
  let t := rec64 b 0x00 2
  let own := rec64 b 0x02 2 == s.pkgid.toNat
  ensure (!(own && s.inPanel t && s.coreDown t)) .panelDown a
  let m : Cmd := { s.baseCmd (if mu then .mutcopy else .migrate) (.cme (Fin.ofNat 8 s.dieOf)) with
    box := b, tval := if mu then bar else a, bar := k, total := rec64 b 0x0C 4, source := s.at_, target := t
    targetPanel := if own then s.residentAt t else Config.panelAbroad (rec64 b 0x02 2) t, tag := (if mu then 3 else 2) * 2 ^ 25 + a.toNat % 2 ^ 25, srcPub := s.pubsOf [s.clus] }
  return { m with fronts := s.frontsOf m }

/-- A captured CME command enters its inbox; MUTCOPY counts LEN bytes at its barrier (12 R282). -/
def State.enqueueMig (s : State) (m : Cmd) : State :=
  let s := match m.bar with
    | some k => s.updateBar none k (fun b => barExpect b m.total)
    | none => s
  ({ s with cmds := s.cmds ++ [{ m with id := s.names }], names := s.names + 1 }).enterBox m.engine s.names

/-- MIGRATE (12 R280). -/
def execMigrate (a : Fin 32) (s : State) : Host.Outcome State Fault Refusal :=
  issueCommand (.migrate a) (State.srcA · a) (fun x s => s.captureMig false x 0) State.enqueueMig s

/-- MUTCOPY (12 R280). -/
def execMutcopy (b : Fin 32) (a : Fin 32) (s : State) : Host.Outcome State Fault Refusal :=
  issueCommand (.mutcopy b a) (fun s => do
    let (x, s) ← s.srcA a
    let (y, s) ← s.srcB b
    return ((x, y), s)) (fun a s => s.captureMig true a.1 a.2) State.enqueueMig s

/-! ## Messages composed by engines (03 R45, 19 R356) -/

/-- A message of KIND 0 that an engine composes for a core of a panel: cross-die (03 R45). -/
def engineMsg (e : Engine) (panel dest cls prio : Nat) (payload : List Byte) : Msg where
  h0 := mkHdr payload.length prio cls 0 dest
  h1 := 0
  payload := payload
  panel := panel
  cross := true
  src := agentOf e
  srcSlot := none
  at_ := 0

/-! ## Admission (03 R48) -/

/-- A core admits a message: inbox, monitors, waiters for an event (03 R48, 08 R176, 18 R339), then dispatch (03 R50). -/
def State.takeIn (s : State) (c : Nat) (m : Msg) : State :=
  let k := s.core c
  let s := s.setCore c { k with
    inbox := k.inbox ++ [{ m with at_ := s.cycle }], admits := k.admits + 1
    ctxs := k.ctxs.map (fun x => { x with mon := x.mon.map (fun w => { w with posted := true }) }) }
  s.dispatch c

/-! ## The end of a migration (12 R282) -/

/-- The descriptor as delivered: the source core and package written in (12 Table 12-17). -/
def State.delivered (s : State) (m : Cmd) : List Byte :=
  let b := bytesOf 64 m.box.toNat
  b.take 0x28 ++ bytesOf 2 m.core ++ bytesOf 2 s.pkgid.toNat ++ b.drop 0x2C

/-- The CME zeroes the source region (12 R282). -/
def State.zeroSource (s : State) (m : Cmd) : State :=
  s.putBytes none (m.core / 64 * 2 ^ 25 + m.mig 0x08 4) (List.replicate (m.mig 0x0C 4) 0)

/-- The message of a MIGRATE to its target core (12 R282). -/
def State.migMsg (s : State) (m : Cmd) : Msg :=
  { engineMsg m.engine m.targetPanel m.target (m.mig 0x24 1) (m.mig 0x25 1) (s.delivered m) with cmd := some m.id }

/-- A MIGRATE whose sectors are all performed sends its message (12 R282, step 2), as a packet of the CME (19 R358). -/
def State.migrated (s : State) (m : Cmd) : State :=
  let msg := s.migMsg m
  (s.setCmd { m with srcRead := true, sent := true }).sendPacket msg.src m.target (.message msg) msg.payload (s.away m)

/-- The end of a MIGRATE once its message has been admitted (12 R282, steps 3 and 4): a retired source is zeroed, and DONE is
posted. A refusal is reported in the completion word (03 R53), and the source is then kept. -/
def State.migEnd (s : State) (id : Nat) (refusal : Option Nat) : State :=
  match s.cmd id with
  | none => s
  | some m =>
    let s := s.setCmd { m with state := .done, srcRead := true }
    match refusal with
    | some st => s.postWord m.core m.slot (m.word (BitVec.ofNat 8 st))
    | none =>
      let s := if bitOf (m.mig 0x04 4) 1 then s.zeroSource m else s
      s.postWord m.core m.slot (m.word 0)

/-- MIGRATE_COMPLETE (12 R282): every sector is performed, and the target is told. -/
def execMigrateComplete (cmd : Nat) (s : State) : Host.Outcome State Fault Refusal :=
  event "MIGRATE_COMPLETE" (match s.cmd cmd with
      | some m => decide (m.kind = CmdKind.migrate) && m.state == .running && m.sectors.isEmpty && m.srcRead && !m.sent
      | none => false)
    (fun s => match s.cmd cmd with | some m => s.migrated m | none => s) s

/-! ## Rounds (12 R279) -/

/-- Whether a candidate ranks before another: by FITNESS descending, −0 = +0, NaN last, then by core id (12 R279). -/
def ranksBefore (a b : Nat × BitVec 32) : Bool :=
  let x := decodeVal fp32 a.2.toNat
  let y := decodeVal fp32 b.2.toNat
  if x.isNan then y.isNan && decide (a.1 < b.1)
  else if y.isNan then true
  else decide (Val.cmp x y > 0) || (Val.cmp x y == 0 && decide (a.1 < b.1))

/-- Inserts a candidate in rank order. -/
def rankInsert (e : Nat × BitVec 32) : List (Nat × BitVec 32) → List (Nat × BitVec 32)
  | [] => [e]
  | x :: rest => if ranksBefore e x then e :: x :: rest else x :: rankInsert e rest

/-- The candidates of a round in rank order. -/
def State.ranked (s : State) (p : Panel) (gen : Nat) : List (Nat × BitVec 32) :=
  ((p.cores.filter (fun c => (s.core c).fitgen.toNat == gen)).map (fun c => (c, (s.core c).fitness))).foldl
    (fun (l : List (Nat × BitVec 32)) (e : Nat × BitVec 32) => rankInsert e l) []

/-- The pairs of a round: rank i and rank L − 1 − i (12 R279). -/
def pairsOf (ranks : List (Nat × BitVec 32)) (n seed : Nat) : List Pair :=
  (List.range (min n (ranks.length / 2))).map (fun i =>
    let w := ranks.getD i (0, 0)
    let l := ranks.getD (ranks.length - 1 - i) (0, 0)
    { winner := w.1, loser := l.1, seed := BitVec.ofNat 32 (seed + i), fwin := w.2, flose := l.2 })

/-- The Atelier's quiesce mask of a core (12 R279, 18 R341). -/
def State.setAtq (s : State) (c : Nat) (m : BitVec 8) : State := s.setCore c { s.core c with atq := m }

/-- A core goes on after a quiesce mask has been lifted (18 R342): stopped contexts that no mask names continue, and the core
dispatches. -/
def State.wake (s : State) (c : Nat) : State :=
  match s.panelAt c with
  | none => s
  | some p =>
    if p.dispatches then
      let k := s.core c
      let s := s.setCore c { k with ctxs := k.ctxs.mapIdx (fun (i : Nat) (x : Ctx) =>
        if x.run == .stopped && !(k.swq ||| k.atq).getLsbD i then { x with run := .ready } else x) }
      s.dispatch c
    else s

/-- The Atelier lifts its mask of a core. -/
def State.freeAtq (s : State) (c : Nat) : State := (s.setAtq c 0).wake c

/-- A pair's lineage record (12 Table 12-16). -/
def lineageRec (pkg gen seq sigma : Nat) (mu : Bool) (p : Pair) : List Byte :=
  bytesOf 4 gen ++ bytesOf 2 p.loser ++ bytesOf 2 p.winner ++ bytesOf 4 p.seed.toNat ++ bytesOf 4 sigma ++
    bytesOf 4 p.fwin.toNat ++ bytesOf 4 p.flose.toNat ++ bytesOf 4 seq ++ bytesOf 2 pkg ++
    bytesOf 2 (b2n (mu && !p.failed) + 2 * b2n p.failed)

/-- The record of pair `i` of a round. -/
def State.record (s : State) (m : Cmd) (r : Round) (i : Nat) (p : Pair) : List Byte :=
  lineageRec s.pkgid.toNat (rec64 m.box 0x04 4) (r.firstSeq + i) (rec64 m.box 0x18 4) (bitOf (rec64 m.box 0x1D 1) 0) p

/-- Writes a record into the ring (12 R279): none on a translation fault or an uncorrectable error. -/
def State.writeRecord (s : State) (m : Cmd) (seq : Nat) (bs : List Byte) : Option State :=
  let va := rec64 m.box 0x20 8 + 32 * (seq % 2 ^ 32 % rec64 m.box 0x28 4)
  match s.reach m.core m.ptbase m.asid va true with
  | .error _ => none
  | .ok (key, s) => if s.poisoned key then none else some { s with mem := Memory.put s.mem key bs }

/-- A message that the Atelier composes for a round: a refusal is reported in the round's completion word (03 R53; DESIGN
CHOICE, assumption log 69). -/
def roundMsg (m : Cmd) (dest : Nat) (payload : List Byte) : Msg :=
  { engineMsg .atelier m.panel dest (rec64 m.box 0x1C 1) (rec64 m.box 0x1E 1) payload with back := some (m.core, m.slot, m.word 0) }

/-- The Atelier takes the head of its inbox next. -/
def State.atelierNext (s : State) : State :=
  match s.atelierHead with
  | some m => { s with agenda := s.agenda ++
      [if m.kind = CmdKind.popcmd then Due.atelierRoundStart else Due.engineCommandStart .atelier] }
  | none => s

/-- The round has ended (12 R279): the summary goes to the issuing core, and the next command is due. -/
def State.endRound (s : State) (m : Cmd) (r : Round) : State :=
  let failed := (r.pairs.filter Pair.failed).length
  let payload := bytesOf 4 (rec64 m.box 0x04 4) ++ bytesOf 4 r.pairs.length ++
    bytesOf 4 (failed % 2 ^ 16 + r.unwritten % 2 ^ 16 * 2 ^ 16) ++ bytesOf 4 r.firstSeq
  let s := s.sendMsg (roundMsg m m.core payload)
  { s with round := none, atelierBox := s.atelierBox.filter (fun i => i != m.id), cmds := s.cmds.filter (fun x => x.id != m.id) }.atelierNext

/-- Writes the records of finished pairs in pair order, and ends the round after the last. -/
def State.logRound (s : State) (m : Cmd) : Nat → Round → State
  | 0, r => { s with round := some r }
  | n + 1, r =>
    match r.pairs[r.logged]? with
    | none => s.endRound m r
    | some p =>
      if p.finished then
        let seq := r.firstSeq + r.logged
        match s.writeRecord m seq (s.record m r r.logged p) with
        | some t => t.logRound m n { r with logged := r.logged + 1 }
        | none => s.logRound m n { r with logged := r.logged + 1, unwritten := r.unwritten + 1 }
      else { s with round := some r }

/-- A pair has ended (12 R279, steps 3 to 5): both streams resume, the loser is told, and the record is logged in its turn. -/
def State.finishPair (s : State) (m : Cmd) (r : Round) (i : Nat) (p : Pair) (ok : Bool) : State :=
  let p := { p with finished := true, failed := !ok }
  let r := { r with pairs := r.pairs.set i p }
  let s := (s.freeAtq p.loser).freeAtq p.winner
  let s := s.sendMsg (roundMsg m p.loser (s.record m r i p))
  s.logRound m (r.pairs.length + 1) r

/-- The round starts (12 R279): the sampling, the pairs, and the masks of both cores of each. -/
def State.startRound (s : State) (m : Cmd) : State :=
  match s.panel m.panel with
  | none => { s with atelierBox := s.atelierBox.filter (fun i => i != m.id), cmds := s.cmds.filter (fun x => x.id != m.id) }.atelierNext
  | some p =>
    let pairs := pairsOf (s.ranked p (rec64 m.box 0x04 4)) (rec64 m.box 0x02 2) (rec64 m.box 0x14 4)
    let r : Round := { cmd := m.id, pairs := pairs, firstSeq := p.lineage }
    let s := s.setPanel { p with lineage := p.lineage + pairs.length }
    let s := pairs.foldl (fun (s : State) (q : Pair) => (s.setAtq q.loser 0xFF).setAtq q.winner 0xFF) s
    let s := { s with agenda := s.agenda ++ (List.range pairs.length).map Due.pairQuiesced }
    s.logRound m 1 r

/-- The population command that the Atelier runs next. -/
def State.nextPop (s : State) : Option Cmd :=
  match s.round, s.atelierHead with
  | none, some m => if m.kind = CmdKind.popcmd then some m else none
  | _, _ => none

/-- ATELIER_ROUND_START (12 R279). -/
def execAtelierRoundStart (s : State) : Host.Outcome State Fault Refusal :=
  event "ATELIER_ROUND_START" (s.nextPop.isSome && s.isReady .atelierRoundStart)
    (fun s => match s.nextPop with | some m => s.startRound m | none => s) s

/-- The CME copy of a pair, as a migration descriptor (12 R279, Table 12-17). -/
def pairBox (m : Cmd) (p : Pair) : BitVec 512 :=
  BitVec.ofNat 512 (numOf (bytesOf 2 p.loser ++ bytesOf 2 0 ++ bytesOf 4 (rec64 m.box 0x1D 1 % 2) ++
    bytesOf 4 (p.winner % 64 * 2 ^ 19 + rec64 m.box 0x08 4) ++ bytesOf 4 (rec64 m.box 0x0C 4) ++
    bytesOf 4 (p.loser % 64 * 2 ^ 19 + rec64 m.box 0x10 4) ++ bytesOf 1 (rec64 m.box 0x01 1) ++ bytesOf 3 0 ++
    bytesOf 4 p.seed.toNat ++ bytesOf 4 (rec64 m.box 0x18 4) ++ bytesOf 4 0))

/-- The open entry at a pair's TGTOFF in the loser's core region (12 R279). -/
def State.pairEntry (s : State) (m : Cmd) (p : Pair) : Option (Fin 16 × Pub) :=
  (s.cluster (p.loser / 64)).atFront (p.loser % 64 * 2 ^ 19 + rec64 m.box 0x10 4)

/-- A pair's loser is drained and its winner held (12 R279): the CME copy begins; without an entry, or with a core down, the
pair fails. -/
def State.startPair (s : State) (m : Cmd) (r : Round) (i : Nat) (p : Pair) : State :=
  let p := { p with quiesced := true }
  let r := { r with pairs := r.pairs.set i p }
  match s.pairEntry m p with
  | none => s.finishPair m r i p false
  | some (k, _) =>
    if s.coreDown p.loser || s.coreDown p.winner then s.finishPair m r i p false
    else
      let e := Engine.cme (Fin.ofNat 8 (p.winner / 1024))
      let c : Cmd := {
        id := s.names, kind := .pair i, engine := e, core := m.core, slot := m.slot, panel := m.panel, activation := 0
        box := pairBox m p, total := rec64 m.box 0x0C 4, source := p.winner, target := p.loser, targetPanel := m.panel
        srcPub := s.pubsOf [p.winner / 64]
        fronts := [p.loser / 64 * 16 + k.val] }
      { s with round := some r, cmds := s.cmds ++ [c], names := s.names + 1 }.enterBox e s.names

/-- The pair `i` of the round, with its command. -/
def State.pairAt (s : State) (i : Nat) : Option (Cmd × Round × Pair) :=
  match s.round with
  | some r => match r.pairs[i]?, s.cmd r.cmd with
    | some p, some m => some (m, r, p)
    | _, _ => none
  | none => none

/-- PAIR_QUIESCED (12 R279). -/
def execPairQuiesced (i : Nat) (s : State) : Host.Outcome State Fault Refusal :=
  event "PAIR_QUIESCED" (match s.pairAt i with | some (_, _, p) => !p.quiesced && s.isReady (.pairQuiesced i) | none => false)
    (fun s => match s.pairAt i with | some (m, r, p) => s.startPair m r i p | none => s) s

/-- The CME command of a pair that has ended. -/
def State.pairCmd (s : State) (i : Nat) : Option Cmd := s.cmds.find? (fun m => decide (m.kind = CmdKind.pair i) && m.ended)

/-- A pair's copy has ended (12 R279): PUBLISH at package scope unless it failed, then the rest. -/
def State.endPair (s : State) (m : Cmd) (r : Round) (i : Nat) (p : Pair) (c : Cmd) : State :=
  let s := { s with cmds := s.cmds.filter (fun x => x.id != c.id) }
  match c.state, s.pairEntry m p with
  | .done, some (k, e) => (s.exchange none (p.loser / 64) k e false).finishPair m r i p true
  | _, _ => s.finishPair m r i p false

/-- PAIR_COPY_DONE (12 R279). -/
def execPairCopyDone (i : Nat) (s : State) : Host.Outcome State Fault Refusal :=
  event "PAIR_COPY_DONE" ((s.pairAt i).isSome && (s.pairCmd i).isSome && s.isReady (.pairCopyDone i))
    (fun s => match s.pairAt i, s.pairCmd i with | some (m, r, p), some c => s.endPair m r i p c | _, _ => s) s

end Sys2Proof.Machine
end

