-- ==== Sys2Proof/Machine/Scalar.lean ====
section
/-!
DEFINITION. Scalar, control-flow and compact instructions (07_scalar.md R135 to R146, 17 R317). None raises a flag (R139).
-/

namespace Sys2Proof.Machine

/-! ## The arithmetic of 07 Table 07-1, on any width -/

/-- Leading zero bits. -/
def clzBits {n : Nat} (x : BitVec n) : BitVec n := BitVec.ofNat n (if x = 0 then n else n - 1 - Nat.log2 x.toNat)

/-- Trailing zero bits of the low `k` bits of a number. -/
def ctzFrom (v : Nat) : Nat → Nat
  | 0 => 0
  | k + 1 => if v % 2 = 1 then 0 else 1 + ctzFrom (v / 2) k

/-- Trailing zero bits. -/
def ctzBits {n : Nat} (x : BitVec n) : BitVec n := BitVec.ofNat n (ctzFrom x.toNat n)

/-- One bits among the low `k` bits of a number. -/
def popFrom (v : Nat) : Nat → Nat
  | 0 => 0
  | k + 1 => v % 2 + popFrom (v / 2) k

/-- Number of 1 bits. -/
def popBits {n : Nat} (x : BitVec n) : BitVec n := BitVec.ofNat n (popFrom x.toNat n)

/-- Shifts and rotate: the amount is taken modulo the width. -/
def shlBits {n : Nat} (x y : BitVec n) : BitVec n := x <<< (y.toNat % n)
@[inherit_doc shlBits]
def shrBits {n : Nat} (x y : BitVec n) : BitVec n := x >>> (y.toNat % n)
@[inherit_doc shlBits]
def sarBits {n : Nat} (x y : BitVec n) : BitVec n := x.sshiftRight (y.toNat % n)
@[inherit_doc shlBits]
def rolBits {n : Nat} (x y : BitVec n) : BitVec n := x <<< (y.toNat % n) ||| x >>> (n - y.toNat % n)

/-- The high half of a signed product. -/
def mulhBits {n : Nat} (x y : BitVec n) : BitVec n := BitVec.ofInt n (x.toInt * y.toInt / (2 ^ n : Nat))
/-- The high half of an unsigned product. -/
def mulhuBits {n : Nat} (x y : BitVec n) : BitVec n := BitVec.ofNat n (x.toNat * y.toNat / 2 ^ n)

/-- Division and remainder (07 R138, Table 07-2). -/
def divBits {n : Nat} (x y : BitVec n) : BitVec n :=
  if y = 0 then BitVec.allOnes n else BitVec.ofInt n (x.toInt.tdiv y.toInt)
@[inherit_doc divBits]
def divuBits {n : Nat} (x y : BitVec n) : BitVec n :=
  if y = 0 then BitVec.allOnes n else BitVec.ofNat n (x.toNat / y.toNat)
@[inherit_doc divBits]
def remBits {n : Nat} (x y : BitVec n) : BitVec n := if y = 0 then x else BitVec.ofInt n (x.toInt.tmod y.toInt)
@[inherit_doc divBits]
def remuBits {n : Nat} (x y : BitVec n) : BitVec n := if y = 0 then x else BitVec.ofNat n (x.toNat % y.toNat)

/-- Minimum and maximum. -/
def minBits {n : Nat} (x y : BitVec n) : BitVec n := if x.slt y then x else y
@[inherit_doc minBits]
def maxBits {n : Nat} (x y : BitVec n) : BitVec n := if x.slt y then y else x
@[inherit_doc minBits]
def minuBits {n : Nat} (x y : BitVec n) : BitVec n := if x.ult y then x else y
@[inherit_doc minBits]
def maxuBits {n : Nat} (x y : BitVec n) : BitVec n := if x.ult y then y else x

/-- 1 when the comparison holds, else 0. -/
def sltBits {n : Nat} (x y : BitVec n) : BitVec n := BitVec.ofNat n (b2n (x.slt y))
@[inherit_doc sltBits]
def sltuBits {n : Nat} (x y : BitVec n) : BitVec n := BitVec.ofNat n (b2n (x.ult y))

/-- The 64-bit form, or the W form on the low words with its result sign-extended (07 R137). -/
def wform (w : Bool) (f64 : Word → Word → Word) (f32 : BitVec 32 → BitVec 32 → BitVec 32) (x y : Word) : Word :=
  if w then sx32 (f32 (lo32 x) (lo32 y)) else f64 x y

/-- As `wform`, of one operand. -/
def wform1 (w : Bool) (f64 : Word → Word) (f32 : BitVec 32 → BitVec 32) (x : Word) : Word :=
  if w then sx32 (f32 (lo32 x)) else f64 x

/-- gD ← f(gA, gB). -/
def binOp (i : Instr) (a b d : Fin 32) (f : Word → Word → Word) (s : State) : Host.Outcome State Fault Refusal :=
  issue i (fun s => do
    let (x, s) ← s.srcA a
    let (y, s) ← s.srcB b
    s.writeG d (f x y)) s

/-- gD ← f(gA). -/
def unOp (i : Instr) (a d : Fin 32) (f : Word → Word) (s : State) : Host.Outcome State Fault Refusal :=
  issue i (fun s => do
    let (x, s) ← s.srcA a
    s.writeG d (f x)) s

/-- gD ← f(gD), a compact form (07 R146). -/
def updOp (i : Instr) (d : Fin 32) (f : Word → Word) (s : State) : Host.Outcome State Fault Refusal :=
  issue i (fun s => do
    let (x, s) ← s.srcD d
    s.writeG d (f x)) s

/-- gD ← f(gD, gA), a compact form (07 R146). -/
def updOp2 (i : Instr) (a d : Fin 32) (f : Word → Word → Word) (s : State) : Host.Outcome State Fault Refusal :=
  issue i (fun s => do
    let (x, s) ← s.srcD d
    let (y, s) ← s.srcA a
    s.writeG d (f x y)) s

/-- gD ← v. -/
def setOp (i : Instr) (d : Fin 32) (v : Word) (s : State) : Host.Outcome State Fault Refusal :=
  issue i (fun s => s.writeG d v) s

/-- The next pc: the target when taken, else the next instruction (07 R143). -/
def State.branch (s : State) (taken : Bool) (off : Word) (len : Nat) : State :=
  s.setMe { s.me with pc := s.me.pc + if taken then off else BitVec.ofNat 64 len }

/-- A branch on gA and gB (07 R143). -/
def brOp (i : Instr) (off : BitVec 12) (a b : Fin 32) (cond : Word → Word → Bool) (s : State) :
    Host.Outcome State Fault Refusal :=
  issueJump i (fun s => do
    let (x, s) ← s.srcA a
    let (y, s) ← s.srcB b
    return s.branch (cond x y) (sxi off * 2) 4) s

/-- A compact branch on gD (07 R146). -/
def cbrOp (i : Instr) (imm : BitVec 5) (d : Fin 32) (cond : Word → Bool) (s : State) : Host.Outcome State Fault Refusal :=
  issueJump i (fun s => do
    let (x, s) ← s.srcD d
    return s.branch (cond x) (sxi imm * 2) 2) s

/-- A jump to an address: an odd one raises MISALIGN before anything is written (07 R144, R146). -/
def State.jumpTo (s : State) (t : Word) (link : Option (Fin 32)) (len : Nat) : M State := do
  ensure (!t.getLsbD 0) .misalign t
  let s ← match link with
    | some d => s.writeG d (s.me.pc + BitVec.ofNat 64 len)
    | none => .ok s
  return s.setMe { s.me with pc := t }

/-! ## The instructions -/

/-- ADD (07 R137, Table 07-1). -/
def execAdd (w : Bool) (b : Fin 32) (a : Fin 32) (d : Fin 32) (s : State) : Host.Outcome State Fault Refusal :=
  binOp (.add w b a d) a b d (wform w (· + ·) (· + ·)) s

/-- SUB (07 R137, Table 07-1). -/
def execSub (w : Bool) (b : Fin 32) (a : Fin 32) (d : Fin 32) (s : State) : Host.Outcome State Fault Refusal :=
  binOp (.sub w b a d) a b d (wform w (· - ·) (· - ·)) s

/-- AND (07 R137, Table 07-1). -/
def execAnd (w : Bool) (b : Fin 32) (a : Fin 32) (d : Fin 32) (s : State) : Host.Outcome State Fault Refusal :=
  binOp (.and w b a d) a b d (wform w (· &&& ·) (· &&& ·)) s

/-- OR (07 R137, Table 07-1). -/
def execOr (w : Bool) (b : Fin 32) (a : Fin 32) (d : Fin 32) (s : State) : Host.Outcome State Fault Refusal :=
  binOp (.or w b a d) a b d (wform w (· ||| ·) (· ||| ·)) s

/-- XOR (07 R137, Table 07-1). -/
def execXor (w : Bool) (b : Fin 32) (a : Fin 32) (d : Fin 32) (s : State) : Host.Outcome State Fault Refusal :=
  binOp (.xor w b a d) a b d (wform w (· ^^^ ·) (· ^^^ ·)) s

/-- ANDN (07 R137, Table 07-1). -/
def execAndn (w : Bool) (b : Fin 32) (a : Fin 32) (d : Fin 32) (s : State) : Host.Outcome State Fault Refusal :=
  binOp (.andn w b a d) a b d (wform w (fun x y => x &&& ~~~y) (fun x y => x &&& ~~~y)) s

/-- SLL (07 R137, Table 07-1). -/
def execSll (w : Bool) (b : Fin 32) (a : Fin 32) (d : Fin 32) (s : State) : Host.Outcome State Fault Refusal :=
  binOp (.sll w b a d) a b d (wform w shlBits shlBits) s

/-- SRL (07 R137, Table 07-1). -/
def execSrl (w : Bool) (b : Fin 32) (a : Fin 32) (d : Fin 32) (s : State) : Host.Outcome State Fault Refusal :=
  binOp (.srl w b a d) a b d (wform w shrBits shrBits) s

/-- SRA (07 R137, Table 07-1). -/
def execSra (w : Bool) (b : Fin 32) (a : Fin 32) (d : Fin 32) (s : State) : Host.Outcome State Fault Refusal :=
  binOp (.sra w b a d) a b d (wform w sarBits sarBits) s

/-- ROL (07 R137, Table 07-1). -/
def execRol (w : Bool) (b : Fin 32) (a : Fin 32) (d : Fin 32) (s : State) : Host.Outcome State Fault Refusal :=
  binOp (.rol w b a d) a b d (wform w rolBits rolBits) s

/-- MUL (07 R137, Table 07-1). -/
def execMul (w : Bool) (b : Fin 32) (a : Fin 32) (d : Fin 32) (s : State) : Host.Outcome State Fault Refusal :=
  binOp (.mul w b a d) a b d (wform w (· * ·) (· * ·)) s

/-- MULH (07 R137, Table 07-1). -/
def execMulh (w : Bool) (b : Fin 32) (a : Fin 32) (d : Fin 32) (s : State) : Host.Outcome State Fault Refusal :=
  binOp (.mulh w b a d) a b d (wform w mulhBits mulhBits) s

/-- MULHU (07 R137, Table 07-1). -/
def execMulhu (w : Bool) (b : Fin 32) (a : Fin 32) (d : Fin 32) (s : State) : Host.Outcome State Fault Refusal :=
  binOp (.mulhu w b a d) a b d (wform w mulhuBits mulhuBits) s

/-- DIV (07 R138, Table 07-2). -/
def execDiv (w : Bool) (b : Fin 32) (a : Fin 32) (d : Fin 32) (s : State) : Host.Outcome State Fault Refusal :=
  binOp (.div w b a d) a b d (wform w divBits divBits) s

/-- DIVU (07 R138, Table 07-2). -/
def execDivu (w : Bool) (b : Fin 32) (a : Fin 32) (d : Fin 32) (s : State) : Host.Outcome State Fault Refusal :=
  binOp (.divu w b a d) a b d (wform w divuBits divuBits) s

/-- REM (07 R138, Table 07-2). -/
def execRem (w : Bool) (b : Fin 32) (a : Fin 32) (d : Fin 32) (s : State) : Host.Outcome State Fault Refusal :=
  binOp (.rem w b a d) a b d (wform w remBits remBits) s

/-- REMU (07 R138, Table 07-2). -/
def execRemu (w : Bool) (b : Fin 32) (a : Fin 32) (d : Fin 32) (s : State) : Host.Outcome State Fault Refusal :=
  binOp (.remu w b a d) a b d (wform w remuBits remuBits) s

/-- MIN (07 R137, Table 07-1). -/
def execMin (w : Bool) (b : Fin 32) (a : Fin 32) (d : Fin 32) (s : State) : Host.Outcome State Fault Refusal :=
  binOp (.min w b a d) a b d (wform w minBits minBits) s

/-- MAX (07 R137, Table 07-1). -/
def execMax (w : Bool) (b : Fin 32) (a : Fin 32) (d : Fin 32) (s : State) : Host.Outcome State Fault Refusal :=
  binOp (.max w b a d) a b d (wform w maxBits maxBits) s

/-- MINU (07 R137, Table 07-1). -/
def execMinu (w : Bool) (b : Fin 32) (a : Fin 32) (d : Fin 32) (s : State) : Host.Outcome State Fault Refusal :=
  binOp (.minu w b a d) a b d (wform w minuBits minuBits) s

/-- MAXU (07 R137, Table 07-1). -/
def execMaxu (w : Bool) (b : Fin 32) (a : Fin 32) (d : Fin 32) (s : State) : Host.Outcome State Fault Refusal :=
  binOp (.maxu w b a d) a b d (wform w maxuBits maxuBits) s

/-- SLT (07 R137, Table 07-1). -/
def execSlt (w : Bool) (b : Fin 32) (a : Fin 32) (d : Fin 32) (s : State) : Host.Outcome State Fault Refusal :=
  binOp (.slt w b a d) a b d (wform w sltBits sltBits) s

/-- SLTU (07 R137, Table 07-1). -/
def execSltu (w : Bool) (b : Fin 32) (a : Fin 32) (d : Fin 32) (s : State) : Host.Outcome State Fault Refusal :=
  binOp (.sltu w b a d) a b d (wform w sltuBits sltuBits) s

/-- CLZ (07 R137, Table 07-1). -/
def execClz (w : Bool) (a : Fin 32) (d : Fin 32) (s : State) : Host.Outcome State Fault Refusal :=
  unOp (.clz w a d) a d (wform1 w clzBits clzBits) s

/-- CTZ (07 R137, Table 07-1). -/
def execCtz (w : Bool) (a : Fin 32) (d : Fin 32) (s : State) : Host.Outcome State Fault Refusal :=
  unOp (.ctz w a d) a d (wform1 w ctzBits ctzBits) s

/-- POPC (07 R137, Table 07-1). -/
def execPopc (w : Bool) (a : Fin 32) (d : Fin 32) (s : State) : Host.Outcome State Fault Refusal :=
  unOp (.popc w a d) a d (wform1 w popBits popBits) s

/-- The width of a SEXT or ZEXT size code (07 R137). -/
def extBits (sz : BitVec 2) : Nat := 8 * 2 ^ sz.toNat

/-- SEXT (07 R137). -/
def execSext (sz : BitVec 2) (a : Fin 32) (d : Fin 32) (s : State) : Host.Outcome State Fault Refusal :=
  unOp (.sext sz a d) a d (fun x => (x.truncate (extBits sz)).signExtend 64) s

/-- ZEXT (07 R137). -/
def execZext (sz : BitVec 2) (a : Fin 32) (d : Fin 32) (s : State) : Host.Outcome State Fault Refusal :=
  unOp (.zext sz a d) a d (fun x => (x.truncate (extBits sz)).zeroExtend 64) s

/-- ADDI (07 R140). -/
def execAddi (imm : BitVec 15) (a : Fin 32) (d : Fin 32) (s : State) : Host.Outcome State Fault Refusal :=
  unOp (.addi imm a d) a d (fun x => x + sxi imm) s

/-- ANDI (07 R140). -/
def execAndi (imm : BitVec 15) (a : Fin 32) (d : Fin 32) (s : State) : Host.Outcome State Fault Refusal :=
  unOp (.andi imm a d) a d (fun x => x &&& sxi imm) s

/-- ORI (07 R140). -/
def execOri (imm : BitVec 15) (a : Fin 32) (d : Fin 32) (s : State) : Host.Outcome State Fault Refusal :=
  unOp (.ori imm a d) a d (fun x => x ||| sxi imm) s

/-- XORI (07 R140). -/
def execXori (imm : BitVec 15) (a : Fin 32) (d : Fin 32) (s : State) : Host.Outcome State Fault Refusal :=
  unOp (.xori imm a d) a d (fun x => x ^^^ sxi imm) s

/-- SLTI (07 R140). -/
def execSlti (imm : BitVec 15) (a : Fin 32) (d : Fin 32) (s : State) : Host.Outcome State Fault Refusal :=
  unOp (.slti imm a d) a d (fun x => sltBits x (sxi imm)) s

/-- SLTIU (07 R140). -/
def execSltiu (imm : BitVec 15) (a : Fin 32) (d : Fin 32) (s : State) : Host.Outcome State Fault Refusal :=
  unOp (.sltiu imm a d) a d (fun x => sltuBits x (zxi imm)) s

/-- SLLI (07 R141). -/
def execSlli (w : Bool) (sh : BitVec 6) (a : Fin 32) (d : Fin 32) (s : State) : Host.Outcome State Fault Refusal :=
  unOp (.slli w sh a d) a d (fun x => wform w shlBits shlBits x (zxi sh)) s

/-- SRLI (07 R141). -/
def execSrli (w : Bool) (sh : BitVec 6) (a : Fin 32) (d : Fin 32) (s : State) : Host.Outcome State Fault Refusal :=
  unOp (.srli w sh a d) a d (fun x => wform w shrBits shrBits x (zxi sh)) s

/-- SRAI (07 R141). -/
def execSrai (w : Bool) (sh : BitVec 6) (a : Fin 32) (d : Fin 32) (s : State) : Host.Outcome State Fault Refusal :=
  unOp (.srai w sh a d) a d (fun x => wform w sarBits sarBits x (zxi sh)) s

/-- LUI (07 R142). -/
def execLui (imm : BitVec 20) (d : Fin 32) (s : State) : Host.Outcome State Fault Refusal :=
  setOp (.lui imm d) d (sx32 (imm ++ 0#12)) s

/-- The address of the instruction itself: under a repeat the pc stands at the prefix (04 R91). -/
def Ctx.ownPc (x : Ctx) : Word := if x.rep.isSome then x.pc + 2 else x.pc

/-- AUIPC (07 R142): the pc of the AUIPC itself. -/
def execAuipc (imm : BitVec 20) (d : Fin 32) (s : State) : Host.Outcome State Fault Refusal :=
  issue (.auipc imm d) (fun s => s.writeG d (s.me.ownPc + sx32 (imm ++ 0#12))) s

/-- BEQ (07 R143, Table 07-4). -/
def execBeq (off : BitVec 12) (b : Fin 32) (a : Fin 32) (s : State) : Host.Outcome State Fault Refusal :=
  brOp (.beq off b a) off a b (fun x y => x == y) s

/-- BNE (07 R143, Table 07-4). -/
def execBne (off : BitVec 12) (b : Fin 32) (a : Fin 32) (s : State) : Host.Outcome State Fault Refusal :=
  brOp (.bne off b a) off a b (fun x y => x != y) s

/-- BLT (07 R143, Table 07-4). -/
def execBlt (off : BitVec 12) (b : Fin 32) (a : Fin 32) (s : State) : Host.Outcome State Fault Refusal :=
  brOp (.blt off b a) off a b (fun x y => x.slt y) s

/-- BGE (07 R143, Table 07-4). -/
def execBge (off : BitVec 12) (b : Fin 32) (a : Fin 32) (s : State) : Host.Outcome State Fault Refusal :=
  brOp (.bge off b a) off a b (fun x y => !x.slt y) s

/-- BLTU (07 R143, Table 07-4). -/
def execBltu (off : BitVec 12) (b : Fin 32) (a : Fin 32) (s : State) : Host.Outcome State Fault Refusal :=
  brOp (.bltu off b a) off a b (fun x y => x.ult y) s

/-- BGEU (07 R143, Table 07-4). -/
def execBgeu (off : BitVec 12) (b : Fin 32) (a : Fin 32) (s : State) : Host.Outcome State Fault Refusal :=
  brOp (.bgeu off b a) off a b (fun x y => !x.ult y) s

/-- JAL (07 R144). -/
def execJal (off : BitVec 20) (d : Fin 32) (s : State) : Host.Outcome State Fault Refusal :=
  issueJump (.jal off d) (fun s => do
    let t := s.me.pc + sxi off * 2
    let s ← s.writeG d (s.me.pc + 4)
    return s.setMe { s.me with pc := t }) s

/-- JALR (07 R144): gA is read before gD is written. -/
def execJalr (imm : BitVec 15) (a : Fin 32) (d : Fin 32) (s : State) : Host.Outcome State Fault Refusal :=
  issueJump (.jalr imm a d) (fun s => do
    let (x, s) ← s.srcA a
    s.jumpTo (x + sxi imm) (some d) 4) s

/-! ## Compact forms (07 R146, Table 07-5) -/

/-- C.MV. -/
def execCMv (a : Fin 32) (d : Fin 32) (s : State) : Host.Outcome State Fault Refusal :=
  unOp (.cMv a d) a d id s

/-- C.ADD. -/
def execCAdd (a : Fin 32) (d : Fin 32) (s : State) : Host.Outcome State Fault Refusal :=
  updOp2 (.cAdd a d) a d (· + ·) s

/-- C.SUB. -/
def execCSub (a : Fin 32) (d : Fin 32) (s : State) : Host.Outcome State Fault Refusal :=
  updOp2 (.cSub a d) a d (· - ·) s

/-- C.AND. -/
def execCAnd (a : Fin 32) (d : Fin 32) (s : State) : Host.Outcome State Fault Refusal :=
  updOp2 (.cAnd a d) a d (· &&& ·) s

/-- C.ADDI: k is signed (04 Table 04-12). -/
def execCAddi (imm : BitVec 5) (d : Fin 32) (s : State) : Host.Outcome State Fault Refusal :=
  updOp (.cAddi imm d) d (· + sxi imm) s

/-- C.LI: k is signed (04 Table 04-12). -/
def execCLi (imm : BitVec 5) (d : Fin 32) (s : State) : Host.Outcome State Fault Refusal :=
  setOp (.cLi imm d) d (sxi imm) s

/-- C.SLLI: k is 0 to 31. -/
def execCSlli (imm : BitVec 5) (d : Fin 32) (s : State) : Host.Outcome State Fault Refusal :=
  updOp (.cSlli imm d) d (fun x => x <<< imm.toNat) s

/-- C.SRAI: k is 0 to 31. -/
def execCSrai (imm : BitVec 5) (d : Fin 32) (s : State) : Host.Outcome State Fault Refusal :=
  updOp (.cSrai imm d) d (fun x => x.sshiftRight imm.toNat) s

/-- C.BEQZ. -/
def execCBeqz (imm : BitVec 5) (d : Fin 32) (s : State) : Host.Outcome State Fault Refusal :=
  cbrOp (.cBeqz imm d) imm d (· == 0) s

/-- C.BNEZ. -/
def execCBnez (imm : BitVec 5) (d : Fin 32) (s : State) : Host.Outcome State Fault Refusal :=
  cbrOp (.cBnez imm d) imm d (· != 0) s

/-- C.J. -/
def execCJ (off : BitVec 10) (s : State) : Host.Outcome State Fault Refusal :=
  issueJump (.cJ off) (fun s => return s.branch true (sxi off * 2) 2) s

/-- C.JR: gA is read before lr (g1) is written. -/
def execCJr (a : Fin 32) (link : Bool) (s : State) : Host.Outcome State Fault Refusal :=
  issueJump (.cJr a link) (fun s => do
    let (x, s) ← s.srcA a
    s.jumpTo x (if link then some 1 else none) 2) s

/-- C.NOP. -/
def execCNop (s : State) : Host.Outcome State Fault Refusal :=
  issue .cNop (fun s => .ok s) s

/-- C.YIELD (17 R317): the context yields for the next 64 cycles. -/
def execCYield (s : State) : Host.Outcome State Fault Refusal :=
  issue .cYield (fun s =>
    .ok { s.setMe { s.me with yieldUntil := s.cycle + 65 } with
      timers := s.timers ++ [(s.cycle + 65, Due.yieldExpire s.actor s.slot)] }) s

/-- Whether a failed fetch and decode at an address failed in its fetch (05 R106). -/
def State.unfetched (s : State) (a : Word) (c : Cause) : Bool :=
  c == .scratchRange || (c == .priv && ((s.fetchFault a).isSome || (s.fetchFault (a + 2)).isSome))

/-- The checks of a prefix (mask, n, halfword) whose target stands at `a`, in their order (04 R92, 05 R108): the target's
fetch and decode, `inner` of a target that is a prefix itself, then the prefix. In a chain of prefixes TVAL is that of the innermost
prefix whose check fails (DESIGN CHOICE, assumption log 91). -/
def State.repeatAt (s : State) (inner : BitVec 4 → Nat → Nat → Word → M Unit) (m : BitVec 4) (n half : Nat) (a : Word) :
    M Unit := do
  match s.fetch a with
  | .error (c, v) => raise c (if s.unfetched a c then a else v)
  | .ok i =>
    match i with
    | .cRep m' n' => inner m' (n'.toNat + 1) i.word (a + 2)
    | _ => .ok ()
    match i.repCheck m n with
    | none => .ok ()
    | some range => raise (if range then .repeatRange else .illegal) (BitVec.ofNat 64 half)

/-- The checks of a repeat prefix through a chain of prefixes (05 R98: the decode of each one checks its own target). -/
def State.repeatChecks (s : State) : Nat → BitVec 4 → Nat → Nat → Word → M Unit
  | 0 => s.repeatAt (fun _ _ _ _ => .ok ())
  | k + 1 => s.repeatAt (s.repeatChecks k)

/-- The halfwords of window 0, more than a chain of prefixes can hold: in S mode it may run on through the core regions of a panel (05
R106). -/
def windowHalves : Nat := 2 ^ 24

/-- C.REP (04 R91, R92, 05 R108, 07 R153): the repetitions follow at the prefix, one a step. -/
def execCRep (m : BitVec 4) (n : BitVec 6) (s : State) : Host.Outcome State Fault Refusal :=
  issueJump (.cRep m n) (fun s => do
    s.repeatChecks windowHalves m (n.toNat + 1) (Instr.word (.cRep m n)) (s.me.pc + 2)
    return s.setMe { s.me with rep := some { n := n.toNat + 1, mask := m, idx := 0 } }) s

end Sys2Proof.Machine
end

