-- ==== Sys2Proof/Machine/Panels.lean ====
section
/-!
DEFINITION. The operations of the panels' owner, the SRS, that instructions, requests and health actions share (17_panels.md,
18_traps.md R340 to R349, 19 R374): replies and reports, stopping and resuming, collection, kill, the loss of cores, swap,
save and restore.
-/

namespace Sys2Proof.Machine

/-! ## Replies and reports (19 R372, R374) -/

/-- The reply to a request, its arguments and payload empty. -/
def replyTo (op : Nat) (rq : Req) (st : Nat) : Reply :=
  { job := rq.job, op := op, status := st, tag := rq.tag, panel := rq.panel, arg0 := 0, arg1 := 0, payload := [] }

/-- The SRS sends a reply. -/
def State.send (s : State) (r : Reply) : State := { s with replies := s.replies ++ [r] }

/-- The SRS sends a reply with a status alone. -/
def State.answer (s : State) (op : Nat) (rq : Req) (st : Nat) : State := s.send (replyTo op rq st)

/-- Reply codes (19 Table 19-6). -/
def stOK : Nat := 0x00
@[inherit_doc stOK]
def stLaunchDone : Nat := 0x01
@[inherit_doc stOK]
def stPanelBad : Nat := 0x10
@[inherit_doc stOK]
def stPanelDown : Nat := 0x11
@[inherit_doc stOK]
def stLaunchBad : Nat := 0x12
@[inherit_doc stOK]
def stLaunchNoDie : Nat := 0x13
@[inherit_doc stOK]
def stLaunchTooLarge : Nat := 0x14
@[inherit_doc stOK]
def stLaunchState : Nat := 0x15
@[inherit_doc stOK]
def stPreemptTimeout : Nat := 0x16
@[inherit_doc stOK]
def stRestoreFailed : Nat := 0x17
@[inherit_doc stOK]
def stReqBad : Nat := 0x18
@[inherit_doc stOK]
def stNotOwner : Nat := 0x19
@[inherit_doc stOK]
def stRange : Nat := 0x1A
@[inherit_doc stOK]
def stLink : Nat := 0x1B
@[inherit_doc stOK]
def stBusy : Nat := 0x1C
@[inherit_doc stOK]
def stNoQuorum : Nat := 0x1D

/-- The SRS sends a report, or keeps it, at most 64 for a job (19 R374). -/
def State.report (s : State) (r : Reply) : State :=
  match s.jobs.find? (fun j => j.num == r.job) with
  | some j =>
    if j.open_ then { s with reports := s.reports ++ [r] }
    else
      let kept := j.kept ++ [r]
      { s with jobs := s.jobs.map (fun x => if x.num = r.job then { x with kept := kept.drop (kept.length - 64) } else x) }
  | none => { s with jobs := s.jobs ++ [{ num := r.job, open_ := false, kept := [r] }] }

/-- Cores of a panel that are down. -/
def State.downCount (s : State) (p : Panel) : Nat := (p.cores.filter s.coreDown).length

/-- The PANEL_DOWN report of a panel (19 R374). -/
def State.reportDown (s : State) (n : Nat) : State :=
  match s.panel n with
  | some p => s.report {
      job := p.job, op := 0x16, status := stPanelDown, tag := 0, panel := n, arg0 := BitVec.ofNat 64 p.state
      arg1 := BitVec.ofNat 64 (s.downCount p), payload := [] }
  | none => s

/-! ## Stopping contexts and letting them go on (18 R340) -/

/-- An unfinished instruction that is to be issued again from its captured operands (18 R335, R340). -/
def Entry.again (e : Entry) : Entry := { e with from_ := none }

/-- A context is stopped (18 R340): its waiting instructions stay unfinished entries, and a Wait is left with no effect. A
hold keeps the monitor armed (17 R318). -/
def Ctx.halt (keep : Bool) (x : Ctx) : Ctx :=
  if x.run.waits then
    { x.settle with
      run := .stopped, pend := x.pend.map Entry.again, wait := none, caught := none, mon := if keep then x.mon else none }
  else x

/-- A packet of a command that is dropped, if it has left (17 R310): its sectors are still delivered. -/
def State.loosen (s : State) (ids : List Nat) (k : Packet) : Packet :=
  match k.body with
  | .sectors c ns => match (if ids.contains c then s.cmd c else none) with
    | some m => { k with body := .loose m.toPanel (m.sectors.filter (fun (x : Sector) => ns.contains x.n)) }
    | none => k
  | _ => k

/-- The sectors of a command that packets have delivered and that are not written yet. -/
def State.unwritten (s : State) (m : Cmd) : List Sector :=
  m.sectors.filter (fun (x : Sector) => (sectorEnd m.engine x).isSome && s.agenda.contains (Due.sectorWrite m.id x.n))

/-- Engines drop commands (17 R310): from the inboxes and from the list, with the packets and walks of theirs that have not begun; what
has left is delivered. -/
def State.purge (s : State) (ids : List Nat) : State :=
  let out := fun (l : List Nat) => l.filter (fun i => !ids.contains i)
  let s := (s.cmds.filter (fun m => ids.contains m.id)).foldl (fun (s : State) (m : Cmd) => s.landLoose m.toPanel (s.unwritten m)) s
  { s with
    cmds := s.cmds.filter (fun m => !ids.contains m.id)
    atelierBox := out s.atelierBox
    clusters := s.clusters.map (fun (e : Nat × Cluster) => (e.1, { e.2 with xfuBox := out e.2.xfuBox }))
    packets := (s.packets.filter (fun (k : Packet) => k.injected || !(match k.body with
      | .sectors c _ => ids.contains c
      | .leaf c _ _ => ids.contains c
      | .result c _ => ids.contains c
      | .message m | .order m _ => m.cmd.any ids.contains
      | .write _ | .loose _ _ => false))).map (s.loosen ids)
    dies := s.dies.map (fun (x : Die) => { x with
      skeBox := out x.skeBox, cleBox := out x.cleBox, cmeBox := out x.cmeBox, walks := x.walks.filter (fun (w : Nat × Nat) => !ids.contains w.1) }) }

/-- The requests of waiting TMSYNCs of some contexts (10 R213): a stopped one issues again, and asks again (18 R340). -/
def State.dropAsks (s : State) (of : Nat → Fin 8 → Bool) : State :=
  match (s.cmds.filter (fun m => decide (m.kind = CmdKind.header) && of m.core m.slot)).map (·.id) with
  | [] => s
  | ids => s.purge ids

/-- Every core of a panel changed. -/
def State.overCores (s : State) (p : Panel) (f : Core → Core) : State :=
  { s with cores := s.cores.map (fun (e : Nat × Core) => if p.has e.1 then (e.1, f e.2) else e) }

/-- Every core of a panel stops issue (17 R318). -/
def State.haltPanel (s : State) (p : Panel) : State :=
  (s.overCores p (fun (k : Core) => { k with ctxs := k.ctxs.map (Ctx.halt true) })).dropAsks (fun (c : Nat) _ => p.has c)

/-- A stopped context goes on unless a quiesce mask names its slot (18 R340, R341). -/
def Core.goOn (k : Core) : Core :=
  { k with ctxs := k.ctxs.mapIdx (fun (i : Nat) (x : Ctx) =>
      if x.run == .stopped && !(k.swq ||| k.atq).getLsbD i then { x with run := .ready } else x) }

/-- A parked command goes on (17 R320): its sectors, or from its start. -/
def State.unpark (s : State) (id : Nat) : State :=
  match s.cmd id with
  | some m =>
    if m.state = .parked then
      if m.srcRead && m.pages.isEmpty && (!m.sectors.isEmpty || decide (m.kind = CmdKind.migrate)) then s.setCmd { m with state := .running }
      else { (s.endWalk m).setCmd { m with state := .queued, pages := [] } with agenda := s.agenda ++ [Due.engineCommandStart m.engine] }
    else s
  | none => s

/-- The cores of a panel dispatch what they may (03 R50). -/
def State.dispatchAll (s : State) (p : Panel) : State :=
  (s.cores.filter (fun (e : Nat × Core) => p.has e.1)).foldl (fun (s : State) (e : Nat × Core) => s.dispatch e.1) s

/-- The panel runs (17 R320): its parked commands go on in park order, then its cores issue. -/
def State.runPanel (s : State) (p : Panel) (st : Nat) : State :=
  let s := s.setPanel { p with state := st, collect := none, parked := [], issuer := none, saving := none, testHold := false, hostHeld := false, aside := none }
  let s := p.parked.foldl State.unpark s
  let s := s.overCores p Core.goOn
  let s := { s with agenda := s.agenda ++ (if s.atelierBox = [] then [] else [Due.atelierRoundStart]) }
  s.dispatchAll p

/-- The state a panel runs in: 2, or 7 if a core is down (17 Table 17-5). -/
def State.runState (s : State) (p : Panel) : Nat := if p.cores.any s.coreDown then 7 else 2

/-- A held panel resumes (17 R320): SAVECUR is cleared (18 R347), and a panel that enters state 7 is reported. -/
def State.resumePanel (s : State) (n : Nat) : State :=
  match s.panel n with
  | some p =>
    let st := s.runState p
    let s := s.runPanel { p with savecur := 0 } st
    if st = 7 then s.reportDown n else s
  | none => s

/-! ## Collection (17 R318 to R322) -/

/-- A timer no longer runs. -/
def State.untime (s : State) (d : Due) : State := { s with timers := s.timers.filter (fun (t : Nat × Due) => decide (t.2 ≠ d)) }

/-- The engine instances that hold commands of a panel, the page walkers that may walk for these, and the Atelier (17 R318). -/
def State.holders (s : State) (n : Nat) : List Engine :=
  (((s.cmds.filter (fun m => m.panel == n && !m.ended)).flatMap (fun (m : Cmd) => [m.engine, Engine.walker (Fin.ofNat 8 m.walkerDie)])) ++
    [Engine.atelier]).eraseDups

/-- A collection begins (17 R318, steps 1 and 2). -/
def State.startCollect (s : State) (p : Panel) (why : HoldFor) : State :=
  let s := s.haltPanel p
  let es := s.holders p.num
  let s := s.setPanel { p with collect := some { why := why, waiting := es, startAt := s.cycle, from_ := p.state, before := p.parked } }
  { s with
    agenda := s.agenda ++ es.map (Due.preemptAck p.num)
    timers := s.timers ++ [(s.cycle + preemptLimit, Due.preemptTimeout p.num)] }

/-- The commands of a panel that an engine parks (17 Table 17-7): all it holds but the copy of a pair in progress. -/
def State.toPark (s : State) (n : Nat) (e : Engine) : List Nat :=
  (s.cmds.filter (fun m => m.panel == n && decide (m.engine = e) && (m.state == .queued || m.state == .running) &&
    (match m.kind with | .pair _ => false | _ => true))).map (·.id)

/-- Parks the commands of a list: a page walk in progress goes on, to fill the TLBs, and one not begun is dropped (17 R319). -/
def State.park (s : State) (ids : List Nat) : State :=
  { s with
    cmds := s.cmds.map (fun m => if ids.contains m.id then { m with state := .parked, pages := if s.walking m.id then m.pages else [] } else m)
    dies := s.dies.map (fun (x : Die) => { x with walks := x.walks.filter (fun (w : Nat × Nat) => !ids.contains w.1 || s.walking w.1) }) }

/-- A panel held aside from its stopped save goes back to it: the commands parked since go on, and its issuer (20 R396). -/
def State.backToIssuer (s : State) (p : Panel) (before : List Nat) : State :=
  let s := (p.parked.filter (fun i => !before.contains i)).foldl State.unpark s
  let s := s.setPanel { p with collect := none, waiting := [], parked := before, saving := none, aside := none, testHold := false }
  match p.issuer with
  | some (c, k) => if (s.ctx c k).run == .stopped then s.setCtx c k { s.ctx c k with run := .ready } else s
  | none => s

/-- A panel held for a test or a checkpoint goes on. -/
def State.goBack (s : State) (n : Nat) : State :=
  match s.panel n with
  | some p => match p.aside with
    | some before => s.backToIssuer p before
    | none => s.resumePanel n
  | none => s

/-- The objects on a panel's cores that are test due or under test. -/
def State.dueObjs (s : State) (p : Panel) : List ScoreObj :=
  p.cores.flatMap (fun (c : Nat) =>
    let k := s.core c
    let on := fun (x : Score) => x.due || x.testing
    (if on k.score then [ScoreObj.core (Fin.ofNat 8192 c)] else []) ++
      ((List.finRange 8).filter (fun b => on k.banks[b])).map (ScoreObj.bank (Fin.ofNat 8192 c)))

/-- A panel that the SRS holds for tests alone resumes once none of its objects can be tested any more (20 R383), after a checkpoint in
progress (20 R396). -/
def State.testsDone (s : State) (n : Nat) : State :=
  match s.panel n with
  | some p => if p.testHold && p.state == 3 && s.checkpoint.isNone && (s.dueObjs p).all (fun q => !s.testable q) then s.goBack n else s
  | none => s

/-! ## Kill (17 R310, R311) -/

/-- A Dormant context whose every register is undefined (17 Table 17-12, 00 R2; DESIGN CHOICE, assumption log 3). -/
def Ctx.undefined (fresh : Nat) : Ctx :=
  let w := fun (i : Nat) => Config.freeWord (fresh + 32 + i)
  { Ctx.reset with
    pc := w 0
    g := .ofFn (fun (i : Fin 32) => if i = 0 then 0 else Config.freeWord (fresh + i.val))
    v := .ofFn (fun (i : Fin 16) => Config.freeVec (fresh + i.val))
    p := .ofFn (fun (i : Fin 8) => Config.freePred (fresh + i.val))
    z := .ofFn (fun (i : Fin 8) => Config.freeZ (fresh + i.val))
    flags := (w 1).truncate 6
    frm := (w 2).truncate 2
    mfmt := (w 3).truncate 6
    f8sel := (w 4).truncate 5
    hkey := (w 5).truncate 10
    iprio := (w 6).truncate 6
    tcause := (w 7).truncate 17
    tval := w 8
    epc := w 9
    winfmt := .ofFn (fun (i : Fin 16) => (w (10 + i.val)).truncate 10)
    winscale := .ofFn (fun (i : Fin 16) => w (26 + i.val)) }

/-- The free values that the contexts of a core take: 128 each. -/
def freePerCore : Nat := 1024

/-- A core after a kill (17 Table 17-12): what belongs to its health, its number, and what arrives at it stay. -/
def Core.killed (fresh : Nat) (k : Core) : Core :=
  { Core.reset with
    ctxs := .ofFn (fun (i : Fin 8) => Ctx.undefined (fresh + 128 * i.val))
    score := k.score, banks := k.banks, actfcst := k.actfcst, busyMat := k.busyMat, busyVec := k.busyVec, actAt := k.actAt
    panelId := k.panelId, tlb := k.tlb, offers := k.offers }

/-- A cluster wholly in a killed panel (17 Table 17-12). -/
def Cluster.killed (x : Cluster) : Cluster :=
  { x with
    tasks := [], tqSize := 0, tqBase := 0, tqHead := 0, tqTail := 0, tdcfg := 0, tdPos := 0, pub := .replicate 16 none
    starveAt := none, victim := none, asking := false, donated := none }

/-- The round of a panel ends unfinished, and the Atelier goes on. -/
def State.dropRound (s : State) (ids : List Nat) : State :=
  match s.round with
  | some r => if ids.contains r.cmd then { s with round := none }.atelierNext else s
  | none => s

/-- Registers, queues and structures of a panel's rectangle return to reset (17 R310, step 3; R311). -/
def State.resetCores (s : State) (p : Panel) : State :=
  { s with
    cores := s.cores.map (fun (e : Nat × Core) => if p.has e.1 then (e.1, e.2.killed (s.fresh + freePerCore * e.1)) else e)
    fresh := s.fresh + freePerCore * 8192
    clusters := s.clusters.map (fun (e : Nat × Cluster) =>
      let c := { e.2 with words := e.2.words.filter (fun (w : Nat × VWord) => !p.has (e.1 * 64 + w.1 / 128)) }
      (e.1, if p.hasCluster e.1 then c.killed else c)) }

/-- Whether the sender of a message is a panel's own: nothing is posted for it once the panel is killed (17 R310). -/
def Panel.sent (p : Panel) (m : Msg) : Bool :=
  decide (m.launch = some p.num) || (m.srcSlot.isSome && p.has m.src) || m.back.any (fun (b : Nat × Fin 8 × Word) => p.has b.1)

/-- What arrived at a killed panel's cores is refused (17 R307, R310), but for its own messages, which are gone. -/
def State.refuseOffers (s : State) (p : Panel) : State :=
  let s := s.overCores p (fun (k : Core) => { k with offers := k.offers.filter (fun (m : Msg) => !p.sent m) })
  let ks := s.cores.filter (fun (e : Nat × Core) => p.has e.1 && e.2.offers != [])
  { s with agenda := s.agenda ++ ks.map (fun (e : Nat × Core) => Due.messageAdmit (Fin.ofNat 8192 e.1)) }

/-- Operations that waited on a slice are tried again. -/
def State.retryOps (s : State) : State :=
  { s with agenda := s.agenda ++
      (s.groups.filter (fun g => g.ops.any (fun o => !o.ended))).map (fun (g : Group) => Due.cleOperationStart g.num) }

/-- The checkpoint waits for this panel no more; the last one lets it write (20 R396). -/
def State.checkLeave (s : State) (n : Nat) : State :=
  match s.checkpoint with
  | some c =>
    if c.holding.contains n then
      let h := c.holding.filter (· != n)
      { s with
        checkpoint := some { c with holding := h }
        agenda := s.agenda ++ (if h = [] then [Due.checkpointComplete] else []) }
    else s
  | none => s

/-- A kill of a panel (17 R310). A saved panel has no cores, and its FENCED rest occupies none (17 R304). -/
def State.killPanel (s : State) (n : Nat) : State :=
  match s.panel n with
  | none => s
  | some p =>
    let ids := (s.cmds.filter (fun m => m.panel == n)).map (·.id)
    let s := { s with
      packets := s.packets.filter (fun (k : Packet) => k.injected || decide (8192 ≤ k.src) || !(p.occupies && p.has k.src))
      dies := s.dies.map (fun (x : Die) => { x with easelBox := x.easelBox.map (fun (l : List Msg) => l.filter (fun m => m.panel != n)) }) }
    let s := (s.purge ids).dropRound ids
    let s := if p.occupies then (s.resetCores p).refuseOffers p else s
    let s := match p.launch with
      | some l => s.answer 0x04 l.rq stPanelDown
      | none => s
    let s := p.launches.foldl (fun (s : State) (rq : Req) => s.answer 0x04 rq stLaunchState) s
    let s := (s.untime (.preemptTimeout n)).setPanel { p with
      state := 6, bars := .replicate 16 {}, barIdx := 0, savecur := 0, launch := none, launches := [], waiting := []
      collect := none, parked := [], saving := none, issuer := none, testHold := false, hostHeld := false, aside := none
      w := if p.state = 5 then 0 else p.w, h := if p.state = 5 then 0 else p.h }
    let s := match s.checkpoint with
      | some c => { s with checkpoint := some { c with killed := c.killed ++ [n] } }
      | none => s
    (s.checkLeave n).retryOps

/-- A kill by a health action (20 R385): a KILL record at a die, and the report to the panel's job (19 R374). -/
def State.healthKill (s : State) (die n : Nat) : State :=
  match s.panel n with
  | some p => if p.state = 6 then s else ((s.killPanel n).healthRecord die 9 n 0 (Config.recordCause 9 n)).reportDown n
  | none => s

/-! ## Loss of cores (17 R312, 20 R385) -/

/-- The die that an engine instance belongs to; none for the Atelier. -/
def dieOfEngine : Engine → Option Nat
  | .xfu cl => some (cl.val / 16)
  | .ske d => some d.val
  | .cle d => some d.val
  | .atelier => none
  | .cme d => some d.val
  | .easel d _ => some d.val
  | .walker d => some d.val
  | .cxl p => some p.val

/-- A panel learns that cores of it went down (17 R312): a running one enters state 7, and its job is told. -/
def State.degrade (s : State) (p : Panel) : State :=
  if p.state = 2 ∨ p.state = 7 then (s.setPanel { p with state := 7 }).reportDown p.num else s

/-- Whether the leader has combined a command's leaf in an operation that goes on; it keeps the leaf (12 R272). -/
def State.leafHeld (s : State) (m : Cmd) : Bool :=
  m.kind.coll.isSome && !m.ended && (match s.group_ m.grp with
    | some g => (match g.op m.opseq with | some o => !o.ended && o.arrived.contains m.slice | none => false)
    | none => false)

/-- Contexts on cores that went down are lost with their commands (17 Table 17-5, R312). -/
def State.losing (s : State) (gone : Nat → Bool) : State :=
  let ids := (s.cmds.filter (fun m => gone m.core && decide (m.kind ≠ CmdKind.popcmd) && !s.leafHeld m &&
    (match m.kind with | .pair _ => false | _ => true))).map (·.id)
  let s := s.purge ids
  let s := { s with cores := s.cores.map (fun (e : Nat × Core) =>
    if gone e.1 then (e.1, { e.2 with ctxs := e.2.ctxs.map Ctx.dormant }) else e) }
  let ps := s.panels.filter (fun p => p.occupies && p.cores.any gone)
  let s := ps.foldl (fun (s : State) (p : Panel) => (s.degrade p).testsDone p.num) s
  let s := { s with agenda := s.agenda ++
    (s.cores.filter (fun (e : Nat × Core) => gone e.1 && e.2.offers != [])).map (fun (e : Nat × Core) => Due.messageAdmit (Fin.ofNat 8192 e.1)) }
  s.retryOps

/-- A cluster retires (20 R384): its record, and the loss of its cores. -/
def State.retire (s : State) (cl : Nat) : State :=
  if (s.cluster cl).retired then s
  else
    let s := s.setCluster cl { s.cluster cl with retired := true }
    (s.healthRecord (cl / 16) 4 (cl * 64) 0 (Config.recordCause 4 (cl * 64))).losing (fun (c : Nat) => c / 64 == cl)

/-- The die that records the loss of a die: the master, or for the master itself the lowest other live die (20 R385). -/
def State.declarer (s : State) (d : Nat) : Option Nat :=
  match s.master with
  | some m => if m.val ≠ d ∧ s.dieLive m.val then some m.val else (List.range 8).find? (fun w => w != d && s.dieLive w)
  | none => none

/-- A die is declared lost (20 R385, 17 R312), with a record; commands that its engines held for other dies, or whose results its CLE was
sending, are abandoned with LINK (DESIGN CHOICE, assumption log 18), its connections close, and packets that it has not sent are gone; a checkpoint fails (20 R396). -/
def State.loseDie (s : State) (d : Nat) : State :=
  let awaited := s.packets.filterMap (fun (k : Packet) => match k.body with
    | .result c _ => if agentDie k.src = d ∧ !k.delivered then some c else none
    | _ => none)
  let s := s.setDie d { s.die d with stage := .lost }
  let s := { s with
    packets := s.packets.filter (fun (k : Packet) => k.injected || decide (2 ^ 14 ≤ k.src) || agentDie k.src != d)
    jobs := s.jobs.map (fun (j : Job) => if j.port = d then { j with open_ := false } else j) }
  let s := { s with panels := s.panels.map (fun (p : Panel) =>
    if p.occupies && p.cores.any (fun (c : Nat) => c / 1024 == d) then { p with gone := p.gone ++ [d] } else p) }
  let s := match s.declarer d with
    | some w => s.healthRecord w 7 d 0 (Config.recordCause 7 d)
    | none => s
  let s := s.losing (fun (c : Nat) => c / 1024 == d)
  let ms := s.cmds.filter (fun m => !m.ended && ((dieOfEngine m.engine == some d && !s.leafHeld m) || awaited.contains m.id))
  let s := ms.foldl (fun (s : State) (m : Cmd) => s.abandon m 0x13) s
  match s.checkpoint with
  | some c => { s with checkpoint := some { c with failed := true }, agenda := s.agenda ++ [Due.checkpointComplete] }
  | none => s

/-! ## Shadow swap (18 R344, R345) -/

/-- A byte that the layout of Table 18-11 leaves open, as a free value (DESIGN CHOICE, assumption log 3). -/
def freeBytes (fresh n : Nat) : List Byte := (List.range n).map (fun (i : Nat) => Config.freeByte (fresh + i))

/-- The stop state of a context (18 R340, Table 18-11): the record's header and entries, then g0 to g31; what no trap gave is
open. -/
def Ctx.stopState (x : Ctx) (fresh cycle : Nat) : List Byte :=
  let r := x.record { cause := .illegal, tval := 0 } x.pc x.pend false true cycle
  r.take 8 ++ freeBytes fresh 2 ++ (r.drop 10).take 6 ++ freeBytes (fresh + 2) 8 ++ r.drop 24

/-- The bytes of a part of an image whose layout is open, by its contents. -/
def openPart (k : ImagePart) (size x : Nat) : List Byte :=
  bytesOf size (Config.imageLayout k (8 * size) (BitVec.ofNat (8 * size) x)).toNat

/-- The contents of a part of an image whose layout is open, by its bytes at `o` of some cells. -/
def readPart (k : ImagePart) (size : Nat) (m : List Host.Cell) (o : Nat) : Nat :=
  ((Config.imageLayout k (8 * size)).symm (BitVec.ofNat (8 * size) (Memory.read m o size))).toNat

/-- Values of `w` bits side by side, the first lowest. -/
def sideBySide (w : Nat) : List Nat → Nat
  | [] => 0
  | x :: rest => x % 2 ^ w + 2 ^ w * sideBySide w rest

/-- `n` values of `w` bits that stand side by side from bit `lo` on. -/
def partsAt (x lo w n : Nat) : List Nat := (List.range n).map (fun (i : Nat) => fld x (lo + w * i) w)

/-- A queue as its count, in 8 bits, and its entries of `w` bits. -/
def packQueue (w : Nat) (xs : List Nat) : Nat := xs.length % 2 ^ 8 + 2 ^ 8 * sideBySide w xs

/-- A queue of at most `depth` entries from bit `lo` on. -/
def queueAt (x lo w depth : Nat) : List Nat := partsAt x (lo + 8) w (min depth (fld x lo 8))

/-- The contents of 0x2880 to 0x297F of a context block (18 Table 18-11). -/
def Ctx.openBits (x : Ctx) : Nat :=
  x.pc.toNat + 2 ^ 64 * (x.status true).toNat + 2 ^ 128 * x.epc.toNat + 2 ^ 192 * x.tval.toNat +
    2 ^ 256 * sideBySide 64 (x.winscale.toList.drop 1 |>.map BitVec.toNat) +
    2 ^ 1216 * sideBySide 10 (x.winfmt.toList.drop 1 |>.map BitVec.toNat) +
    2 ^ 1366 * sideBySide 7 (x.ports.toList.map (fun (p : Option Port) => match p with
      | some q => 1 + 2 * b2n q.wr + 4 * q.q.val
      | none => 0)) +
    2 ^ 1401 * x.tcause.toNat + 2 ^ 1418 * x.flags.toNat + 2 ^ 1424 * x.frm.toNat + 2 ^ 1426 * x.mfmt.toNat + 2 ^ 1432 * x.f8sel.toNat +
    2 ^ 1437 * x.hkey.toNat + 2 ^ 1447 * b2n (x.run != .dormant)

/-- A context with those contents; its pc, FLAGS and STATUS are in its stop state too. -/
def Ctx.fromOpen (x : Ctx) (n : Nat) : Ctx :=
  { x with
    run := if fld n 1447 1 = 0 then .dormant else .stopped
    epc := BitVec.ofNat 64 (fld n 128 64), tval := BitVec.ofNat 64 (fld n 192 64), tcause := BitVec.ofNat 17 (fld n 1401 17)
    winscale := .ofFn (fun (i : Fin 16) => if i = 0 then x.winscale[i] else BitVec.ofNat 64 (fld n (256 + 64 * (i.val - 1)) 64))
    winfmt := .ofFn (fun (i : Fin 16) => if i = 0 then x.winfmt[i] else BitVec.ofNat 10 (fld n (1216 + 10 * (i.val - 1)) 10))
    ports := .ofFn (fun (i : Fin 5) =>
      let p := fld n (1366 + 7 * i.val) 7
      if p % 2 = 0 then none else some { q := Fin.ofNat 32 (p / 4), wr := (p / 2).testBit 0 })
    frm := BitVec.ofNat 2 (fld n 1424 2), mfmt := BitVec.ofNat 6 (fld n 1426 6), f8sel := BitVec.ofNat 5 (fld n 1432 5)
    hkey := BitVec.ofNat 10 (fld n 1437 10) }

/-- The 2 KiB of a context block that go to the swap area (18 R344, Table 18-11). -/
def Ctx.swapBytes (x : Ctx) (fresh cycle : Nat) : List Byte :=
  ((x.z.toList.flatMap (fun (z : ZReg) => bytesOf 64 z.toNat)).drop 128) ++ x.stopState fresh cycle ++ openPart .context 256 x.openBits ++
    List.replicate 640 0

/-- A core's contexts go to the swap area and the shadow storage (18 R344); the locks they held are released by `swapOut`. -/
def State.swapCore (s : State) (c : Nat) : State :=
  let k := s.core c
  let s := (List.finRange 8).foldl (fun (s : State) (i : Fin 8) =>
    { s.putBytes none (regionBase c + 0x7C000 + 0x800 * i.val) ((k.ctxs[i]).swapBytes s.fresh s.cycle) with fresh := s.fresh + 300 }) s
  let k := s.core c
  s.setCore c { k with ctxs := k.ctxs.map (fun (x : Ctx) =>
    if x.run == .stopped then { x with run := .swapped, mon := none } else { x with mon := none }) }

/-- The lock bits of a panel's contexts are released (02 R40). -/
def State.unlockPanel (s : State) (p : Panel) : State :=
  s.overCores p (fun (k : Core) => { k with locks := k.locks.filter (fun (l : Nat × Nat) => !p.has (l.2 / 8)) })

/-- A swap out (18 R344, R345): from state 3 to state 4. -/
def State.swapOut (s : State) (p : Panel) : State :=
  let s := (s.cores.filter (fun (e : Nat × Core) => p.has e.1 && !s.coreDown e.1)).foldl
    (fun (s : State) (e : Nat × Core) => s.swapCore e.1) s
  (s.unlockPanel p).setPanel { p with state := 4 }

/-- A swap in (18 R344, R345): every context is stopped, its age 0, and the panel is in state 3. -/
def State.swapIn (s : State) (p : Panel) : State :=
  let s := s.overCores p (fun (k : Core) => { k with ctxs := k.ctxs.map (fun (x : Ctx) =>
    if x.run == .swapped then { x with run := .stopped, age := 0 } else x) })
  s.setPanel { p with state := 3 }

/-! ## Panel images (18 R346 to R349, DESIGN CHOICE, assumption log 11) -/

/-- The pages of 32 KiB that the bytes [lo, hi) of an image at `va` cross: each as the part [a, b) of the image on it. -/
def imagePages (va lo hi : Nat) : List (Nat × Nat) :=
  ((List.range ((va % 0x8000 + hi + 0x7FFF) / 0x8000)).map (fun (i : Nat) =>
    (max lo (0x8000 * i - va % 0x8000), min hi (0x8000 * (i + 1) - va % 0x8000)))).filter (fun (e : Nat × Nat) => decide (e.1 < e.2))

/-- Where a byte of an image lies in memory. -/
def State.imageKey (s : State) (p : Panel) (va o : Nat) (wr : Bool) : Option Nat :=
  match s.walk p.ptbase p.asid (va + o) wr with
  | .ok t => (s.served (t.phys (va + o))).map (·.1)
  | .error _ => none

/-- Writes the bytes [lo, hi) of an image at `va` through a panel's tables: those of the cells, by image offset, and zeros
between them; none where a page does not reach. -/
def State.putImageBytes (s : State) (p : Panel) (va lo hi : Nat) (cells : List Host.Cell) : State :=
  { s with mem := (imagePages va lo hi).foldl (fun (mem : List Host.Cell) (e : Nat × Nat) =>
      match s.imageKey p va e.1 true with
      | some key => (cells.filter (fun (x : Host.Cell) => decide (e.1 ≤ x.1) && decide (x.1 < e.2))).foldl
          (fun (m : List Host.Cell) (x : Host.Cell) => Memory.set m (key + (x.1 - e.1)) x.2) (Memory.clear mem key (key + (e.2 - e.1)))
      | none => mem) s.mem }

/-- The bytes [lo, lo + n) of an image at `va`, as cells by offset from `lo`. -/
def State.imagePart (s : State) (p : Panel) (va lo n : Nat) : List Host.Cell :=
  (imagePages va lo (lo + n)).flatMap (fun (e : Nat × Nat) =>
    match s.imageKey p va e.1 false with
    | some key => (s.mem.filter (fun (x : Host.Cell) => decide (key ≤ x.1) && decide (x.1 < key + (e.2 - e.1)))).map
        (fun (x : Host.Cell) => (x.1 - key + (e.1 - lo), x.2))
    | none => [])

/-- Whether an image holds an uncorrectable error. -/
def State.imageSpoiled (s : State) (p : Panel) (va n : Nat) : Bool :=
  (imagePages va 0 n).any (fun (e : Nat × Nat) =>
    match s.imageKey p va e.1 false with
    | some key => s.poison.any (fun (k : Nat) => decide (key / 32 ≤ k) && decide (k * 32 < key + (e.2 - e.1)))
    | none => false)

/-- The clusters wholly in a panel, ascending. -/
def Panel.clusters (p : Panel) : List Nat := (List.range 128).filter p.hasCluster

/-- The bytes of a core block (18 R346). -/
def coreBlock : Nat := 0xAC000

/-- LENGTH of a panel's image (18 R346). -/
def imageLen (p : Panel) (npark : Nat) : Nat :=
  0x1000 + coreBlock * (p.w * p.h) + 0x1000 + 0x1000 * p.clusters.length + 0x100 * npark

/-- The header of an image but for COMMIT (18 Table 18-10). -/
def imageHeader (p : Panel) (len cycle seq : Nat) : List Byte :=
  bytesOf 4 1 ++ bytesOf 4 p.num ++ bytesOf 1 p.x0 ++ bytesOf 1 p.y0 ++ bytesOf 1 p.w ++ bytesOf 1 p.h ++
    bytesOf 4 (p.w * p.h) ++ bytesOf 8 len ++ bytesOf 8 cycle ++ bytesOf 4 seq ++ List.replicate 4052 0

/-- The image offset of the first sector of a panel's scratch that holds an uncorrectable error. -/
def State.poisonAt (s : State) (p : Panel) (start : Nat) : Option Nat :=
  let offs := p.cores.zipIdx.flatMap (fun (e : Nat × Nat) =>
    ((s.poison.filter (fun k => k * 32 / 2 ^ 19 == e.1)).map (fun (k : Nat) => 0x1000 + coreBlock * e.2 + k * 32 % 2 ^ 19)))
  (offs.filter (fun o => decide (start ≤ o))).foldl (fun (m : Option Nat) (o : Nat) =>
    match m with | some x => some (min x o) | none => some o) none

/-- The image offset of the first byte whose page cannot be written, or read (18 R347, R348, R351). -/
def State.unmappedAt (s : State) (p : Panel) (va start len : Nat) (wr : Bool) : Option Nat :=
  ((List.range ((va % 0x8000 + len + 0x7FFF) / 0x8000)).map (fun (i : Nat) => max start (va / 0x8000 * 0x8000 + 0x8000 * i - va))).find? (fun o =>
    decide (start ≤ o) && decide (o < len) && (match s.walk p.ptbase p.asid (va + o) wr with
      | .ok t => (match s.served (t.phys (va + o)) with
        | some (_, e) => (s.unreachable e).isSome
        | none => true)
      | .error _ => true))

/-- The bytes of the issuer's context block in an image, which a save writes last before the header; none of a save that a host asked
for. -/
def issuerBlock (p : Panel) (v : Saving) (len : Nat) : Nat × Nat :=
  match v.issuer with
  | some (c, k) => let o := 0x1000 + coreBlock * p.cores.idxOf c + 0x80000 + 0x2C00 * k.val
    (o, o + 0x2C00)
  | none => (len, len)

/-- Where and why a save stops on its way through the blocks (18 R347, Table 18-13): the first offset from the cursor on, but for the
issuer's context block. -/
def State.bodyStop (s : State) (p : Panel) (v : Saving) (len : Nat) : Option (Nat × Nat) :=
  let lo := max v.cursor 0x1000
  let b := issuerBlock p v len
  let stops := ((s.unmappedAt p v.va lo (min len b.1) true).map (fun (o : Nat) => (o, 1))).toList ++
    ((s.unmappedAt p v.va (max lo b.2) len true).map (fun (o : Nat) => (o, 1))).toList ++
    (if v.length < len then [(max v.cursor v.length, 2)] else []) ++
    ((s.poisonAt p v.cursor).map (fun (o : Nat) => (o, 3))).toList
  stops.foldl (fun (m : Option (Nat × Nat)) (e : Nat × Nat) =>
    match m with | some x => if e.1 < x.1 then some e else some x | none => some e) none

/-- Where a save stops in the issuer's context block or the header, which it writes after the blocks, below the cursor too. -/
def State.lastStop (s : State) (p : Panel) (v : Saving) (len : Nat) : Option (Nat × Nat) :=
  let b := issuerBlock p v len
  ((s.unmappedAt p v.va b.1 b.2 true).or (s.unmappedAt p v.va 0 0x1000 true)).map (fun (o : Nat) => (o, 1))

/-- Where and why a save stops (18 R347, Table 18-13), in the order in which it writes. -/
def State.saveStopAt (s : State) (p : Panel) (v : Saving) (len : Nat) : Option (Nat × Nat) :=
  (s.bodyStop p v len).or (s.lastStop p v len)

/-- The core block of a core as it stands (18 Table 18-12). -/
def State.blockOf (s : State) (c : Nat) : SavedCore where
  scratch := (s.mem.filter (fun (x : Host.Cell) => decide (regionBase c ≤ x.1) && decide (x.1 < regionBase (c + 1)))).map
    (fun (x : Host.Cell) => (x.1 - regionBase c, x.2))
  core := s.core c
  words := ((s.cluster (c / 64)).words.filter (fun (w : Nat × VWord) => w.1 / 128 == c % 64)).map
    (fun (w : Nat × VWord) => (w.1 % 128, w.2))

/-- Bytes as cells from an offset on. -/
def cellsAt (o : Nat) (bs : List Byte) : List Host.Cell := bs.zipIdx.map (fun (e : Byte × Nat) => (o + e.2, e.1))

/-- The context block of a swapped context (18 Table 18-11): its registers, and what the swap area holds, but for g0 to g31. -/
def State.ctxBlock (s : State) (c : Nat) (k : Fin 8) : List Byte :=
  let x := s.ctx c k
  let sw := s.bytes (regionBase c + 0x7C000 + 0x800 * k.val) 0x800
  x.v.toList.flatMap (fun (r : VReg) => bytesOf 512 r.toNat) ++ (x.p.toList.drop 1).flatMap (fun (r : PReg) => bytesOf 128 r.toNat) ++
    (x.z.toList.flatMap (fun (z : ZReg) => bytesOf 64 z.toNat)).take 128 ++ sw.take 0x380 ++ bytesOf 8 0 ++
    (x.g.toList.drop 1).flatMap (fun (w : Word) => bytesOf 8 w.toNat) ++ sw.drop 0x480

/-- The contents of a weight-buffer slot (18 Table 18-12): tag, codes, records, metadata. -/
def WSlot.openBits (w : WSlot) : Nat :=
  w.codes.toNat + 2 ^ 4096 * w.records.toNat + 2 ^ 5120 * w.meta_.toNat + 2 ^ 6144 * b2n w.valid + 2 ^ 6145 * w.fmt.toNat +
    2 ^ 6151 * b2n w.scaled + 2 ^ 6152 * b2n w.sparse + 2 ^ 6153 * w.kn.toNat + 2 ^ 6161 * b2n w.tr

/-- A weight-buffer slot with those contents. -/
def slotOf (n : Nat) : WSlot where
  codes := BitVec.ofNat 4096 n
  records := BitVec.ofNat 1024 (fld n 4096 1024)
  meta_ := BitVec.ofNat 1024 (fld n 5120 1024)
  valid := n.testBit 6144
  fmt := BitVec.ofNat 6 (fld n 6145 6)
  scaled := n.testBit 6151
  sparse := n.testBit 6152
  kn := BitVec.ofNat 8 (fld n 6153 8)
  tr := n.testBit 6161

/-- The contents of 0x9_F000 to 0x9_FFFF of a core block (18 Table 18-12): registers, scalar and completion queues. -/
def Core.openBits (k : Core) : Nat :=
  sideBySide 64 (k.routine.toList.map BitVec.toNat) + 2 ^ 4096 * k.fitness.toNat + 2 ^ 4128 * k.fitgen.toNat + 2 ^ 4160 * k.rxctx.toNat +
    2 ^ 4168 * k.tvec.toNat + 2 ^ 4232 * k.swq.toNat + 2 ^ 4240 * k.atq.toNat +
    2 ^ 4248 * sideBySide 520 (k.squeue.toList.map (fun (q : List Word) => packQueue 64 (q.map BitVec.toNat))) +
    2 ^ 8408 * sideBySide 1032 (k.ctxs.toList.map (fun (x : Ctx) => packQueue 64 (x.compq.map BitVec.toNat)))

/-- A core with those contents. -/
def Core.fromOpen (k : Core) (n : Nat) : Core :=
  { k with
    routine := .ofFn (fun (i : Fin 64) => BitVec.ofNat 64 (fld n (64 * i.val) 64))
    fitness := BitVec.ofNat 32 (fld n 4096 32), fitgen := BitVec.ofNat 32 (fld n 4128 32), rxctx := BitVec.ofNat 8 (fld n 4160 8)
    tvec := BitVec.ofNat 64 (fld n 4168 64), swq := BitVec.ofNat 8 (fld n 4232 8), atq := BitVec.ofNat 8 (fld n 4240 8)
    squeue := .ofFn (fun (i : Fin 8) => (queueAt n (4248 + 520 * i.val) 64 8).map (BitVec.ofNat 64))
    ctxs := k.ctxs.mapIdx (fun (i : Nat) (x : Ctx) => { x with compq := (queueAt n (8408 + 1032 * i) 64 16).map (BitVec.ofNat 64) }) }

/-- The receive store (18 Table 18-12): the payloads of the inbox, each from a 64-byte slot on. -/
def storeBytes (ms : List Msg) : List Byte :=
  ms.flatMap (fun (m : Msg) => m.payload ++ List.replicate ((64 - m.payload.length % 64) % 64) 0)

/-- The contents of an inbox (18 Table 18-12): its headers with their ages and senders, then the receive store. -/
def inboxBits (ms : List Msg) (cycle : Nat) : Nat :=
  sideBySide 256 (ms.map (fun (m : Msg) => 1 + 2 * b2n m.cross + 4 * m.h0.toNat + 2 ^ 66 * m.h1.toNat + 2 ^ 130 * ((cycle - m.at_) % 2 ^ 64) +
    2 ^ 194 * (m.src % 2 ^ 32) + 2 ^ 226 * ((match m.srcSlot with | some k => k % 8 + 1 | none => 0)))) +
    2 ^ 16384 * numOf (storeBytes ms)

/-- The messages of an inbox with those contents: header `i` on, whose payload begins at byte `o` of the store. -/
def inboxOf (n panel cycle : Nat) : Nat → Nat → Nat → List Msg
  | 0, _, _ => []
  | left + 1, i, o =>
    let h := fld n (256 * i) 256
    if h % 2 = 0 then []
    else
      let h0 := BitVec.ofNat 64 (fld h 2 64)
      let k := fld h 226 4
      { h0 := h0, h1 := BitVec.ofNat 64 (fld h 66 64), payload := bytesOf (hdrLen h0) (n / 2 ^ (16384 + 8 * o)), panel := panel
        cross := h.testBit 1, src := fld h 194 32, srcSlot := if k = 0 then none else some (k - 1), at_ := cycle - fld h 130 64 } ::
        inboxOf n panel cycle left (i + 1) (o + (hdrLen h0 + 63) / 64 * 64)

/-- The contents of a versioned word (18 Table 18-12). -/
def VWord.openBits (w : VWord) : Nat := w.cur.toNat + 2 ^ 64 * w.prev.toNat + 2 ^ 128 * w.ver.toNat + 2 ^ 144 * b2n w.plive

/-- A versioned word with those contents. -/
def vwordOf (n : Nat) : VWord where
  cur := BitVec.ofNat 64 n
  prev := BitVec.ofNat 64 (fld n 64 64)
  ver := BitVec.ofNat 16 (fld n 128 16)
  plive := n.testBit 144

/-- A core block (18 Table 18-12) by its offsets. -/
def State.coreCells (s : State) (c : Nat) : List Host.Cell :=
  let b := s.blockOf c
  b.scratch ++ (List.finRange 8).flatMap (fun (k : Fin 8) => cellsAt (0x80000 + 0x2C00 * k.val) (s.ctxBlock c k)) ++
    cellsAt 0x96000 (b.core.maps.toList.flatMap (fun (d : Desc) => bytesOf 128 d.toNat) ++
      b.core.wbuf.toList.flatMap (fun (w : WSlot) => openPart .weights 0x400 w.openBits) ++ openPart .registers 0x1000 b.core.openBits ++
      openPart .vectors 0x1000 (sideBySide 8200 (b.core.vqueue.toList.map (fun (q : List VReg) => packQueue 4096 (q.map BitVec.toNat)))) ++
      openPart .inbox 0x8800 (inboxBits b.core.inbox s.cycle) ++
      (List.range 128).flatMap (fun (i : Nat) => openPart .word 80 (SMap.get b.words {} i).openBits))

/-- A panel barrier in an image (18 Table 18-12a). -/
def Barrier.bytes (b : Barrier) : List Byte :=
  bytesOf 16 (b.count.toNat + b.arrived.toNat * 2 ^ 16 + b.phase.toNat * 2 ^ 32 + b.merge.toNat * 2 ^ 40 + b.last.toNat * 2 ^ 48)

/-- The contents of a publish entry (18 Table 18-12a): an open bit, FRONT, BACK, LEN and GEN. -/
def pubBits (p : Option Pub) : Nat :=
  match p with
  | some x => 1 + 2 * (x.front % 2 ^ 32) + 2 ^ 33 * (x.back % 2 ^ 32) + 2 ^ 65 * (x.len % 2 ^ 32) + 2 ^ 97 * x.gen.toNat
  | none => 0

/-- A publish entry with those contents. -/
def pubOf (n : Nat) : Option Pub :=
  if n % 2 = 0 then none
  else some { front := fld n 1 32, back := fld n 33 32, len := fld n 65 32, gen := BitVec.ofNat 16 (fld n 97 16) }

/-- A cluster block (18 Table 18-12a); the places of the queue that hold no record are free. -/
def Cluster.block (x : Cluster) (fresh : Nat) : List Byte :=
  x.tasks.flatMap (fun (t : BitVec 512) => bytesOf 64 t.toNat) ++ freeBytes fresh (0x800 - 64 * x.tasks.length) ++
    bytesOf 8 x.tqcfg.toNat ++ bytesOf 8 x.tdcfg.toNat ++ bytesOf 8 x.tdPos ++ List.replicate 0xE8 0 ++
    x.pub.toList.flatMap (fun (p : Option Pub) => openPart .publish 32 (pubBits p)) ++ List.replicate 0x500 0

/-- The 256 bytes of a parked command (18 Table 18-12a). -/
def State.parkedBlock (s : State) (i : Nat) : List Byte := bytesOf 256 (((s.cmd i).map Config.parkedBytes).getD 0).toNat

/-- The panel block (18 Table 18-12a). -/
def State.panelBlock (s : State) (p : Panel) (fresh : Nat) : List Byte :=
  p.bars.toList.flatMap Barrier.bytes ++ bytesOf 4 p.clusters.length ++ bytesOf 4 p.parked.length ++ List.replicate 3832 0 ++
    p.clusters.zipIdx.flatMap (fun (e : Nat × Nat) => (s.cluster e.1).block (fresh + 0x1000 * e.2)) ++
    p.parked.flatMap s.parkedBlock

/-- What an image holds behind its header, by offset. -/
def State.imageCells (s : State) (p : Panel) : List Host.Cell :=
  let body := p.cores.zipIdx.flatMap (fun (e : Nat × Nat) =>
    (s.coreCells e.1).map (fun (x : Host.Cell) => (0x1000 + coreBlock * e.2 + x.1, x.2)))
  let o := coreBlock * (p.w * p.h)
  body ++ cellsAt (0x1000 + o) (s.panelBlock p s.fresh)

/-- The save engine writes an image from its cursor up to `hi` (18 R347), and of the issuer's context block what lies below `last`. -/
def State.saveBytes (s : State) (p : Panel) (v : Saving) (hi last : Nat) : State :=
  let cells := s.imageCells p
  let lo := max v.cursor 0x1000
  let b := issuerBlock p v (imageLen p p.parked.length)
  let t := (s.putImageBytes p v.va lo (min hi b.1) cells).putImageBytes p v.va (max lo b.2) hi cells
  let t := t.putImageBytes p v.va b.1 (min last b.2) cells
  { t with fresh := t.fresh + imageLen p p.parked.length }

/-- The core block of a continued save (18 R347): a block below the cursor is that of the earlier part, but for the issuer's
context, which is written last. -/
def mergeBlock (old new : SavedCore) (cut : Nat) (issuer : Option (Fin 8)) : SavedCore :=
  if coreBlock ≤ cut then
    (match issuer with
      | some k => { old with core := { old.core with ctxs := old.core.ctxs.set k (new.core.ctxs[k]) } }
      | none => old)
  else new

/-- The uncommitted part of a panel's stopped save. -/
def State.partOf (s : State) (n : Nat) : Option Saved := s.saved.find? (fun x => x.panel == n && !x.committed)

/-- The image of a panel as its save has it now (18 R346), by logical position: what the bytes in memory do not give. -/
def State.imageOf (s : State) (p : Panel) (v : Saving) (committed : Bool) : Saved :=
  let old := s.partOf p.num
  { va := v.va, space := v.space, pa := 0, format := 1, panel := p.num, x0 := p.x0, y0 := p.y0, w := p.w, h := p.h
    length := imageLen p p.parked.length, cycle := v.cycle, seq := v.seq, committed := committed
    cores := p.cores.zipIdx.map (fun (e : Nat × Nat) =>
      let new := { s.blockOf e.1 with scratch := [] }
      match old.bind (fun (o : Saved) => o.cores[e.2]?) with
      | some b => mergeBlock b new (v.cursor - (0x1000 + coreBlock * e.2)) (match v.issuer with
          | some (c, k) => if c = e.1 then some k else none
          | none => none)
      | none => new)
    bars := p.bars
    clusters := p.clusters.map s.cluster
    parked := p.parked.filterMap s.cmd ++ s.cmds.filter (fun m => m.panel == p.num && m.ended) }

/-- The save engine writes a held panel (18 R347): what it comes to is due. -/
def State.saveEngine (s : State) (n : Nat) : State :=
  match s.panel n with
  | some p => match p.saving with
    | some v =>
      let s := if p.state = 4 then s else s.swapOut p
      let d := match s.saveStopAt p v (imageLen p p.parked.length) with
        | some (o, r) => Due.saveStop n (BitVec.ofNat 2 r) (BitVec.ofNat 40 o)
        | none => Due.saveComplete n
      { s with agenda := s.agenda ++ [d] }
    | none => s
  | none => s

/-- Writes a general register of a context that is not issuing, or pushes its queue port (03 R56). -/
def State.giveG (s : State) (c : Nat) (k : Fin 8) (r : Fin 32) (v : Word) : State :=
  if r = 0 then s
  else match (s.ctx c k).gport r with
    | some p =>
      let x := s.core c
      let q : Fin 8 := Fin.ofNat 8 p.q.val
      s.setCore c { x with squeue := x.squeue.set q (x.squeue[q] ++ [v]) }
    | none => s.setCtx c k { s.ctx c k with g := (s.ctx c k).g.set r v }

/-- The contexts of a panel end as a restore or the loss of their panel ends them (03 R43). -/
def State.endAll (s : State) (p : Panel) : State :=
  (s.overCores p (fun (k : Core) => { k with ctxs := k.ctxs.map Ctx.dormant })).unlockPanel p

/-- A saved panel leaves its cores (18 R347): its commands are in the image, and nothing of it stays on the cores. -/
def State.vacate (s : State) (p : Panel) : State :=
  let ids := (s.cmds.filter (fun m => m.panel == p.num)).map (·.id)
  ((s.purge ids).dropRound ids).resetCores p

/-- A save completes (18 R347): every byte, then COMMIT; SAVECUR is 0 and the panel SAVED. The image holds gD of a SAVEP as
0. -/
def State.saveDone (s : State) (p : Panel) (v : Saving) : State :=
  let t := match v.issuer with
    | some (c, k) => s.giveG c k v.dst 0
    | none => s
  let img := t.imageOf p v true
  let s := t.saveBytes p v img.length img.length
  let s := s.putImageBytes p v.va 0 0x1000 (cellsAt 0 (imageHeader p img.length img.cycle img.seq))
  let s := s.putImageBytes p v.va 0xFF8 0x1000 (cellsAt 0xFF8 (bytesOf 8 (1 + v.seq * 2 ^ 32)))
  let s := { s with saved := s.saved.filter (fun (x : Saved) => (x.committed || x.panel != p.num) && x.va != v.va) ++ [img] }
  let s := s.vacate p
  let s := s.setPanel { p with state := 5, savecur := 0, saving := none, issuer := none, parked := [], collect := none }
  match v.rq with
  | some rq => s.answer 0x0B rq stOK
  | none => s

/-- SAVECUR (18 Table 18-13). -/
def savecurOf (reason cursor : Nat) : Word := BitVec.ofNat 64 (2 ^ 63 + reason % 4 * 2 ^ 61 + cursor % 2 ^ 40)

/-- A save stops (18 R347), with what it writes before the stop written: SAVECUR names where; the panel is in state 3, and the issuer alone
goes on with 1 or 2. -/
def State.saveHalted (s : State) (p : Panel) (v : Saving) (reason cursor : Nat) : State :=
  let img := s.imageOf p v false
  let s := if (s.bodyStop p v img.length).isSome then s.saveBytes p v cursor 0
    else s.saveBytes p v img.length (if cursor = 0 then img.length else cursor)
  let s := { s with saved := s.saved.filter (fun (x : Saved) => x.committed || x.panel != p.num) ++ [img] }
  let s := s.swapIn p
  let s := s.setPanel { p with state := 3, savecur := savecurOf reason cursor, saving := none, issuer := v.issuer, hostHeld := v.rq.isSome }
  let s := match v.issuer with
    | some (c, k) =>
      let s := s.giveG c k v.dst (if reason = 2 then 2 else 1)
      s.setCtx c k { s.ctx c k with run := .ready }
    | none => s
  match v.rq with
  | some rq => s.send { replyTo 0x0B rq stRange with arg0 := savecurOf reason cursor }
  | none => s

/-- The structured image behind a header in memory (DESIGN CHOICE, assumption log 11). -/
def State.imageBy (s : State) (h : List Byte) : Option Saved :=
  s.saved.find? (fun x => x.committed && x.panel == numOf ((h.drop 4).take 4) && x.cycle == numOf ((h.drop 24).take 8) &&
    x.seq == numOf ((h.drop 32).take 4))

/-- A core of an image, with nothing in progress that no part of a block is named to hold (18 R346). -/
def SavedCore.within (b : SavedCore) : SavedCore :=
  { b with core := { b.core with
      ctxs := b.core.ctxs.map (fun (x : Ctx) => { x with mon := none, wait := none, caught := none, mat := none })
      offers := [], locks := [], badMat := false } }

/-- An image in memory of which the model keeps no record: what no part of it is named to hold stands for its bytes as the specification
does not say (DESIGN CHOICE, assumption log 11). -/
def State.openImage (s : State) (p : Panel) (va : Nat) (h : List Byte) : Saved :=
  { va := va, space := 0, pa := 0, format := 1, panel := numOf ((h.drop 4).take 4), x0 := p.x0, y0 := p.y0, w := p.w, h := p.h
    length := numOf ((h.drop 16).take 8), cycle := numOf ((h.drop 24).take 8), seq := numOf ((h.drop 32).take 4), committed := true
    cores := (List.range (p.w * p.h)).map (fun (i : Nat) =>
      (Config.openCore (s.imagePart p va (0x1000 + coreBlock * i) coreBlock)).within)
    bars := p.bars
    clusters := p.clusters.map (fun _ => Cluster.reset)
    parked := [] }

/-- The image behind a header, as it was saved, or as its bytes in memory have it. -/
def State.imageAt (s : State) (p : Panel) (va : Nat) (h : List Byte) : Saved := (s.imageBy h).getD (s.openImage p va h)

/-- A context from its context block at `o` of some cells (18 Table 18-11): its registers, and its stop state as an ERET takes a record
(18 R335, R340), `mask` the mask of the c.rep at a pc; `x` holds what no part of the block is named to hold. -/
def Ctx.fromBlock (x : Ctx) (m : List Host.Cell) (o : Nat) (mask : Word → Option (BitVec 4)) : Ctx :=
  let rd := fun (k n : Nat) => Memory.read m (o + 0x2580 + k) n
  let pc := BitVec.ofNat 64 (rd 0 8)
  { x.fromOpen (readPart .context 256 m (o + 0x2880)) with
    pc := pc
    pend := (List.range (min 8 (rd 0x0A 1))).map (fun (k : Nat) => entryOf (bytesOf 32 (rd (0x100 + 32 * k) 32)))
    rep := if rd 0x0C 1 = 0 then none else (mask pc).map (fun (b : BitVec 4) => { n := rd 0x0C 1, mask := b, idx := rd 0x0D 1 })
    flags := BitVec.ofNat 6 (rd 0x18 1)
    mode := (rd 0x20 1).testBit 0, pmode := (rd 0x20 1).testBit 1, iprio := BitVec.ofNat 6 (rd 0x21 1)
    v := .ofFn (fun (i : Fin 16) => BitVec.ofNat 4096 (Memory.read m (o + 512 * i.val) 512))
    p := .ofFn (fun (i : Fin 8) => if i = 0 then x.p[i] else BitVec.ofNat 1024 (Memory.read m (o + 0x1F80 + 128 * i.val) 128))
    z := .ofFn (fun (i : Fin 8) => BitVec.ofNat 512 (Memory.read m (o + 0x2380 + 64 * i.val) 64))
    g := .ofFn (fun (i : Fin 32) => if i = 0 then 0 else BitVec.ofNat 64 (Memory.read m (o + 0x2780 + 8 * i.val) 8)) }

/-- A panel barrier from its 16 bytes (18 Table 18-12a). -/
def barrierOf (n : Nat) : Barrier where
  count := BitVec.ofNat 16 n
  arrived := BitVec.ofNat 16 (n / 2 ^ 16)
  phase := BitVec.ofNat 4 (n / 2 ^ 32)
  merge := BitVec.ofNat 6 (n / 2 ^ 40)
  last := BitVec.ofNat 6 (n / 2 ^ 48)

/-- A cluster from its block (18 Table 18-12a): the task queue with TQCFG, TDCFG and the cursor, and the publish table. -/
def Cluster.fromBlock (x : Cluster) (m : List Host.Cell) : Cluster :=
  let q := Memory.read m 0x800 8
  { x with
    tasks := (List.range (min 32 (q / 2 ^ 55 % 64))).map (fun (i : Nat) => BitVec.ofNat 512 (Memory.read m (64 * i) 64))
    tqTail := BitVec.ofNat 13 (q / 2 ^ 42), tqHead := BitVec.ofNat 13 (q / 2 ^ 29), tqSize := BitVec.ofNat 4 (q / 2 ^ 25)
    tqBase := BitVec.ofNat 25 q, tdcfg := BitVec.ofNat 64 (Memory.read m 0x808 8), tdPos := Memory.read m 0x810 8
    pub := .ofFn (fun (i : Fin 16) => pubOf (readPart .publish 32 m (0x900 + 32 * i.val))) }

/-- The mask of the c.rep at a pc of a core, if one is there, in the code of an image. -/
def State.imageMask (s : State) (p : Panel) (va c : Nat) (pc : Word) : Option (BitVec 4) :=
  let r := c / 64 * 64 + pc.toNat % 2 ^ 25 / 2 ^ 19
  match decode16 (Memory.read (s.imagePart p va (0x1000 + coreBlock * p.cores.idxOf r + pc.toNat % 2 ^ 19) 2) 0 2) with
  | .ok (.cRep m _) => if p.has r then some m else none
  | _ => none

/-- A core from its core block (18 Table 18-12); `b` holds what no part of the block is named to hold. -/
def SavedCore.fromBlock (b : SavedCore) (m : List Host.Cell) (panel cycle : Nat) (mask : Word → Option (BitVec 4)) : SavedCore :=
  let k := { b.core with ctxs := b.core.ctxs.mapIdx (fun (i : Nat) (x : Ctx) => x.fromBlock m (0x80000 + 0x2C00 * i) mask) }
  let vs := readPart .vectors 0x1000 m 0xA0000
  { scratch := m.filter (fun (x : Host.Cell) => decide (x.1 < 0x80000))
    core := { k.fromOpen (readPart .registers 0x1000 m 0x9F000) with
      maps := .ofFn (fun (i : Fin 32) => BitVec.ofNat 1024 (Memory.read m (0x96000 + 128 * i.val) 128))
      wbuf := .ofFn (fun (i : Fin 32) => slotOf (readPart .weights 0x400 m (0x97000 + 0x400 * i.val)))
      vqueue := .ofFn (fun (i : Fin 2) => (queueAt vs (8200 * i.val) 4096 2).map (BitVec.ofNat 4096))
      inbox := inboxOf (readPart .inbox 0x8800 m 0xA1000) panel cycle 64 0 0 }
    words := ((List.range 128).map (fun (i : Nat) => (i, vwordOf (readPart .word 80 m (0xA9800 + 80 * i))))).filter
      (fun (w : Nat × VWord) => decide (w.2 ≠ {})) }

/-- A parked command from its bytes (18 Table 18-12a): the one of the image's record that has them, if there is one. -/
def parkedOf (ms : List Cmd) (b : BitVec 2048) : Cmd :=
  { (ms.find? (fun (m : Cmd) => Config.parkedBytes m == b)).getD (Config.openParked b) with state := .parked }

/-- An image as memory holds it; `img` holds what no part of it is named to hold, and the commands that had ended. -/
def State.asWritten (s : State) (p : Panel) (va : Nat) (img : Saved) : Saved :=
  let o := 0x1000 + coreBlock * img.cores.length
  let bars := s.imagePart p va o 0x100
  let parks := s.imagePart p va (o + 0x1000 + 0x1000 * img.clusters.length) (0x100 * Memory.read (s.imagePart p va (o + 0x104) 4) 0 4)
  { img with
    cores := img.cores.zipIdx.map (fun (e : SavedCore × Nat) => e.1.fromBlock (s.imagePart p va (0x1000 + coreBlock * e.2) coreBlock) p.num
      s.cycle (s.imageMask p va (p.cores.getD e.2 0)))
    parked := (List.range (Memory.read (s.imagePart p va (o + 0x104) 4) 0 4)).map (fun (i : Nat) =>
        parkedOf img.parked (BitVec.ofNat 2048 (Memory.read parks (256 * i) 256))) ++
      img.parked.filter (fun (m : Cmd) => m.ended)
    bars := .ofFn (fun (i : Fin 16) => barrierOf (Memory.read bars (16 * i.val) 16))
    clusters := img.clusters.zipIdx.map (fun (e : Cluster × Nat) =>
      e.1.fromBlock (s.imagePart p va (o + 0x1000 + 0x1000 * e.2) 0x1000)) }

/-- Why the first pass of a restore fails (18 R348): 4 format, 2 not committed, 1 shape, 3 a down core, in this order (DESIGN
CHOICE, assumption log 84). -/
def State.shapeFault (s : State) (p : Panel) (h : List Byte) : Option Nat :=
  let byte := fun (k : Nat) => (h.getD k 0).toNat
  if numOf (h.take 4) ≠ 1 then some 4
  else if byte 0xFF8 % 2 ≠ 1 then some 2
  else if byte 8 ≠ p.x0 % 256 ∨ byte 9 ≠ p.y0 % 256 ∨ byte 10 ≠ p.w % 256 ∨ byte 11 ≠ p.h % 256 then some 1
  else if p.cores.any s.coreDown then some 3
  else none

/-- The cached translations of an address space leave a panel's cores and clusters (18 R348, R353). -/
def State.dropAsid (s : State) (p : Panel) (asid : BitVec 16) : State :=
  let s := s.overCores p (fun (k : Core) => { k with tlb := k.tlb.filter (fun (e : TlbEntry) => e.asid != asid) })
  let cls := (p.cores.map (fun (c : Nat) => c / 64)).eraseDups
  { s with clusters := s.clusters.map (fun (e : Nat × Cluster) =>
      if cls.contains e.1 then (e.1, { e.2 with tlb := e.2.tlb.filter (fun (t : TlbEntry) => t.asid != asid) }) else e) }

/-- One core block goes to its core (18 R348): the target's PANELID, PTBASE and ASID stay, its health, and the messages that are held
back at it (03 R48). -/
def State.putBlock (s : State) (c : Nat) (b : SavedCore) : State :=
  let k := s.core c
  let mem := b.scratch.foldl (fun (m : List Host.Cell) (x : Host.Cell) => Memory.set m (regionBase c + x.1) x.2)
    (Memory.clear s.mem (regionBase c) (regionBase (c + 1)))
  let s := { s with mem := mem }
  let s := s.setCore c { b.core with
    ctxs := b.core.ctxs.map (fun (x : Ctx) => if x.run == .swapped then { x with run := .stopped, age := 0 } else x)
    score := k.score, banks := k.banks, actfcst := k.actfcst, busyMat := k.busyMat, busyVec := k.busyVec, actAt := k.actAt
    panelId := k.panelId, ptbase := k.ptbase, asid := k.asid, tlb := [], offers := k.offers }
  let x := s.cluster (c / 64)
  let ws := b.words.foldl (fun (l : List (Nat × VWord)) (w : Nat × VWord) => SMap.set l (c % 64 * 128 + w.1) w.2)
    (x.words.filter (fun (w : Nat × VWord) => w.1 / 128 != c % 64))
  s.setCluster (c / 64) { x with words := ws }

/-- One cluster block goes to its cluster: task queue, dispenser and publish table (18 Table 18-12a). -/
def State.putCluster (s : State) (cl : Nat) (b : Cluster) : State :=
  s.setCluster cl { s.cluster cl with
    tasks := b.tasks, tqSize := b.tqSize, tqBase := b.tqBase, tqHead := b.tqHead, tqTail := b.tqTail, tdcfg := b.tdcfg
    tdPos := b.tdPos, pub := b.pub, starveAt := none, victim := none, asking := false, donated := none }

/-- The commands of an image come back under the target panel, parked ones in park order and in their inboxes, the sectors that they
still have to write set going anew. -/
def State.putCmds (s : State) (p : Panel) : List Cmd → State
  | [] => s
  | m :: rest =>
    let id := s.names
    let s := { s with cmds := s.cmds ++ [{ m with id := id, panel := p.num }], names := id + 1 }
    let s := if m.state = .parked then
        (match s.panel p.num with
          | some q => ({ s.enterBox m.engine id with agenda := s.agenda }.setPanel { q with parked := q.parked ++ [id] }).issueSectors
              { m with id := id, panel := p.num }
          | none => s)
      else s
    s.putCmds p rest

/-- The second pass of a restore (18 R348): every block to the same logical position. -/
def State.putImage (s : State) (p : Panel) (img : Saved) : State :=
  let s := (s.vacate p).endAll p
  let s := (p.cores.zip img.cores).foldl (fun (s : State) (e : Nat × SavedCore) => s.putBlock e.1 e.2) s
  let s := (p.clusters.zip img.clusters).foldl (fun (s : State) (e : Nat × Cluster) => s.putCluster e.1 e.2) s
  let s := s.dropAsid p p.asid
  let s := s.setPanel { p with
    bars := img.bars, savecur := 0, saving := none, issuer := none, parked := [], collect := none, state := 3
    hostHeld := true }
  s.putCmds p img.parked

/-- A restore completes (18 R348): onto a running panel it resumes at once; a saved panel is then held. -/
def State.restoreDone (s : State) (p : Panel) (v : Saving) (img : Saved) : State :=
  let s := s.putImage p img
  match v.issuer, s.panel p.num with
  | some _, some q => s.runPanel q 2
  | _, _ => match v.rq with
    | some rq => s.answer 0x0C rq stOK
    | none => s

/-- A restore fails in its second pass (18 R348): the panel is killed, and the host told. -/
def State.restoreLost (s : State) (p : Panel) (v : Saving) : State :=
  let s := s.killPanel p.num
  match v.rq with
  | some rq => s.answer 0x0C rq stRestoreFailed
  | none => s.report {
      job := p.job, op := 0x16, status := stRestoreFailed, tag := 0, panel := p.num, arg0 := 0, arg1 := 0, payload := [] }

/-! ## The end of a collection (17 R318, R322) -/

/-- The panel is HELD (17 R318, step 4): what it was held for goes on. -/
def State.nowHeld (s : State) (p : Panel) (c : Collect) : State :=
  let s := (s.untime (.preemptTimeout p.num)).setPanel { p with
    state := 3, collect := none, waiting := []
    hostHeld := !p.waiting.isEmpty || (match c.why with | .host _ => true | _ => false)
    aside := if c.from_ = 3 ∧ (c.why = .test ∨ c.why = .checkpoint) then some c.before else none }
  let s := p.waiting.foldl (fun (s : State) (rq : Req) => s.answer 0x07 rq stOK) s
  let s := match c.why with
    | .host rq => s.answer 0x07 rq stOK
    | .savep _ _ => s.saveEngine p.num
    | .restp _ _ => { s with agenda := s.agenda ++ [Due.restoreComplete p.num] }
    | .test => match s.panel p.num with
      | some q => (s.setPanel { q with testHold := p.waiting.isEmpty }).testsDone p.num
      | none => s
    | .checkpoint => s
  s.checkLeave p.num

/-- The number of a kind of agent in a PREEMPT_TIMEOUT reply: one bit for each KIND of 03 Table 03-9 (a design choice). -/
def lateKinds (es : List Engine) : Nat := es.foldl (fun (m : Nat) (e : Engine) => m ||| 2 ^ kindOf e) 0

/-- A collection fails (17 R322): the panel runs as before, and who asked is told; a checkpoint that waited for it ends. What RESTP leaves in gD
is not stated, and is a free value (DESIGN CHOICE, assumption log 3). -/
def State.holdFailed (s : State) (p : Panel) (c : Collect) : State :=
  let late := BitVec.ofNat 64 (lateKinds c.waiting)
  let s := s.setPanel { p with waiting := [] }
  let s :=
    if c.from_ = 3 then s.backToIssuer { p with waiting := [] } c.before
    else s.runPanel { p with waiting := [] } p.state
  let told := fun (s : State) (rq : Req) => s.send { replyTo 0x07 rq stPreemptTimeout with arg0 := late }
  let s := p.waiting.foldl told s
  let s := match c.why with
    | .host rq => told s rq
    | .savep x k =>
      let d := match p.saving with | some v => v.dst | none => 0
      s.giveG x k d 3
    | .restp x k =>
      let d := match p.saving with | some v => v.dst | none => 0
      { s with fresh := s.fresh + 1 }.giveG x k d (Config.freeWord s.fresh)
    | .test => { s with timers := s.timers ++ (s.dueObjs p).map (fun (o : ScoreObj) => (s.cycle + testWait, Due.testHoldTimeout o)) }
    | .checkpoint => s
  match s.checkpoint with
  | some k => if k.holding.contains p.num then { s with
      checkpoint := some { k with holding := [], timedOut := true }, agenda := s.agenda ++ [Due.checkpointComplete] } else s
  | none => s

end Sys2Proof.Machine
end

