-- ==== Sys2Proof/Machine/Sys.lean ====
section
/-!
DEFINITION. The SYS instructions (18_traps.md R334 to R354, 17 R309, R310).
-/

namespace Sys2Proof.Machine

/-- TRAP (18 R339). -/
def execTrap (a : Fin 32) (s : State) : Host.Outcome State Fault Refusal :=
  issueSelf (.trap a) (fun s => do
    let (v, s) ← s.srcA a
    return s.takeTrap 4 { cause := .syscall, tval := v, next := true }) s

/-- BREAK (18 R339). -/
def execBrk (a : Fin 32) (s : State) : Host.Outcome State Fault Refusal :=
  issueSelf (.brk a) (fun s => do
    let (v, s) ← s.srcA a
    return s.takeTrap 4 { cause := .break_, tval := v, next := true }) s

/-- ERET (18 R335). -/
def execEret (s : State) : Host.Outcome State Fault Refusal :=
  issueSelf .eret State.returnTrap s

/-- REINJ (18 R337): the entry goes to the end of the context's record. -/
def execReinj (a : Fin 32) (d : Fin 32) (s : State) : Host.Outcome State Fault Refusal :=
  issue (.reinj a d) (fun s => do
    let (x, s) ← s.srcA a
    let key ← s.accessRunR x 32 8
    let bs := s.bytes key 32
    s.readable s.recKey 0x10
    let n := s.load (s.recKey + 0x0A) 1
    ensure (decide (n < 8)) .engineReject x
    ensure ((s.me.entryFault bs).isNone) .illegal x
    let t := (s.putBytes s.writer (s.recKey + 0x100 + 32 * n) bs).store s.writer (s.recKey + 0x0A) 1 (n + 1)
    let t := t.store s.writer (s.recKey + 0x0E) 2 t.held.toNat
    t.writeG d (BitVec.ofNat 64 (n + 1))) s

/-! ## TLBINV (18 R354) -/

/-- Whether a cached translation is one to remove: of a page and an address space, or of any. -/
def TlbEntry.matches (e : TlbEntry) (va : Option Nat) (asid : Option Nat) : Bool :=
  asid.all (· == e.asid.toNat) && va.all (fun a => decide (e.va ≤ a) && decide (a < e.va + e.size))

/-- The matching translations leave the L1s of a panel's cores and the L2s of its clusters. -/
def State.dropTlb (s : State) (p : Panel) (va : Option Nat) (asid : Option Nat) : State :=
  let s := s.overCores p (fun (k : Core) => { k with tlb := k.tlb.filter (fun (e : TlbEntry) => !e.matches va asid) })
  { s with
    cmds := s.cmds.map (fun (m : Cmd) =>
      if m.panel = p.num ∧ m.sectors.isEmpty then { m with walked := m.walked.filter (fun (t : TlbEntry) => !t.matches va asid) } else m)
    clusters := s.clusters.map (fun (e : Nat × Cluster) =>
      if p.cores.any (fun (c : Nat) => c / 64 == e.1) then
        (e.1, { e.2 with tlb := e.2.tlb.filter (fun (t : TlbEntry) => !t.matches va asid) })
      else e) }

/-- The three forms of TLBINV: the removal, then the wait for accesses already translated. `s0` is the state before the
operands were read: a TLBINV that waits has popped no port (18 R329, 03 R56). -/
def tlbinvBody (s0 : State) (va : Option Nat) (asid : Option Nat) (s : State) : State :=
  match s.myPanel with
  | none => s.finish 4
  | some p =>
    let w := Wait.translated p.num va asid
    if s.holds s.at_ s.slot w then (s.dropTlb p va asid).finish 4 else (s0.dropTlb p va asid).blockOn w

/-- TLBINV (18 R354). -/
def execTlbinv (b : Fin 32) (a : Fin 32) (s : State) : Host.Outcome State Fault Refusal :=
  issueSelf (.tlbinv b a) (fun s0 => do
    let (x, s) ← s0.srcA a
    let (y, s) ← s.srcB b
    return tlbinvBody s0 (some x.toNat) (some (y.toNat % 2 ^ 16)) s) s

/-- TLBINV.ASID (18 R354). -/
def execTlbinvAsid (b : Fin 32) (s : State) : Host.Outcome State Fault Refusal :=
  issueSelf (.tlbinvAsid b) (fun s0 => do
    let (y, s) ← s0.srcB b
    return tlbinvBody s0 none (some (y.toNat % 2 ^ 16)) s) s

/-- TLBINV.ALL (18 R354). -/
def execTlbinvAll (s : State) : Host.Outcome State Fault Refusal :=
  issueSelf .tlbinvAll (fun s => .ok (tlbinvBody s none none s)) s

/-! ## QUIESCE and RESUME (18 R341, R342) -/

/-- The checks of QUIESCE and RESUME (18 R341, 17 R309). -/
def State.slotChecks (s : State) (x y : Word) : M Unit := do
  ensure (decide (x.toNat < 2 ^ 13) && decide (y.toNat < 2 ^ 8) && s.inPanel x.toNat &&
    !(decide (x.toNat = s.at_) && y.getLsbD s.slot.val)) .engineReject x
  ensure (!s.coreDown x.toNat) .panelDown x

/-- Running contexts in the slots of a mask are stopped (18 R340): locks released, monitors disarmed. -/
def State.stopSlots (s : State) (c : Nat) (m : BitVec 8) : State :=
  ((List.finRange 8).foldl (fun (s : State) (k : Fin 8) =>
    if m.getLsbD k.val && (s.ctx c k).run.waits then (s.setCtx c k ((s.ctx c k).halt false)).releaseLocks c k else s) s).dropAsks
      (fun (r : Nat) (k : Fin 8) => r == c && m.getLsbD k.val)

/-- The software mask that a QUIESCE found, if it goes on waiting (18 R341). -/
def State.quiesceFound (s : State) (c : Nat) (m : BitVec 8) : Option (BitVec 8) :=
  match s.me.wait with
  | some o => match o.on with
    | .quiesced c' m' prev => if c' = c ∧ m' = m then some prev else none
    | _ => none
  | none => none

/-- What a QUIESCE does at once (18 R341): the software bits, and in immediate mode the stops. -/
def State.quiesceSlots (s : State) (drain : Bool) (c : Nat) (m : BitVec 8) : State :=
  let t := s.setCore c { s.core c with swq := (s.core c).swq ||| m }
  if drain then t else t.stopSlots c m

/-- QUIESCE (18 R341): the bits, the stops, and the wait; gD receives the mask it found. While it waits it has popped and
pushed no port (18 R329). -/
def execQuiesce (drain : Bool) (b : Fin 32) (a : Fin 32) (d : Fin 32) (s : State) : Host.Outcome State Fault Refusal :=
  issueSelf (.quiesce drain b a d) (fun s0 => do
    let (x, s) ← s0.srcA a
    let (y, s) ← s.srcB b
    s.slotChecks x y
    let c := x.toNat
    let m : BitVec 8 := y.truncate 8
    let prev := (s.quiesceFound c m).getD (s.core c).swq
    let waits := (s0.quiesceSlots drain c m).blockOn (.quiesced c m prev)
    let t := s.quiesceSlots drain c m
    if (t.core c).quiet m then
      match t.writeG d (prev.zeroExtend 64) with
      | .ok t => .ok (t.finish 4)
      | .error (.wait _) => .ok waits
      | .error e => .error e
    else return waits) s

/-- RESUME (18 R342). -/
def execResume (b : Fin 32) (a : Fin 32) (d : Fin 32) (s : State) : Host.Outcome State Fault Refusal :=
  issue (.resume b a d) (fun s => do
    let (x, s) ← s.srcA a
    let (y, s) ← s.srcB b
    s.slotChecks x y
    let k := s.core x.toNat
    let s ← s.writeG d (k.swq.zeroExtend 64)
    let k := s.core x.toNat
    return (s.setCore x.toNat { k with swq := k.swq &&& ~~~(y.truncate 8) }).wake x.toNat) s

/-- PKILL (18 R343): the panel is killed, the issuing context with it. -/
def execPkill (a : Fin 32) (s : State) : Host.Outcome State Fault Refusal :=
  issueSelf (.pkill a) (fun s => do
    let (x, s) ← s.srcA a
    ensure (x == s.mine.panelId.zeroExtend 64) .engineReject x
    return s.killPanel s.panelNo) s

/-! ## SAVEP and RESTP (18 R347, R348) -/

/-- Whether a save descriptor keeps its limits (18 R347). -/
def saveDescOk (b : BitVec 512) : Bool :=
  rec64 b 0 8 % 4096 == 0 && (rec64 b 8 1 == 1 || rec64 b 8 1 == 2) && rec64 b 9 7 == 0 && rec64 b 28 36 == 0

/-- What a save or restore works on (18 R347). -/
def State.savingOf (s : State) (b : BitVec 512) (restore : Bool) (cursor : Nat) (issuer : Option (Nat × Fin 8)) (d : Fin 32)
    (rq : Option Req) : Saving where
  restore := restore
  va := rec64 b 0 8
  space := rec64 b 8 1
  length := rec64 b 16 8
  seq := rec64 b 24 4
  cursor := cursor
  issuer := issuer
  dst := d
  rq := rq
  cycle := s.cycle

/-- SAVECUR.CURSOR if a stopped save can continue, else 0 (18 R347). -/
def Panel.cursor (p : Panel) : Nat := if p.savecur.getLsbD 63 then fld p.savecur.toNat 0 40 else 0

/-- Whether a bound gD has room for the value it is to receive (03 R56). -/
def State.dstRoom (s : State) (d : Fin 32) : M Unit := do
  let _ ← s.writeG d 0
  return ()

/-- SAVEP (18 R347): the own panel is held; the issuer goes on after it only if the save stops. -/
def execSavep (a : Fin 32) (d : Fin 32) (s : State) : Host.Outcome State Fault Refusal :=
  issueSelf (.savep a d) (fun s => do
    let (x, s) ← s.srcA a
    let key ← s.accessR x 64 64
    let b := BitVec.ofNat 512 (s.load key 64)
    ensure (saveDescOk b) .engineReject x
    s.dstRoom d
    let s := s.finish 4
    match s.myPanel with
    | none => return s
    | some p =>
      let v := s.savingOf b false p.cursor (some (s.at_, s.slot)) d none
      return s.startCollect { p with saving := some v } (.savep s.at_ s.slot)) s

/-- RESTP (18 R348): the first pass reads and compares the header, then the own panel is held. -/
def execRestp (a : Fin 32) (d : Fin 32) (s : State) : Host.Outcome State Fault Refusal :=
  issueSelf (.restp a d) (fun s => do
    let (x, s) ← s.srcA a
    let key ← s.accessR x 64 64
    let b := BitVec.ofNat 512 (s.load key 64)
    ensure (saveDescOk b) .engineReject x
    s.dstRoom d
    match s.myPanel with
    | none => return s.finish 4
    | some p =>
      s.walker (rec64 b 0 8) false
      match s.readVa s.at_ s.mine.ptbase s.mine.asid (rec64 b 0 8) 0x1000 with
      | .error f => .error (engTrap f x)
      | .ok (h, s) =>
        match s.shapeFault p h with
        | some k => .error (.trap { cause := .restoreShape, tval := x, sub := BitVec.ofNat 8 k })
        | none =>
          let s := s.finish 4
          let v := s.savingOf b true 0 (some (s.at_, s.slot)) d none
          return s.startCollect { p with saving := some v } (.restp s.at_ s.slot)) s

/-- WFI (18 R339): waits for a message or a completion word after this point. -/
def execWfi (s : State) : Host.Outcome State Fault Refusal :=
  issue .wfi (fun s => do
    let now := Wait.event s.mine.admits s.me.posts
    let w := match s.me.wait with
      | some o => (match o.on with | .event _ _ => o.on | _ => now)
      | none => now
    waitFor (s.holds s.at_ s.slot w) w
    return s) s

end Sys2Proof.Machine
end

