-- ==== Sys2Proof/Machine/Instrs.lean ====
section
/-!
DEFINITION. What a context does when it issues: the meaning of each instruction. WAIT_END and the other steps that let a
waiting context go on use it.
-/

namespace Sys2Proof.Machine

/-- The meaning of an instruction; a row without an encoding is never issued. -/
def execInstr (i : Instr) (s : State) : Host.Outcome State Fault Refusal :=
  match i with
  | .add w b a d => execAdd w b a d s
  | .sub w b a d => execSub w b a d s
  | .and w b a d => execAnd w b a d s
  | .or w b a d => execOr w b a d s
  | .xor w b a d => execXor w b a d s
  | .andn w b a d => execAndn w b a d s
  | .sll w b a d => execSll w b a d s
  | .srl w b a d => execSrl w b a d s
  | .sra w b a d => execSra w b a d s
  | .rol w b a d => execRol w b a d s
  | .mul w b a d => execMul w b a d s
  | .mulh w b a d => execMulh w b a d s
  | .mulhu w b a d => execMulhu w b a d s
  | .div w b a d => execDiv w b a d s
  | .divu w b a d => execDivu w b a d s
  | .rem w b a d => execRem w b a d s
  | .remu w b a d => execRemu w b a d s
  | .min w b a d => execMin w b a d s
  | .max w b a d => execMax w b a d s
  | .minu w b a d => execMinu w b a d s
  | .maxu w b a d => execMaxu w b a d s
  | .slt w b a d => execSlt w b a d s
  | .sltu w b a d => execSltu w b a d s
  | .clz w a d => execClz w a d s
  | .ctz w a d => execCtz w a d s
  | .popc w a d => execPopc w a d s
  | .sext sz a d => execSext sz a d s
  | .zext sz a d => execZext sz a d s
  | .addi imm a d => execAddi imm a d s
  | .andi imm a d => execAndi imm a d s
  | .ori imm a d => execOri imm a d s
  | .xori imm a d => execXori imm a d s
  | .slti imm a d => execSlti imm a d s
  | .sltiu imm a d => execSltiu imm a d s
  | .slli w sh a d => execSlli w sh a d s
  | .srli w sh a d => execSrli w sh a d s
  | .srai w sh a d => execSrai w sh a d s
  | .lui imm d => execLui imm d s
  | .auipc imm d => execAuipc imm d s
  | .beq off b a => execBeq off b a s
  | .bne off b a => execBne off b a s
  | .blt off b a => execBlt off b a s
  | .bge off b a => execBge off b a s
  | .bltu off b a => execBltu off b a s
  | .bgeu off b a => execBgeu off b a s
  | .jal off d => execJal off d s
  | .jalr imm a d => execJalr imm a d s
  | .ldb off sc acq a t => execLdb off sc acq a t s
  | .ldbu off sc acq a t => execLdbu off sc acq a t s
  | .ldh off sc acq a t => execLdh off sc acq a t s
  | .ldhu off sc acq a t => execLdhu off sc acq a t s
  | .ldw off sc acq a t => execLdw off sc acq a t s
  | .ldwu off sc acq a t => execLdwu off sc acq a t s
  | .ldd off sc acq a t => execLdd off sc acq a t s
  | .stb off sc rel a t => execStb off sc rel a t s
  | .sth off sc rel a t => execSth off sc rel a t s
  | .stw off sc rel a t => execStw off sc rel a t s
  | .std off sc rel a t => execStd off sc rel a t s
  | .ldl sc acq w a d => execLdl sc acq w a d s
  | .stu sc rel w b a => execStu sc rel w b a s
  | .amoadd sc ord w b a d => execAmoadd sc ord w b a d s
  | .amoand sc ord w b a d => execAmoand sc ord w b a d s
  | .amoor sc ord w b a d => execAmoor sc ord w b a d s
  | .amoxor sc ord w b a d => execAmoxor sc ord w b a d s
  | .amomin sc ord w b a d => execAmomin sc ord w b a d s
  | .amomax sc ord w b a d => execAmomax sc ord w b a d s
  | .amominu sc ord w b a d => execAmominu sc ord w b a d s
  | .amomaxu sc ord w b a d => execAmomaxu sc ord w b a d s
  | .amoswp sc ord w b a d => execAmoswp sc ord w b a d s
  | .amocas sc ord w b a d => execAmocas sc ord w b a d s
  | .amofadd sc ord w b a d => execAmofadd sc ord w b a d s
  | .ldv b a d => execLdv b a d s
  | .stv b a d => execStv b a d s
  | .vrcl b a => execVrcl b a s
  | .vprobe a d => execVprobe a d s
  | .fence sc => execFence sc s
  | .fenceE sc => execFenceE sc s
  | .fenceI => execFenceI s
  | .bararv a d => execBararv a d s
  | .barwait b a d => execBarwait b a d s
  | .marm a => execMarm a s
  | .mwait a d => execMwait a d s
  | .send b a d => execSend b a d s
  | .sendv b a v => execSendv b a v s
  | .endh => execEndh s
  | .qbind vq wr id d => execQbind vq wr id d s
  | .qunbind vq d => execQunbind vq d s
  | .qpoll id d => execQpoll id d s
  | .taskadd a => execTaskadd a s
  | .tasktake a d => execTasktake a d s
  | .tileget d => execTileget d s
  | .copy g mt ms d => execCopy g mt ms d s
  | .fetch g mt ms d => execFetch g mt ms d s
  | .store g mt r v => execStore g mt r v s
  | .tier g mt ms d => execTier g mt ms d s
  | .txbinit g d => execTxbinit g d s
  | .txbarv g d => execTxbarv g d s
  | .txbwait g r d => execTxbwait g r d s
  | .txbtest g r d => execTxbtest g r d s
  | .shopen g r d => execShopen g r d s
  | .publish close sc ms d => execPublish close sc ms d s
  | .tmld g ms => execTmld g ms s
  | .tmst g ms => execTmst g ms s
  | .tmset g f ms => execTmset g f ms s
  | .tmget f ms d => execTmget f ms d s
  | .tmsync ms => execTmsync ms s
  | .wload g tr ms d => execWload g tr ms d s
  | .wfree d => execWfree d s
  | .mld g pair tr ms v => execMld g pair tr ms v s
  | .mst g pair tr ms v => execMst g pair tr ms v s
  | .mma chk z k wb a c => execMma chk z k wb a c s
  | .msoft k a c => execMsoft k a c s
  | .msfin k c => execMsfin k c s
  | .mzero k => execMzero k s
  | .mchk k wb a c => execMchk k wb a c s
  | .vadd e p b a d => execVadd e p b a d s
  | .vsub e p b a d => execVsub e p b a d s
  | .vmul e p b a d => execVmul e p b a d s
  | .vfma e p b a d => execVfma e p b a d s
  | .vmin e p b a d => execVmin e p b a d s
  | .vmax e p b a d => execVmax e p b a d s
  | .vabs e p a d => execVabs e p a d s
  | .vneg e p a d => execVneg e p a d s
  | .vdiv e p b a d => execVdiv e p b a d s
  | .vsqrt e p a d => execVsqrt e p a d s
  | .vrsqrt e p a d => execVrsqrt e p a d s
  | .vrcp e p a d => execVrcp e p a d s
  | .vexp2 e p a d => execVexp2 e p a d s
  | .vlog2 e p a d => execVlog2 e p a d s
  | .vand e p b a d => execVand e p b a d s
  | .vor e p b a d => execVor e p b a d s
  | .vxor e p b a d => execVxor e p b a d s
  | .vshl e p g a d => execVshl e p g a d s
  | .vshr e p g a d => execVshr e p g a d s
  | .vsel e p b a d => execVsel e p b a d s
  | .vcmpeq e p b a pd => execVcmpeq e p b a pd s
  | .vcmplt e p b a pd => execVcmplt e p b a pd s
  | .vcmple e p b a pd => execVcmple e p b a pd s
  | .vcvt e p t a d => execVcvt e p t a d s
  | .vaddw e p b a d => execVaddw e p b a d s
  | .vmacw e p b a d => execVmacw e p b a d s
  | .vnarrow e p sat a d => execVnarrow e p sat a d s
  | .vadds e p b a d => execVadds e p b a d s
  | .vclamp e p g a d => execVclamp e p g a d s
  | .vscan e p g a d => execVscan e p g a d s
  | .vredsum e p a d => execVredsum e p a d s
  | .vredmax e p a d => execVredmax e p a d s
  | .vredmin e p a d => execVredmin e p a d s
  | .vperm e p b a d => execVperm e p b a d s
  | .vbcast e p g d => execVbcast e p g d s
  | .vins e p g a d => execVins e p g a d s
  | .vext e p g a => execVext e p g a s
  | .vzero e p d => execVzero e p d s
  | .vmov e p a d => execVmov e p a d s
  | .viota e p g d => execViota e p g d s
  | .vld e p gb ga d => execVld e p gb ga d s
  | .vst e p gb ga d => execVst e p gb ga d s
  | .vlds e p gb ga d => execVlds e p gb ga d s
  | .vsts e p gb ga d => execVsts e p gb ga d s
  | .vgath e p i ga d => execVgath e p i ga d s
  | .vscat e p i ga d => execVscat e p i ga d s
  | .vwmax e n w a d => execVwmax e n w a d s
  | .vwmin e n w a d => execVwmin e n w a d s
  | .vwmed e n w a d => execVwmed e n w a d s
  | .vwclamp e n w a d => execVwclamp e n w a d s
  | .vwssum e n w a d => execVwssum e n w a d s
  | .vadj e n w kd d => execVadj e n w kd d s
  | .credSum mb ma g => execCredSum mb ma g s
  | .credMax mw mb ma g => execCredMax mw mb ma g s
  | .credMin mw mb ma g => execCredMin mw mb ma g s
  | .credMed mw mb ma g => execCredMed mw mb ma g s
  | .credSsum mw mb ma g => execCredSsum mw mb ma g s
  | .cbcast mb ma g => execCbcast mb ma g s
  | .cadj mw mb ma g => execCadj mw mb ma g s
  | .cjoin g => execCjoin g s
  | .cleave g => execCleave g s
  | .cview g => execCview g s
  | .crejoin g => execCrejoin g s
  | .fitset b a => execFitset b a s
  | .popcmd a => execPopcmd a s
  | .migrate a => execMigrate a s
  | .mutcopy b a => execMutcopy b a s
  | .mfc n d => execMfc n d s
  | .mtc n a => execMtc n a s
  | .msetb n a d => execMsetb n a d s
  | .mclrb n a d => execMclrb n a d s
  | .trap a => execTrap a s
  | .brk a => execBrk a s
  | .eret => execEret s
  | .reinj a d => execReinj a d s
  | .tlbinv b a => execTlbinv b a s
  | .tlbinvAsid b => execTlbinvAsid b s
  | .tlbinvAll => execTlbinvAll s
  | .quiesce drain b a d => execQuiesce drain b a d s
  | .resume b a d => execResume b a d s
  | .pkill a => execPkill a s
  | .savep a d => execSavep a d s
  | .restp a d => execRestp a d s
  | .wfi => execWfi s
  | .cMv a d => execCMv a d s
  | .cAdd a d => execCAdd a d s
  | .cSub a d => execCSub a d s
  | .cAddi imm d => execCAddi imm d s
  | .cLi imm d => execCLi imm d s
  | .cSlli imm d => execCSlli imm d s
  | .cSrai imm d => execCSrai imm d s
  | .cAnd a d => execCAnd a d s
  | .cLdd a d => execCLdd a d s
  | .cStd a d => execCStd a d s
  | .cLdw a d => execCLdw a d s
  | .cStw a d => execCStw a d s
  | .cBeqz imm d => execCBeqz imm d s
  | .cBnez imm d => execCBnez imm d s
  | .cJ off => execCJ off s
  | .cJr a link => execCJr a link s
  | .cRep m n => execCRep m n s
  | .cEndh => execCEndh s
  | .cNop => execCNop s
  | .cYield => execCYield s
  | .waitEnd .. | .matrixComplete .. | .lockRetry .. | .mwaitTimeout .. | .yieldExpire .. | .barcfgWrite ..
  | .tqcfgWrite .. | .tdcfgWrite .. | .flagsRead .. | .flagsWrite .. | .controlRegisterWrite .. | .messageAdmit ..
  | .completionPost .. | .stealRequest .. | .stealServe .. | .donationAppend .. | .commandEnqueue .. | .engineCommandStart ..
  | .sectorWrite .. | .pageWalk .. | .migrateComplete .. | .atelierRoundStart | .pairQuiesced .. | .pairCopyDone ..
  | .cleOperationStart .. | .clePartialReceive .. | .heartbeatSend .. | .heartbeatReceive .. | .suspectTimeout ..
  | .viewProposalReceive .. | .viewAckReceive .. | .viewRefusalReceive .. | .commitReceive .. | .proposalTimeout ..
  | .ackBindingExpire .. | .quorumTimeout .. | .joinReceive .. | .rejoinCommit .. | .heartbeatLossTimeout ..
  | .fatalFaultReport .. | .correctedError .. | .uncorrectableError .. | .scoreHalving | .targetedTestStart ..
  | .testHoldTimeout .. | .targetedTestComplete .. | .ageingFit .. | .vfLoop .. | .droop .. | .equalisationLoop ..
  | .scrubLoop .. | .actfcstUpdate .. | .clockChange .. | .preemptAck .. | .preemptTimeout .. | .saveComplete ..
  | .saveStop .. | .restoreComplete .. | .checkpointComplete | .launchDone .. | .packetInject .. | .flitEject ..
  | .ucieFlitReceive .. | .nakReceive .. | .linkLockLoss .. | .retrainComplete .. | .e2eAckReceive .. | .e2eNakReceive ..
  | .e2eResendTimeout .. | .circuitUp .. | .fabricForward .. | .cxlPortDown .. | .powerGood | .romStageDone ..
  | .linkTrainingDone | .masterElection | .firmwareDistribute .. | .firmwareVerify .. | .srsStart | .packageIdWrite ..
  | .resetRequest | .emergencyKill | .jobConnect .. | .panelCreate .. | .panelRelease .. | .imageLoad .. | .launch ..
  | .read .. | .write .. | .hold .. | .resumeRequest .. | .swapOut .. | .swapIn .. | .save .. | .restore ..
  | .kill .. | .groupCreate .. | .sptLoad .. | .tierMap .. | .circuit .. | .state .. | .health .. | .attest ..
  | .checkpoint .. | .report .. | .map .. | .dieSupplyLoss .. | .dieSupplyReturn .. | .circuitTornDown ..
  | .connectionClose .. => .fault (.notEnabled "ISSUE")

end Sys2Proof.Machine
end

