-- ==== Sys2Proof/Machine/Events.lean ====
section
/-!
DEFINITION. Events of contexts, of the message and completion queues, of the cluster task queues and of the engines
(95_what_each_step_holds: 00 R7, 02 R39, 03 R48, R54, R59, R69, 08 R177, 10 R227, 11 R247, R252, 17 R317, 18 R351).
-/

namespace Sys2Proof.Machine

/-! ## Contexts -/

/-- The context that a core issues (17 R315). -/
def State.chosen (s : State) (c : Nat) : Option (Fin 8) := s.best c (s.eligible (issueNow execInstr) c)

/-- A waiting context issues again where `ok` holds of it and its core chooses it (17 R315). -/
def goesOn (name : String) (ok : Ctx → Bool) (c : CoreId) (k : Slot) (s : State) : Host.Outcome State Fault Refusal :=
  if ok (s.ctx c.val k) && s.chosen c.val == some k then issueOn execInstr s c.val k else .fault (.notEnabled name)

/-- Whether a context's Wait has ended. -/
def State.waitOver (s : State) (c : CoreId) (k : Slot) (x : Ctx) : Bool :=
  match x.wait with
  | some w => s.holds c.val k w.on
  | none => false

/-- WAIT_END (00 R7): the condition holds, and the instruction goes on. -/
def execWaitEnd (c : CoreId) (k : Slot) (s : State) : Host.Outcome State Fault Refusal :=
  goesOn "WAIT_END" (s.waitOver c k) c k s

/-- MATRIX_COMPLETE (06 R127, 10 R227). -/
def execMatrixComplete (c : CoreId) (k : Slot) (s : State) : Host.Outcome State Fault Refusal :=
  event "MATRIX_COMPLETE" (s.ctx c.val k).mat.isSome (fun s => s.setCtx c.val k (s.ctx c.val k).settle) s

/-- LOCK_RETRY (02 R39): the bank controller retries a refused request; it goes on if the lock bit is free. -/
def execLockRetry (c : CoreId) (k : Slot) (s : State) : Host.Outcome State Fault Refusal :=
  match (s.ctx c.val k).wait with
  | some w => match w.on with
    | .lock _ _ => if s.waitOver c k (s.ctx c.val k) then goesOn "LOCK_RETRY" (fun _ => true) c k s else .next s
    | _ => .fault (.notEnabled "LOCK_RETRY")
  | none => .fault (.notEnabled "LOCK_RETRY")

/-- MWAIT_TIMEOUT (08 R177). -/
def execMwaitTimeout (c : CoreId) (k : Slot) (s : State) : Host.Outcome State Fault Refusal :=
  goesOn "MWAIT_TIMEOUT" (fun (x : Ctx) => match x.wait with
    | some w => (match w.on with | .monitor (some t) => decide (t ≤ s.cycle) | _ => false)
    | none => false) c k s

/-- YIELD_EXPIRE (17 R317). -/
def execYieldExpire (c : CoreId) (k : Slot) (s : State) : Host.Outcome State Fault Refusal :=
  event "YIELD_EXPIRE" (decide ((s.ctx c.val k).yieldUntil ≠ 0) && decide ((s.ctx c.val k).yieldUntil ≤ s.cycle))
    (fun s => s.setCtx c.val k { s.ctx c.val k with yieldUntil := 0 }) s

/-- COMMAND_ENQUEUE (11 R252): a command captured while its engine's inbox was full enters it. -/
def execCommandEnqueue (c : CoreId) (k : Slot) (s : State) : Host.Outcome State Fault Refusal :=
  goesOn "COMMAND_ENQUEUE" (fun (x : Ctx) => match x.caught with
    | some m => s.boxRoom m.engine && s.waitOver c k x
    | none => false) c k s

/-! ## Messages and completion words -/

/-- COMPLETION_POST (03 R54, 08 R176, 18 R339). -/
def execCompletionPost (c : CoreId) (k : Slot) (s : State) : Host.Outcome State Fault Refusal :=
  event "COMPLETION_POST" (!(s.ctx c.val k).compHeld.isEmpty && decide ((s.ctx c.val k).compq.length < 16))
    (fun s =>
      let x := s.ctx c.val k
      s.setCtx c.val k { x with
        compq := x.compq ++ x.compHeld.take 1, compHeld := x.compHeld.drop 1, posts := x.posts + 1
        mon := x.mon.map (fun (w : Mon) => { w with posted := true }) }) s

/-- One message of a launch is answered (17 R313). -/
def State.launched (s : State) (panel : Nat) (refused : Bool) : State :=
  match s.panel panel with
  | some p => match p.launch with
    | some l =>
      let s := s.setPanel { p with launch := some { l with left := l.left - 1, refused := l.refused + b2n refused } }
      if l.left ≤ 1 then { s with agenda := s.agenda ++ [Due.launchDone panel] } else s
    | none => s
  | none => s

/-- A message has been refused (03 R53): the sending context's completion queue is told, the launch counts it, or the engine that
composed it reports it in its own completion word. -/
def State.refused (s : State) (m : Msg) (st : Nat) : State :=
  match m.cmd, m.back with
  | some id, _ => s.migEnd id (some st)
  | none, some (c, k, w) => s.postWord c k (w ||| BitVec.ofNat 64 (st * 2 ^ 56))
  | none, none =>
    match m.srcSlot, m.launch with
    | some k, _ => s.postWord m.src (Fin.ofNat 8 k) (compWord st 0 (m.h0.toNat % 2 ^ 28))
    | none, some n => s.launched n true
    | none, none => s

/-- What the admission of a message brings to its sender: the end of a migration (12 R282), or the answer of a launch. -/
def State.admitted (s : State) (m : Msg) : State :=
  match m.cmd, m.launch with
  | some id, _ => s.migEnd id none
  | none, some n => s.launched n false
  | none, none => s

/-- The message at the head of a core's offers is refused, or admitted and dispatched (03 R48, R50). -/
def State.admitNext (s : State) (c : Nat) (m : Msg) (rest : List Msg) : State :=
  let s := s.setCore c { s.core c with offers := rest }
  let s := match s.refuses c m with
    | some st => s.refused m st
    | none => (s.takeIn c { m with cmd := none, back := none }).admitted m
  { s with agenda := s.agenda ++ (if rest = [] then [] else [Due.messageAdmit (Fin.ofNat 8192 c)]) }

/-- MESSAGE_ADMIT (03 R48): a message that lacks only space stays offered. -/
def execMessageAdmit (c : CoreId) (s : State) : Host.Outcome State Fault Refusal :=
  match (s.core c.val).offers with
  | m :: rest => .next (if s.isReady (.messageAdmit c) then s.admitNext c.val m rest else s)
  | [] => .fault (.notEnabled "MESSAGE_ADMIT")

/-! ## Donation (03 R69) -/

/-- STEAL_REQUEST. -/
def execStealRequest (cl : ClusterId) (s : State) : Host.Outcome State Fault Refusal :=
  event "STEAL_REQUEST" (s.starving cl.val && (s.nextVictim cl.val).isSome) (fun s =>
    match s.nextVictim cl.val with
    | some v => { s.setCluster cl.val { s.cluster cl.val with victim := some v, asking := true } with
        agenda := s.agenda ++ [Due.stealServe cl (Fin.ofNat 128 v)] }
    | none => s) s

/-- The records of a cluster's queue and ring, oldest first. -/
def State.allTasks (s : State) (cl : Nat) : List (BitVec 512) :=
  let x := s.cluster cl
  x.tasks ++ (List.range x.ringLen).map (fun (i : Nat) => BitVec.ofNat 512 (numOf (s.bytes (s.ringKey cl (x.tqHead.toNat + i)) 64)))

/-- Whether a victim ships one of its `n` records, by its place from the oldest: among the youngest floor(n / 2), those
whose STEALOK is 1. -/
def shipsTask (n : Nat) (t : BitVec 512 × Nat) : Bool := decide (n - n / 2 ≤ t.2) && t.1.getLsbD 0

/-- The records that stay, with their old places, fill the queue, and the rest the ring from its HEAD, which moves on over
those that left it for the queue (03 R67). -/
def State.keepTasks (s : State) (cl : Nat) (kept : List (BitVec 512 × Nat)) : State :=
  let x := s.cluster cl
  let keep := kept.map (·.1)
  let q := keep.take 32
  let ring := keep.drop 32
  let head := x.tqHead.toNat + (q.length - (kept.filter (fun (t : BitVec 512 × Nat) => decide (t.2 < x.tasks.length))).length)
  let s := ring.zipIdx.foldl (fun (s : State) (e : BitVec 512 × Nat) =>
    s.putBytes none (s.ringKey cl (head + e.2)) (bytesOf 64 e.1.toNat)) s
  let m := 2 * 2 ^ x.tqSize.toNat
  s.setCluster cl { s.cluster cl with
    tasks := q, tqHead := BitVec.ofNat 13 (head % m), tqTail := BitVec.ofNat 13 ((head + ring.length) % m) }

/-- STEAL_SERVE: the victim ships as one task-queue operation; with nothing shipped, or the victim down (17 R307), the thief waits again. -/
def execStealServe (thief : ClusterId) (victim : ClusterId) (s : State) : Host.Outcome State Fault Refusal :=
  event "STEAL_SERVE" ((s.cluster thief.val).asking && (s.cluster thief.val).victim == some victim.val) (fun s =>
    let all := (s.allTasks victim.val).zipIdx
    let ship := (all.filter (shipsTask all.length)).map (·.1)
    if ship = [] ∨ s.coreDown (victim.val * 64) then s.setCluster thief.val { s.cluster thief.val with asking := false, starveAt := some s.cycle }
    else
      let s := s.keepTasks victim.val (all.filter (fun (t : BitVec 512 × Nat) => !shipsTask all.length t))
      let s := s.setCluster thief.val { s.cluster thief.val with asking := false, donated := some ship }
      { s with agenda := s.agenda ++ [Due.donationAppend thief] }) s

/-- Donated records go to the thief's tail while there is room; a cluster that is down takes none (17 R307). -/
def State.appendTasks (s : State) (cl : Nat) : List (BitVec 512) → State
  | [] => s.setCluster cl { s.cluster cl with donated := none }
  | r :: rest =>
    if (s.cluster cl).taskRoom then (s.addTask cl r).appendTasks cl rest
    else s.setCluster cl { s.cluster cl with donated := some (r :: rest) }

/-- DONATION_APPEND. -/
def execDonationAppend (cl : ClusterId) (s : State) : Host.Outcome State Fault Refusal :=
  event "DONATION_APPEND" ((s.cluster cl.val).donated.isSome && (s.cluster cl.val).taskRoom) (fun s =>
    match (s.cluster cl.val).donated with
    | some rs => if s.coreDown (cl.val * 64) then s.setCluster cl.val { s.cluster cl.val with donated := none } else s.appendTasks cl.val rs
    | none => s) s

/-! ## Engines (03 R59, 11 R247 to R253) -/

/-- A command leaves its engine's inbox. -/
def State.leaveBox (s : State) (m : Cmd) : State :=
  let out := fun (l : List Nat) => l.filter (fun i => i != m.id)
  match m.engine with
  | .xfu cl => s.setCluster cl.val { s.cluster cl.val with xfuBox := out (s.cluster cl.val).xfuBox }
  | .ske d => s.setDie d.val { s.die d.val with skeBox := out (s.die d.val).skeBox }
  | .cle d => s.setDie d.val { s.die d.val with cleBox := out (s.die d.val).cleBox }
  | .cme d => s.setDie d.val { s.die d.val with cmeBox := out (s.die d.val).cmeBox }
  | .atelier => { s with atelierBox := out s.atelierBox }
  | _ => s

/-- A MIGRATE starts: to another package over a circuit, or it is abandoned with LINK (19 R367). -/
def State.startMigrate (s : State) (m : Cmd) : State :=
  match s.away m with
  | some (pkg, _) => if (s.circuitTo pkg).isNone then s.abandon m 0x13 else s.advance m
  | none => s.advance m

/-- What one die's CLE keeps of a group. -/
def State.memberOf (s : State) (d g : Nat) : Option Member := (s.die d).members.find? (fun x => x.grp == g)

/-- The bytes of a command's share on its way to the leader: an FP32 or I32 code for each value, and what a root moves raw
(DESIGN CHOICE, assumption log 10). -/
def Cmd.shareBytes (m : Cmd) : List Byte :=
  m.leaf.flatMap (fun (v : Val) => bytesOf 4 (storeVal (if m.part.isInt then .int 32 true else fp32) v none .rne false).1) ++
    m.values.flatMap (bytesOf (bytesOfBits m.part.bits))

/-- A command's share goes to the leader of a view: at once on its own die, else in packets to the leader's die, over a fibre where that
is of another package (19 R358, R366), the last of which brings it. -/
def State.sendShare (s : State) (m : Cmd) (leader : Nat) (part : Partial) : State :=
  if s.memberDie leader = some (Fin.ofNat 8 (m.core / 1024)) then
    { s with agenda := s.agenda ++ [Due.clePartialReceive (some (Fin.ofNat 8 (m.core / 1024))) m.grp part] }
  else s.sendParts (agentOf m.engine) (leader % 8 * 1024) (fun last => .leaf m.id m.grp (if last then some part else none)) m.shareBytes
    (if s.farMember leader then some (leader / 8, s.pkgid.toNat) else none)

/-- 1 ms in CYCLE periods (20 R388). -/
def quorumWait : Nat := 1600000

/-- The members of a die's view that it does not suspect (20 R387). -/
def State.trusted (s : State) (d : Nat) (x : Member) : List Nat := x.live.filter (fun m => !(s.die d).suspects.contains m)

/-- Whether an operation of a group is in flight. -/
def State.inFlight (s : State) (grp : Nat) : Bool := s.cmds.any (fun (m : Cmd) => m.kind.coll.isSome && m.grp == grp && !m.ended)

/-- A group that can form no majority waits, for 1 ms (20 R388); once its job has been told, again when an operation is in flight. -/
def State.stall (s : State) (g : Group) : State :=
  if g.stuckAt.isSome ∨ (g.told ∧ !s.inFlight g.num) then s
  else { s.setGroup { g with stuckAt := some s.cycle } with timers := s.timers ++ [(s.cycle + quorumWait, Due.quorumTimeout g.num)] }

/-- Whether the members of a die's view that it trusts are no majority, and led from another package: nothing of this package's proposes
(20 R387, R388). -/
def State.cutOff (s : State) (d : Nat) (x : Member) : Bool :=
  decide (2 * (s.trusted d x).length ≤ x.live.length) && s.farMember (leaderOf (s.trusted d x))

/-- A group waits, where a die of it is cut off from its majority. -/
def State.stallAt (s : State) (d grp : Nat) : State :=
  match s.memberOf d grp, s.group_ grp with
  | some x, some g => if s.cutOff d x then s.stall g else s
  | _, _ => s

/-- The error of a commit that came over a parked command, at its barrier (12 R272, 17 R319). -/
def State.barChanged (s : State) (m : Cmd) : State :=
  match m.bar with
  | some k => if m.changed then s.updateBar none k (fun b => barError b 0x18) else s
  | none => s

/-- The end that waited for a parked command: it was abandoned meanwhile, or its results came (12 R272, 17 R319). -/
def State.takeKept (s : State) (m : Cmd) : State :=
  match m.fail, m.outcome with
  | some st, _ => s.abandonColl m st
  | none, some (codes, wits, flags, rw) => s.landColl m { codes := codes, wits := wits } flags rw
  | none, none => s

/-- A collective command starts at its CLE (12 R266, R267): the leader may start the operation, and the leaf goes to it. -/
def State.startColl (s : State) (m : Cmd) : State :=
  match s.group_ m.grp with
  | none => s.abandonColl m 0x18
  | some g =>
    match g.op m.opseq with
    | none => s.abandonColl m 0x18
    | some o =>
      if o.ended then s.abandonColl m 0x18
      else
        let live := if o.started then o.live else g.live
        let root := (s.presentSlices g live m.opseq).head? == some m.slice
        match s.readLeaf m root with
        | .error (.fault f) => s.abandonColl m f.status
        | .error (.walk _ _) => s.abandonColl m 0x10
        | .ok m =>
          let (v, l) := match s.memberOf (m.core / 1024) m.grp with | some x => (x.view, leaderOf x.live) | none => (g.view, leaderOf g.live)
          let m := { m with state := .running, begun := true }
          (State.sendShare { s.setCmd m with agenda := s.agenda ++ [Due.cleOperationStart m.grp] } m l
            { slice := m.slice, view := v, opseq := m.opseq }).stallAt (m.core / 1024) m.grp

/-- A collective command starts, or goes on after a hold. -/
def State.goColl (s : State) (m : Cmd) : State :=
  if m.fail.isSome ∨ m.outcome.isSome then (s.barChanged m).takeKept m
  else if m.changed then (s.barChanged m).startColl { m with changed := false }
  else s.startColl m

/-- The winner of a pair whose source has been read resumes (12 R279). -/
def State.freeWinner (s : State) (m : Cmd) : State :=
  match m.kind with
  | .pair _ => s.freeAtq m.source
  | _ => s

/-- An engine starts a command. -/
def State.startCmd (s : State) (m : Cmd) : State :=
  match m.kind with
  | .cred _ | .cbcast | .cadj => s.goColl m
  | .migrate => s.startMigrate m
  | .send _ =>
    let s := { s with cmds := s.cmds.filter (fun (x : Cmd) => x.id != m.id) }
    if m.engine = .atelier then s.atelierNext else s
  | .popcmd => s
  | .pair _ => (s.advance m).freeWinner m
  | _ => s.advance m

/-- ENGINE_COMMAND_START (03 R59). A message to an easel core has no effect that the specification gives (assumption
log 12). -/
def execEngineCommandStart (e : Engine) (s : State) : Host.Outcome State Fault Refusal :=
  match s.nextCmd e, e with
  | some m, _ => .next ((s.leaveBox m).startCmd m)
  | none, .easel d k =>
    let x := s.die d.val
    event "ENGINE_COMMAND_START" (!(x.easelBox[k]).isEmpty)
      (fun s => s.setDie d.val { x with easelBox := x.easelBox.set k ((x.easelBox[k]).drop 1) }) s
  | none, _ => .fault (.notEnabled "ENGINE_COMMAND_START")

/-- A sector of a running command, still to write. -/
def State.sectorOf (s : State) (cmd n : Nat) : Option (Cmd × Sector) :=
  match s.cmd cmd with
  | some m => if m.state = .running then (m.sectors.find? (fun (x : Sector) => x.n == n)).map (fun (x : Sector) => (m, x)) else none
  | none => none

/-- SECTOR_WRITE (11 R247, R253). -/
def execSectorWrite (cmd : Nat) (n : Nat) (s : State) : Host.Outcome State Fault Refusal :=
  event "SECTOR_WRITE" (s.sectorOf cmd n).isSome (fun s =>
    match s.sectorOf cmd n with
    | some (m, x) => match s.sectorFault m.toPanel x with
      | some st => s.abandon m st
      | none => s.landSector m x
    | none => s) s

/-- The page that a command waits for. -/
def State.pageOf (s : State) (cmd : Nat) : Option (Cmd × Nat × Bool) :=
  match s.cmd cmd with
  | some m => if m.ended then none else m.pages.head?.map (fun (x : Nat × Bool) => (m, x))
  | none => none

/-- A command's walk has found its page: a running command goes on, and a parked one's walk has filled the TLBs (17 R319). -/
def State.walkDone (s : State) (m : Cmd) (e : TlbEntry) : State :=
  let m := { m with pages := [], walked := m.walked ++ [e] }
  if m.state = .running then s.advance m else s.setCmd { m with walked := [] }

/-- PAGE_WALK (18 R351, R352): a walk of the die's walker ends; the translation is cached and the command goes on, or it is
abandoned with XLATE. -/
def execPageWalk (cmd : Nat) (s : State) : Host.Outcome State Fault Refusal :=
  event "PAGE_WALK" ((s.pageOf cmd).isSome && s.walking cmd) (fun s =>
    match s.pageOf cmd with
    | some (m, va, w) =>
      match s.translate m.core m.ptbase m.asid va w with
      | .error k =>
        if m.state = .running then ((s.endWalk m).latchFault m.core m.slot { va := va, kind := k }).abandon m 0x10
        else (s.endWalk m).setCmd { m with pages := [] }
      | .ok (e, s) => (s.endWalk m).walkDone m e
    | none => s) s

/-! ## Collectives (12 R267 to R271) -/

/-- The leader's CLE starts an operation under the group's view (12 R267), if no rejoin holds it (R273). -/
def Group.startOps (g : Group) : Group :=
  { g with ops := g.ops.map (fun (o : CollOp) =>
      if !o.started && !o.ended && (match g.hold with | some q => decide (o.opseq < q) | none => true) then
        { o with started := true, view := g.view, live := g.live }
      else o) }

/-- Every operation that can end does. -/
def State.tryOps (s : State) (grp : Nat) : State :=
  match s.group_ grp with
  | none => s
  | some g => g.ops.foldl (fun (s : State) (o : CollOp) => match s.group_ grp with
      | some g => (match g.op o.opseq with | some o => s.tryOp g o | none => s)
      | none => s) s

/-- CLE_OPERATION_START (12 R267). -/
def execCleOperationStart (grp : Nat) (s : State) : Host.Outcome State Fault Refusal :=
  event "CLE_OPERATION_START" (match s.group_ grp with | some g => g.ops.any (fun o => !o.ended) | none => false) (fun s =>
    match s.group_ grp with
    | some g => (s.setGroup g.startOps).tryOps grp
    | none => s) s

/-- A partial is discarded at a die (12 R271): DISCARDS of the lowest joined slice that it serves. -/
def State.discard (s : State) (g : Group) (d : Fin 8) : State :=
  let own := g.joins.filter (fun (j : Join) => !j.joining && !j.rejoining && j.leftFrom.isNone && (match g.slice[j.slice]? with
    | some (mem, _) => mem == s.member d.val
    | none => false))
  match own with
  | [] => s
  | j :: rest =>
    let k := rest.foldl (fun (m x : Join) => if x.slice < m.slice then x else m) j
    s.setHand k.handle 0x18 4 (s.load (k.handle + 0x18) 4 + 1)

/-- Whether a view is older than another, modulo 2^24 (12 R258, R271). -/
def viewOlder (a b : Nat) : Bool := a != b && decide ((b + 2 ^ 24 - a) % 2 ^ 24 < 2 ^ 23)

/-- The view that a die's CLE has committed (12 R271). -/
def State.viewAt (s : State) (die : Option (Fin 8)) (g : Group) : Nat :=
  match die.bind (fun d => s.memberOf d.val g.num) with
  | some x => x.view
  | none => g.view

/-- A CLE receives a partial (12 R271): one of a view older than its own is discarded there; one of a view that the group has left
is combined by no leader; another is combined, and the operation may end (R268). `die` is none for a leader of another package. -/
def State.combine (s : State) (die : Option (Fin 8)) (g : Group) (part : Partial) : State :=
  if viewOlder part.view (s.viewAt die g) then (match die with | some d => s.discard g d | none => s)
  else if viewOlder part.view g.view then s
  else
    let o := (g.op part.opseq).getD { opseq := part.opseq, born := g.view }
    if o.ended then s
    else
      let o := { o with
        arrived := if o.arrived.contains part.slice then o.arrived else o.arrived ++ [part.slice]
        away := match part.leaf with
          | some x => o.away.filter (fun (e : Nat × Leaf) => e.1 != part.slice) ++ [(part.slice, x)]
          | none => o.away }
      (s.setGroup (g.putOp o)).tryOps g.num

/-- A partial comes to the CLE of a die (12 R271). -/
def hearPartial (die : Option (Fin 8)) (grp : Nat) (part : Partial) (s : State) : Host.Outcome State Fault Refusal :=
  event "CLE_PARTIAL_RECEIVE" (s.group_ grp).isSome (fun s =>
    match s.group_ grp with
    | none => s
    | some g => s.combine die g part) s

/-- CLE_PARTIAL_RECEIVE (12 R271): at the leader's CLE. -/
def execClePartialReceive (grp : Nat) (part : Partial) (s : State) : Host.Outcome State Fault Refusal :=
  hearPartial ((s.group_ grp).bind (fun (g : Group) => s.memberDie (leaderOf g.live))) grp part s

end Sys2Proof.Machine
end

