-- ==== Sys2Proof/Machine/Views.lean ====
section
/-!
DEFINITION. Heartbeats, suspicion and the agreement on views (20_health.md R386 to R389), and what a commit does to groups,
operations and handles (12_collective.md R258 to R261, R271 to R273).
-/

namespace Sys2Proof.Machine

/-- 40 µs in CYCLE periods (20 R387). -/
def bindFor : Nat := 64000

/-- The view after a view (12 R258). -/
def nextView (v : Nat) : Nat := (v + 1) % 2 ^ 24

/-! ## The bypass ring (19 R359) -/

/-- An event of the ring as an input: the next message of its source taken off, or one that the fabric agents bring from a
member of another package (20 R386). -/
def State.offRing (s : State) (far : Bool) (e : Due) : Option State :=
  if (ringHeads [] s.ring).contains e then some { s with ring := s.ring.eraseP (fun x => decide (x.2 = e)) }
  else if far then some s
  else none

/-- Brings a message of the ring about as an input: `hear` is the event of the message taken off. -/
def ringInput (name : String) (far : Bool) (e : Due) (hear : State → Host.Outcome State Fault Refusal) (s : State) :
    Host.Outcome State Fault Refusal :=
  match s.offRing far e with
  | some t => hear t
  | none => .fault (.notEnabled name)

/-! ## Heartbeats (20 R386) -/

/-- The members of the other packages that a circuit reaches. -/
def State.farMembers (s : State) : List Nat :=
  (((s.circuits.map (fun (e : Nat × BitVec 128) => circPkg e.2)).eraseDups).filter (fun (k : Nat) => k != s.pkgid.toNat)).flatMap
    (fun (k : Nat) => (List.range 8).map (fun (d : Nat) => k * 8 + d))

/-- HEARTBEAT_SEND: a live die, every 4 µs, to every other die over the ring, and through the fabric agents to those of other packages. -/
def execHeartbeatSend (die : Fin 8) (s : State) : Host.Outcome State Fault Refusal :=
  event "HEARTBEAT_SEND" (s.dieLive die.val && decide ((s.die die.val).lastBeat + beatEvery ≤ s.cycle))
    (fun s => ((s.setDie die.val { s.die die.val with lastBeat := s.cycle }).ringSend (s.member die.val)
      (((List.finRange 8).filter (fun (d : Fin 8) => d != die)).map (fun (d : Fin 8) => Due.heartbeatReceive d (s.member die.val)))).tellFar
        s.farMembers (fun (d : Fin 8) => Due.heartbeatReceive d (s.member die.val))) s

/-- A live die notes when it last heard a member. -/
def hearHeartbeat (die : Fin 8) (mem : Nat) (s : State) : Host.Outcome State Fault Refusal :=
  event "HEARTBEAT_RECEIVE" (s.dieLive die.val && decide (mem < 4096) && mem != s.member die.val)
    (fun s => s.setDie die.val { s.die die.val with heard := SMap.set (s.die die.val).heard mem s.cycle }) s

/-- HEARTBEAT_RECEIVE: of a heartbeat on the ring, or of another package's. -/
def execHeartbeatReceive (die : Fin 8) (mem : Nat) (s : State) : Host.Outcome State Fault Refusal :=
  ringInput "HEARTBEAT_RECEIVE" (s.farMember mem) (.heartbeatReceive die mem) (hearHeartbeat die mem) s

/-! ## Proposals (20 R387) -/

/-- Replaces what a die's CLE keeps of a group. -/
def State.setMember (s : State) (d : Nat) (x : Member) : State :=
  s.setDie d { s.die d with members := (s.die d).members.map (fun (y : Member) => if y.grp = x.grp then x else y) }

/-- Whether a die leads its view as it sees it, and suspects a member of it. -/
def State.mustPropose (s : State) (d : Nat) (x : Member) : Bool :=
  s.leads d x && decide (s.trusted d x ≠ x.live) && x.bound.isNone && x.proposing.isNone

/-- MODE of an operation, by a share of it that is known. -/
def State.opMode (s : State) (grp : Nat) (o : CollOp) : Option Nat :=
  ((s.cmds.find? (fun m => m.inOp grp o.opseq)).map (·.mode)).orElse (fun _ => o.away.head?.map (fun (e : Nat × Leaf) => e.2.mode))

/-- COMMITSEQ of a commit that removes members (12 Table 12-1): from the first operation to be recomputed under the new view,
else from the next to start. -/
def State.commitFrom (s : State) (g : Group) : Nat :=
  let rw := g.ops.filter (fun o => !o.ended && o.started && s.opMode g.num o == some 1)
  match rw with
  | o :: rest => rest.foldl (fun (m : Nat) (p : CollOp) => min m p.opseq) o.opseq
  | [] => g.ops.foldl (fun (m : Nat) (p : CollOp) => if p.started || p.ended then max m (p.opseq + 1) else m) 0

/-- Whether a slice of a group is of a member of a list. -/
def Group.ofMembers (g : Group) (live : List Nat) (slice : Nat) : Bool := (g.slice[slice]?).any (fun (e : Nat × Bool) => live.contains e.1)

/-- Whether an operation is in flight at a survivor of a commit (12 R272): one that has issued it, or whose share the leader holds. -/
def State.heldBySurvivor (s : State) (g : Group) (live : List Nat) (o : CollOp) : Bool :=
  s.cmds.any (fun (m : Cmd) => m.inOp g.num o.opseq && g.ofMembers live m.slice) || o.arrived.any (g.ofMembers live)

/-- What a removing commit does to one operation in flight (12 Table 12-8); one that no survivor has issued, or of which no share is known,
takes the new view. -/
def State.commitOp (s : State) (g : Group) (view : Nat) (live : List Nat) (o : CollOp) : State :=
  let put := fun (o : CollOp) => s.setGroup ((s.group_ g.num).getD g |>.putOp o)
  if o.ended then s
  else if !s.heldBySurvivor g live o then put { o with view := view, live := live, started := false, arrived := [], away := [] }
  else match s.opMode g.num o with
    | some 0 => put { o with ended := true }
    | some 1 => put { o with view := view, live := live, arrived := [], away := [], rw := true }
    | some _ =>
      let old := if o.started then o.live else g.live
      let slices := s.presentSlices g old o.opseq
      if slices.all (fun i => o.arrived.contains i) then s.finishOp ((s.group_ g.num).getD g) o slices true false
      else put { o with ended := true }
    | none => put { o with view := view, live := live }

/-- A group's leader commits a view (12 R259, R272): operations in flight act on a removal, and the commit goes to every member
of the old view and those it adds; a leader of another package sends its own. -/
def State.takeView (s : State) (g : Group) (pr : Proposal) : State :=
  let removes := g.live.any (fun m => !pr.members.contains m)
  let s := if removes then g.ops.foldl (fun (s : State) (o : CollOp) => s.commitOp g pr.view pr.members o) s else s
  let s := s.setGroup { (s.group_ g.num).getD g with
    view := pr.view, live := pr.members, commitSeq := pr.fromSeq, stuckAt := none, told := false }
  let ms := g.live ++ pr.members.filter (fun m => !g.live.contains m)
  (s.untime (.quorumTimeout g.num)).tell pr.proposer (if s.farMember pr.proposer then ms.filter (fun m => !s.farMember m) else ms)
    (fun d => Due.commitReceive d g.num pr)

/-- The proposer commits once every member of the set has acknowledged and the set is a majority, in time (20 R387). -/
def State.tryCommit (s : State) (d : Nat) (grp : Nat) : State :=
  match s.memberOf d grp, s.group_ grp with
  | some x, some g =>
    match x.proposing with
    | some p =>
      if !p.abandoned && p.prop.members.all (fun m => p.acks.contains m) && decide (x.live.length < 2 * p.prop.members.length) &&
          decide (s.cycle ≤ p.sentAt + suspectAfter) && p.prop.view == nextView g.view then
        s.takeView g { p.prop with fromSeq := s.commitFrom g }
      else s
    | none => s
  | _, _ => s

/-- The OPSEQs of a group's operations in flight, started or still waiting. -/
def State.openOps (s : State) (g : Group) : List Nat :=
  ((g.ops.filter (fun o => !o.ended)).map (·.opseq) ++
    (s.cmds.filter (fun (m : Cmd) => m.kind.coll.isSome && m.grp == g.num && !m.ended)).map (·.opseq)).eraseDups

/-- A die proposes the next view without the members it suspects (20 R387). Where the rest is no majority, the group waits
(R388), also where its leader is of another package. -/
def State.propose (s : State) (d : Nat) (grp : Nat) : State :=
  match s.memberOf d grp, s.group_ grp with
  | some x, some g =>
    if s.mustPropose d x then
      let me := s.member d
      let pr : Proposal := { view := nextView x.view, members := s.trusted d x, proposer := me, fromSeq := 0 }
      let s := s.setMember d { x with
        proposing := some { prop := pr, acks := [me], sentAt := s.cycle, abandoned := false, refused := false }
        bound := some (pr, s.cycle + bindFor) }
      let s := { s.tell me (pr.members.filter (· != me)) (fun e => Due.viewProposalReceive e grp pr) with
        timers := s.timers ++ [(s.cycle + suspectAfter, Due.proposalTimeout (Fin.ofNat 8 d) grp),
          (s.cycle + bindFor, Due.ackBindingExpire (Fin.ofNat 8 d) grp)] }
      let s := if x.live.length < 2 * pr.members.length then s else s.stall g
      s.tryCommit d grp
    else s.stallAt d grp
  | _, _ => s

/-- A die proposes in every group that it must. -/
def State.proposeAll (s : State) (d : Nat) : State :=
  (s.die d).members.foldl (fun (s : State) (x : Member) => s.propose d x.grp) s

/-- SUSPECT_TIMEOUT (20 R386): no heartbeat of the member for 20 µs. -/
def execSuspectTimeout (die : Fin 8) (mem : Nat) (s : State) : Host.Outcome State Fault Refusal :=
  event "SUSPECT_TIMEOUT" (s.mustSuspect die.val mem)
    (fun s => (s.setDie die.val { s.die die.val with suspects := (s.die die.val).suspects ++ [mem] }).proposeAll die.val) s

/-- A member acknowledges a proposal and is bound by it for 40 µs (20 R387). -/
def State.acknowledge (s : State) (d : Nat) (x : Member) (pr : Proposal) : State :=
  let s := s.setMember d { x with bound := some (pr, s.cycle + bindFor) }
  { s.tell (s.member d) [pr.proposer] (fun e => Due.viewAckReceive e x.grp (s.member d) pr.view) with
    timers := s.timers ++ [(s.cycle + bindFor, Due.ackBindingExpire (Fin.ofNat 8 d) x.grp)] }

/-- A member hears a proposal (20 R387). -/
def hearProposal (die : Fin 8) (grp : Nat) (pr : Proposal) (s : State) : Host.Outcome State Fault Refusal :=
  event "VIEW_PROPOSAL_RECEIVE" (s.dieLive die.val && (s.memberOf die.val grp).isSome) (fun s =>
    match s.memberOf die.val grp with
    | none => s
    | some x =>
      if pr.view ≠ nextView x.view then s
      else match x.bound with
        | some (q, _) =>
          if q.proposer = pr.proposer ∧ q.members = pr.members then s.acknowledge die.val x pr
          else s.tell (s.member die.val) [pr.proposer] (fun e => Due.viewRefusalReceive e grp q.proposer pr.view)
        | none =>
          if pr.proposer ≤ leaderOf (s.trusted die.val x) then s.acknowledge die.val x pr else s) s

/-- VIEW_PROPOSAL_RECEIVE (20 R387). -/
def execViewProposalReceive (die : Fin 8) (grp : Nat) (pr : Proposal) (s : State) : Host.Outcome State Fault Refusal :=
  ringInput "VIEW_PROPOSAL_RECEIVE" (s.farMember pr.proposer) (.viewProposalReceive die grp pr) (hearProposal die grp pr) s

/-- A proposer hears an acknowledgement (20 R387). -/
def hearAck (die : Fin 8) (grp : Nat) (mem : Nat) (view : Nat) (s : State) : Host.Outcome State Fault Refusal :=
  event "VIEW_ACK_RECEIVE" (s.dieLive die.val && (match s.memberOf die.val grp with | some x => x.proposing.isSome | none => false))
    (fun s =>
      match s.memberOf die.val grp with
      | some x => match x.proposing with
        | some p =>
          if p.prop.view = view ∧ p.prop.members.contains mem ∧ !p.acks.contains mem then
            (s.setMember die.val { x with proposing := some { p with acks := p.acks ++ [mem] } }).tryCommit die.val grp
          else s
        | none => s
      | none => s) s

/-- VIEW_ACK_RECEIVE (20 R387). -/
def execViewAckReceive (die : Fin 8) (grp : Nat) (mem : Nat) (view : Nat) (s : State) : Host.Outcome State Fault Refusal :=
  ringInput "VIEW_ACK_RECEIVE" (s.farMember mem) (.viewAckReceive die grp mem view) (hearAck die grp mem view) s

/-- A proposer hears a refusal (20 R387): one that names a lower proposer makes it abandon its own. -/
def hearRefusal (die : Fin 8) (grp : Nat) (held : Nat) (view : Nat) (s : State) : Host.Outcome State Fault Refusal :=
  event "VIEW_REFUSAL_RECEIVE" (s.dieLive die.val && (match s.memberOf die.val grp with | some x => x.proposing.isSome | none => false))
    (fun s =>
      match s.memberOf die.val grp with
      | some x => match x.proposing with
        | some p =>
          if p.prop.view = view ∧ held < s.member die.val then
            s.setMember die.val { x with proposing := some { p with abandoned := true, refused := true } }
          else s
        | none => s
      | none => s) s

/-- VIEW_REFUSAL_RECEIVE (20 R387). -/
def execViewRefusalReceive (die : Fin 8) (grp : Nat) (held : Nat) (view : Nat) (s : State) : Host.Outcome State Fault Refusal :=
  ringInput "VIEW_REFUSAL_RECEIVE" ((s.memberOf die.val grp).any (fun (x : Member) => x.live.any s.farMember))
    (.viewRefusalReceive die grp held view) (hearRefusal die grp held view) s

/-- A proposal is given up, and after 20 µs more the die proposes again, without those that did not acknowledge (20 R387). -/
def State.proposalOver (s : State) (d : Nat) (x : Member) (p : Proposing) : State :=
  if s.cycle < p.sentAt + bindFor then
    let s := s.setMember d { x with proposing := some { p with abandoned := true } }
    { s with timers := s.timers ++ [(p.sentAt + bindFor, Due.proposalTimeout (Fin.ofNat 8 d) x.grp)] }
  else
    let silent := if p.refused then [] else p.prop.members.filter (fun m => !p.acks.contains m && !(s.die d).suspects.contains m)
    let s := s.setMember d { x with proposing := none, bound := none }
    (s.setDie d { s.die d with suspects := (s.die d).suspects ++ silent }).proposeAll d

/-- PROPOSAL_TIMEOUT (20 R387). -/
def execProposalTimeout (die : Fin 8) (grp : Nat) (s : State) : Host.Outcome State Fault Refusal :=
  event "PROPOSAL_TIMEOUT" (match s.memberOf die.val grp with
      | some x => (match x.proposing with | some p => decide (p.sentAt + suspectAfter ≤ s.cycle) | none => false)
      | none => false)
    (fun s =>
      match s.memberOf die.val grp with
      | some x => (match x.proposing with | some p => s.proposalOver die.val x p | none => s)
      | none => s) s

/-- ACK_BINDING_EXPIRE (20 R387). -/
def execAckBindingExpire (die : Fin 8) (grp : Nat) (s : State) : Host.Outcome State Fault Refusal :=
  event "ACK_BINDING_EXPIRE" (match s.memberOf die.val grp with
      | some x => (match x.bound with | some (_, t) => decide (t ≤ s.cycle) | none => false)
      | none => false)
    (fun s =>
      match s.memberOf die.val grp with
      | some x => (s.setMember die.val { x with bound := none }).propose die.val grp
      | none => s) s

/-- QUORUM_TIMEOUT (20 R388): the group's operations are abandoned with VIEW, its job is told, and each member die of this
package writes a NO_QUORUM record. -/
def execQuorumTimeout (grp : Nat) (s : State) : Host.Outcome State Fault Refusal :=
  event "QUORUM_TIMEOUT" (match s.group_ grp with
      | some g => (match g.stuckAt with | some t => decide (t + quorumWait ≤ s.cycle) | none => false)
      | none => false)
    (fun s =>
      match s.group_ grp with
      | none => s
      | some g =>
        let s := s.setGroup { g with stuckAt := none, told := true }
        let s := (s.openOps g).foldl (fun (s : State) (q : Nat) => s.abandonOp grp q 0x18) s
        let s := s.report {
          job := g.job, op := 0x16, status := stNoQuorum, tag := 0, panel := 0, arg0 := BitVec.ofNat 64 grp
          arg1 := BitVec.ofNat 64 g.view, payload := [] }
        (g.live.filterMap s.memberDie).foldl (fun (s : State) (d : Fin 8) =>
          if s.dieLive d.val then s.healthRecord d.val 11 grp 0 g.view else s) s) s

/-! ## Commits (12 R271 to R273) -/

/-- A command of an operation that has not ended, at a die that receives a commit (12 Table 12-8): where the commit removes
members, an operation known before it has ended or is recomputed, and results on their way still land but in RESTART mode; a share that
the leader does not hold is sent under the new view, from the values read once (R266). What comes over a parked command waits for it (17
R319). -/
def State.commitCmd (s : State) (x : Member) (removes out : Bool) (m : Cmd) : State :=
  match (s.group_ x.grp).bind (fun (g : Group) => g.op m.opseq) with
  | none => s
  | some o =>
    if removes && (out || (o.ended && (m.outcome.isNone || m.mode == 0))) then s.abandonColl m 0x18
    else if m.state = .parked then s.setCmd { m with changed := m.changed || (removes && viewOlder o.born x.view) }
    else
      let s := match m.bar with
        | some k => if removes && viewOlder o.born x.view then s.updateBar none k (fun b => barError b 0x18) else s
        | none => s
      if m.state = .running ∧ !o.arrived.contains m.slice then
        s.sendShare m (leaderOf x.live) { slice := m.slice, view := x.view, opseq := m.opseq }
      else s

/-- The handles of a die's slices of a group after a commit (12 R261, R272): VCHG, and STATE 3 at a removed member. -/
def State.commitHandles (s : State) (g : Group) (mem : Nat) (out : Bool) : State :=
  (g.joins.filter (fun j => match g.slice[j.slice]? with | some (m, _) => m == mem && !j.rejoining | none => false)).foldl
    (fun (s : State) (j : Join) => if out then s.setHandStatus j.handle 0x0F 0x13 else s.setHandStatus j.handle 0 0x10) s

/-- A member that a commit adds has rejoined from the commit's first operation on (12 R273). -/
def Group.rejoinedAt (g : Group) (mem q : Nat) : Group :=
  { g with joins := g.joins.map (fun (j : Join) =>
      if j.rejoining && (g.slice[j.slice]?).any (fun e => e.1 == mem) then { j with rejoining := false, rejoinAt := q } else j) }

/-- The leader writes the whole descriptor once it has applied a commit (20 R387); for one on another package, the lowest member
of this package does. -/
def State.describe (s : State) (g : Group) (mem : Nat) : State :=
  if leaderOf (g.live.filter (fun m => !s.farMember m)) = mem then s.writeDesc g 0 g.bytes.length else s

/-- A die's CLE applies a commit (12 R271, R272, 20 R386, R387, R390): its handles and its commands follow, and it proposes the
next view if it leads and still suspects a member. -/
def State.applyCommit (s : State) (d : Nat) (x : Member) (pr : Proposal) : State :=
  let s := match s.group_ x.grp with
    | some g => if pr.view = nextView g.view then s.takeView g pr else s
    | none => s
  let mem := s.member d
  let removed := x.live.filter (fun m => !pr.members.contains m)
  let added := pr.members.filter (fun m => !x.live.contains m)
  let out := removed.contains mem
  let y := { x with view := pr.view, live := pr.members, bound := none, proposing := none }
  let s := s.setMember d y
  let s := s.setDie d { s.die d with
    suspects := (s.die d).suspects.filter (fun m => !removed.contains m && !added.contains m)
    heard := (added.filter s.farMember).foldl (fun (l : List (Nat × Nat)) (m : Nat) => SMap.set l m s.cycle) (s.die d).heard }
  let s := match s.group_ x.grp with
    | some g =>
      let s := (s.commitHandles g mem out).setGroup (if out then { g with joins := g.joins.filter (fun j => match g.slice[j.slice]? with
          | some (m, _) => m != mem || j.rejoining
          | none => true) }
        else if added.contains mem then g.rejoinedAt mem pr.fromSeq else g)
      let s := (s.cmds.filter (fun (m : Cmd) => m.kind.coll.isSome && m.grp == x.grp && m.core / 1024 == d && !m.ended)).foldl
        (fun (s : State) (m : Cmd) => s.commitCmd y (!removed.isEmpty) out m) s
      s.describe g mem
    | none => s
  let s := s.healthRecord d 6 x.grp 0 pr.view
  State.propose { s with agenda := s.agenda ++ [Due.cleOperationStart x.grp] } d x.grp

/-- A die hears a commit (12 R272, 20 R387). -/
def hearCommit (die : Fin 8) (grp : Nat) (pr : Proposal) (s : State) : Host.Outcome State Fault Refusal :=
  event "COMMIT_RECEIVE" (s.dieLive die.val && (match s.memberOf die.val grp with
      | some x => viewOlder x.view pr.view
      | none => false))
    (fun s => match s.memberOf die.val grp with
      | some x => s.applyCommit die.val x pr
      | none => s) s

/-- COMMIT_RECEIVE (12 R272, 20 R387). -/
def execCommitReceive (die : Fin 8) (grp : Nat) (pr : Proposal) (s : State) : Host.Outcome State Fault Refusal :=
  ringInput "COMMIT_RECEIVE" (s.farMember pr.proposer) (.commitReceive die grp pr) (hearCommit die grp pr) s

/-! ## Joins (12 R262, R273, 20 R389) -/

/-- The smallest OPSEQ that no live member's CLE has started (12 R273). -/
def State.nextSeq (s : State) (g : Group) : Nat :=
  ((g.ops.filter (fun (p : CollOp) => p.started || p.ended || p.arrived.any (g.ofMembers g.live))).map (·.opseq) ++
    (s.cmds.filter (fun (m : Cmd) => m.begun && m.grp == g.num && g.ofMembers g.live m.slice)).map (·.opseq)).foldl
      (fun (m q : Nat) => max m (q + 1)) 0

/-- The leader receives the JOIN of a slice (12 R273): one of a live member has joined; another's holds operations from q on,
and its handle's STATE becomes 4 (R261). A die that the package has not re-admitted is refused (20 R389). -/
def State.joinHeard (s : State) (g : Group) (slice mem : Nat) : State :=
  if (s.memberDie mem).any (fun (d : Fin 8) => !s.dieLive d.val) then s
  else if g.live.contains mem then s.setGroup { g with away := if g.away.contains slice then g.away else g.away ++ [slice] }
  else
    let g1 := { g with
      joinsHeard := if g.joinsHeard.contains slice then g.joinsHeard else g.joinsHeard ++ [slice]
      hold := some (g.hold.getD (s.nextSeq g)) }
    let s := s.setGroup g1
    let s := match g.joins.find? (fun j => j.slice == slice && j.rejoining) with
      | some j => s.setHandStatus j.handle 0x0F 4
      | none => s
    { s with agenda := s.agenda ++ [Due.rejoinCommit g.num] }

/-- The leader hears a JOIN (12 R273, 20 R389). -/
def hearJoin (grp : Nat) (slice : Nat) (s : State) : Host.Outcome State Fault Refusal :=
  event "JOIN_RECEIVE" (match s.group_ grp with | some g => decide (slice < g.slices) && (g.slice[slice]?).isSome | none => false)
    (fun s => match s.group_ grp with
      | some g => (match g.slice[slice]? with | some (mem, _) => s.joinHeard g slice mem | none => s)
      | none => s) s

/-- JOIN_RECEIVE (12 R273, 20 R389). -/
def execJoinReceive (grp : Nat) (slice : Nat) (s : State) : Host.Outcome State Fault Refusal :=
  ringInput "JOIN_RECEIVE" (((s.group_ grp).bind (fun (g : Group) => g.slice[slice]?)).any (fun (e : Nat × Bool) => s.farMember e.1))
    (.joinReceive grp slice) (hearJoin grp slice) s

/-- A member set in ascending order with more members. -/
def addMembers (live more : List Nat) : List Nat :=
  (List.range 4096).filter (fun m => live.contains m || more.contains m)

/-- The leader commits the view that adds the members heard (12 R273); each has rejoined once its own CLE applies it. -/
def State.rejoined (s : State) (g : Group) (q : Nat) : State :=
  let mems := g.joinsHeard.filterMap (fun i => (g.slice[i]?).map (·.1))
  let pr : Proposal := { view := nextView g.view, members := addMembers g.live mems, proposer := leaderOf g.live, fromSeq := q }
  let g1 := { g with
    hold := none, joinsHeard := []
    away := g.away ++ g.joinsHeard.filter (fun i => g.joins.all (fun j => j.slice != i) && !g.away.contains i) }
  let s := (s.setGroup g1).takeView g1 pr
  { s with agenda := s.agenda ++ [Due.cleOperationStart g.num] }

/-- REJOIN_COMMIT (12 R273). -/
def execRejoinCommit (grp : Nat) (s : State) : Host.Outcome State Fault Refusal :=
  event "REJOIN_COMMIT" (s.isReady (.rejoinCommit grp) && (match s.group_ grp with | some g => g.hold.isSome | none => false))
    (fun s => match s.group_ grp with
      | some g => (match g.hold with | some q => s.rejoined g q | none => s)
      | none => s) s

end Sys2Proof.Machine
end

