-- ==== Sys2Proof/Machine/Health.lean ====
section
/-!
DEFINITION. Errors, suspicion scores, targeted tests, the loss of dies, ageing and the adaptive loops (20_health.md R379 to R385,
R390 to R394), and the activity forecast with the cluster clock (17_panels.md R323 to R326).
-/

namespace Sys2Proof.Machine

/-! ## Errors (20 Table 20-1, Table 20-3) -/

/-- CORRECTED_ERROR (20 R380). -/
def execCorrectedError (o : ScoreObj) (s : State) : Host.Outcome State Fault Refusal :=
  event "CORRECTED_ERROR" s.power (fun s => s.addScore o 1) s

/-- The 32-byte sector of a key holds an uncorrectable error from now on. -/
def State.spoil (s : State) (key : Nat) : State :=
  { s with poison := if s.poison.contains (key / 32) then s.poison else s.poison ++ [key / 32] }

/-- What an uncorrectable error does where it is found (20 Table 20-1, Table 20-3, 19 R363): a read of it later traps or fails
the command; one that no instruction owns kills the resident panel, or the swapped one whose shadow storage holds it
(DEDUCED, assumption log 62). -/
def State.uncorrectable (s : State) : UncObj → State
  | .unowned c =>
    let s := s.objRecord (.core c) 5 0
    match s.panelAt c.val with
    | some p => if p.resident ∨ p.state = 4 then s.healthKill (c.val / 1024) p.num else s
    | none => s
  | .scrub pa => (s.spoil (deviceBase + pa % 2 ^ 39)).healthRecord (pa % 2 ^ 39 / 2 ^ 36) 5 0 0 (Config.recordCause 5 pa)
  | .bank c b off =>
    let s := (s.spoil (regionBase c.val + off % 2 ^ 19)).addScore (.bank c b) 64
    s.objRecord (.bank c b) 5 (s.scoreOf (.bank c b)).value.toNat
  | .matrix c => s.setCore c.val { s.core c.val with badMat := true }
  | .retryEntry l lseq =>
    let x := s.link l
    let s := s.setLink l { x with retry := x.retry.map (fun (r : Retry) => if r.lseq = lseq then { r with void := true } else r) }
    let s := s.addScore (.link l) 64
    s.objRecord (.link l) 5 (s.scoreOf (.link l)).value.toNat
  | .sendStore c =>
    let s := s.addScore (.core c) 64
    s.objRecord (.core c) 5 (s.scoreOf (.core c)).value.toNat

/-- UNCORRECTABLE_ERROR (20 R385). -/
def execUncorrectableError (o : UncObj) (s : State) : Host.Outcome State Fault Refusal :=
  event "UNCORRECTABLE_ERROR" s.power (fun s => s.uncorrectable o) s

/-! ## Scores (20 R380) -/

/-- Half a score; a test that is due stays due (20 R381). -/
def Score.half (x : Score) : Score := { x with value := BitVec.ofNat 16 (x.value.toNat / 2) }

/-- SCORE_HALVING (20 R380): every score of the package at once, at an instant that is a multiple of 2^20 µs, once. -/
def execScoreHalving (s : State) : Host.Outcome State Fault Refusal :=
  event "SCORE_HALVING" (s.cycle % halfLife == 0 && decide (s.lastHalf < s.cycle / halfLife)) (fun s =>
    { s with
      cores := s.cores.map (fun (e : Nat × Core) => (e.1, { e.2 with score := e.2.score.half, banks := e.2.banks.map Score.half }))
      links := s.links.map (fun (e : LinkId × Link) => (e.1, { e.2 with score := e.2.score.half }))
      lastHalf := s.cycle / halfLife }) s

/-! ## Targeted tests (20 R383, R384) -/

/-- A link retrains (19 R361), and is trained at most 8 µs later. -/
def State.retrain (s : State) (l : LinkId) : State :=
  let x := s.link l
  if x.retraining then s
  else { s.setLink l { x with retraining := true, naks := [] } with
    agenda := s.agenda ++ [Due.retrainComplete l] }

/-- TARGETED_TEST_START: at the first moment that R383 gives; a link direction is tested during a retrain. -/
def execTargetedTestStart (o : ScoreObj) (s : State) : Host.Outcome State Fault Refusal :=
  let x := s.scoreOf o
  event "TARGETED_TEST_START" (x.due && !x.testing && s.testable o) (fun s =>
    let s := s.setScore o { x with testing := true }
    match o with
    | .link l => s.retrain l
    | _ => s) s

/-- TEST_HOLD_TIMEOUT: nothing let the test run for 10 s, so the SRS holds the panel for it (R318); an object on a core that is down has
no test. -/
def execTestHoldTimeout (o : ScoreObj) (s : State) : Host.Outcome State Fault Refusal :=
  let x := s.scoreOf o
  match (objCore o).bind s.panelAt with
  | some p => event "TEST_HOLD_TIMEOUT" (x.due && !x.testing && decide (x.dueAt + testWait ≤ s.cycle) && p.holdable && !(objCore o).any s.coreDown)
      (fun s => s.startCollect p .test) s
  | none => .fault (.notEnabled "TEST_HOLD_TIMEOUT")

/-- A link is disabled, in both directions (20 R384). -/
def State.disable (s : State) (l : LinkId) : State :=
  let s := s.setLink l { s.link l with disabled := true }
  s.setLink (linkBack l) { s.link (linkBack l) with disabled := true }

/-- A failed test (20 R384). -/
def State.failTest (s : State) : ScoreObj → State
  | .core c => s.retire (c.val / 64)
  | .bank c _ => s.retire (c.val / 64)
  | .link (.threeD d _) => s.loseDie d.val
  | .link l => s.disable l

/-- The panel of an object's core resumes after the last of its tests (20 R383). -/
def State.testsOver (s : State) (o : ScoreObj) : State :=
  match (objCore o).bind s.panelAt with
  | some p => s.testsDone p.num
  | none => s

/-- TARGETED_TEST_COMPLETE (20 R384). -/
def execTargetedTestComplete (o : ScoreObj) (pass : Bool) (s : State) : Host.Outcome State Fault Refusal :=
  let x := s.scoreOf o
  event "TARGETED_TEST_COMPLETE" x.testing (fun s =>
    if pass then
      ((s.setScore o { x with value := 128, due := false, testing := false, passed := true }).objRecord o 2 128).testsOver o
    else
      let s := (s.setScore o { x with due := false, testing := false }).objRecord o 3 x.value.toNat
      (s.failTest o).testsOver o) s

/-! ## Loss and return of dies (20 R385) -/

/-- HEARTBEAT_LOSS_TIMEOUT: no heartbeat of a die for 100 µs. -/
def execHeartbeatLossTimeout (die : Fin 8) (s : State) : Host.Outcome State Fault Refusal :=
  event "HEARTBEAT_LOSS_TIMEOUT" (s.mustLose die.val)
    (fun s => s.loseDie die.val) s

/-- FATAL_FAULT_REPORT: a live die reports a fatal fault on the bypass ring, behind what it has sent there (19 R359). -/
def execFatalFaultReport (die : Fin 8) (s : State) : Host.Outcome State Fault Refusal :=
  event "FATAL_FAULT_REPORT" (s.dieLive die.val) (fun s => s.ringSend (s.member die.val) [Due.fatalReport die]) s

/-- The master hears the report and declares the die lost (20 R385), unless it has been. -/
def State.hearFatal (s : State) (die : Fin 8) : State := if s.undeclared die.val then s.loseDie die.val else s

/-- The die of an engine. -/
def engineDie : Engine → Option Nat
  | .xfu cl => some (cl.val / 16)
  | .ske d => some d.val
  | .cle d => some d.val
  | .cme d => some d.val
  | .easel d _ => some d.val
  | .walker d => some d.val
  | _ => none

/-- The die whose core or engine would bring a due event about; none for the package's own and for what is on its way. -/
def State.dueDie (s : State) : Due → Option Nat
  | .completionPost c _ => some (c.val / 1024)
  | .messageAdmit c => some (c.val / 1024)
  | .commandEnqueue c _ => some (c.val / 1024)
  | .mwaitTimeout c _ => some (c.val / 1024)
  | .yieldExpire c _ => some (c.val / 1024)
  | .stealRequest cl => some (cl.val / 16)
  | .stealServe _ v => some (v.val / 16)
  | .donationAppend cl => some (cl.val / 16)
  | .engineCommandStart e => engineDie e
  | .sectorWrite m _ => (s.cmd m).bind (fun (x : Cmd) => engineDie x.engine)
  | .pageWalk m => (s.cmd m).bind (fun (x : Cmd) => engineDie x.engine)
  | .migrateComplete m => (s.cmd m).bind (fun (x : Cmd) => engineDie x.engine)
  | .clePartialReceive _ g part => ((s.group_ g).bind (fun (x : Group) => x.slice[part.slice]?)).bind (fun (e : Nat × Bool) =>
      (s.memberDie e.1).map (·.val))
  | .packetInject id => (s.packets.find? (fun (p : Packet) => p.id == id)).bind (fun (p : Packet) =>
      if 2 ^ 14 ≤ p.src then none else some (agentDie p.src))
  | _ => none

/-- The die with the lowest UID of a list (19 R369, R370). -/
def lowestUid : List (Fin 8) → Option (Fin 8)
  | [] => none
  | d :: rest => match lowestUid rest with
    | some e => if (Config.uid e).toNat < (Config.uid d).toNat then some e else some d
    | none => some d

/-- The dies at a stage. -/
def State.diesAt (s : State) (st : DieStage) : List (Fin 8) := (List.finRange 8).filter (fun d => (s.die d.val).stage == st)

/-- The master has rejected its image, or failed in bring-up: the next lowest UID leads, and the dies repeat step 4 (19 R370); the image on
its way is not taken. -/
def State.newMaster (s : State) : State :=
  { s with
    ring := s.ring.filter (fun (e : Nat × Due) => match e.2 with | .imageReceive _ => false | _ => true)
    master := lowestUid (s.diesAt .heard ++ s.diesAt .imaged ++ s.diesAt .verified)
    dies := s.dies.map (fun (x : Die) => if x.stage = .imaged ∨ x.stage = .verified then { x with stage := .heard } else x) }

/-- DIE_SUPPLY_LOSS: the die stops in what it was doing, and what its memories held is gone; its ring of records goes, their SEQ does not. A master
that fails before the SRS starts is replaced (19 R370). -/
def execDieSupplyLoss (die : Fin 8) (s : State) : Host.Outcome State Fault Refusal :=
  event "DIE_SUPPLY_LOSS" ((s.die die.val).stage != .off) (fun s =>
    let d := die.val
    let x := s.die d
    let mem := Memory.clear (Memory.clear s.mem (d * 2 ^ 29) ((d + 1) * 2 ^ 29)) (deviceBase + d * 2 ^ 36) (deviceBase + (d + 1) * 2 ^ 36)
    let t := { s.setDie d { x with stage := if x.stage = .lost ∨ x.stage = .absent then x.stage else .off, records := [], suspects := [] } with
      mem := mem, agenda := s.agenda.filter (fun (e : Due) => s.dueDie e != some d) }
    if !s.srs && s.master.any (fun (m : Fin 8) => m.val == d) then t.newMaster else t) s

/-- DIE_SUPPLY_RETURN: a lost die starts again at its ROM (Table 19-4, steps 1 and 5); its engines and cores are as after
reset. -/
def execDieSupplyReturn (die : Fin 8) (s : State) : Host.Outcome State Fault Refusal :=
  event "DIE_SUPPLY_RETURN" ((s.die die.val).stage == .lost && s.power) (fun s =>
    let d := die.val
    let x := s.die d
    let s := { s with
      packets := s.packets.filter (fun (p : Packet) => decide (2 ^ 14 ≤ p.src) || agentDie p.src != d)
      cores := s.cores.map (fun (e : Nat × Core) => if e.1 / 1024 = d then (e.1, { Core.reset with score := e.2.score, banks := e.2.banks }) else e)
      clusters := s.clusters.map (fun (e : Nat × Cluster) => if e.1 / 16 = d then
        (e.1, { Cluster.reset with retired := e.2.retired, aged := e.2.aged, ceiling := e.2.ceiling, endOfLife := e.2.endOfLife }) else e) }
    s.setDie d { Die.reset with stage := .rom, records := x.records, seq := x.seq, stackEol := x.stackEol }) s

/-! ## Ageing (20 R393) -/

/-- A predicted end of life in months. -/
def monthsLeft (margin : Nat) (drift : Int) : Nat := if drift ≤ 0 then 65535 else min 65535 (margin / drift.toNat)

/-- The clock one step below in 17 Table 17-11; the base clock stays. -/
def stepDown (mhz : Nat) : Nat := if 2100 ≤ mhz then 1900 else if 1900 ≤ mhz then 1700 else 1600

/-- AGEING_FIT. -/
def execAgeingFit (o : AgeObj) (margin : Nat) (drift : Int) (s : State) : Host.Outcome State Fault Refusal :=
  event "AGEING_FIT" s.power (fun s =>
    let n := monthsLeft margin drift
    match o with
    | .cluster cl =>
      let x := s.cluster cl.val
      let aged := if n = 0 then stepDown x.aged else x.aged
      let s := s.setCluster cl.val { x with endOfLife := n, aged := aged, ceiling := min x.ceiling aged }
      if n < 6 then s.healthRecord (cl.val / 16) 8 (cl.val * 64) 0 n else s
    | .link l =>
      let x := s.link l
      let s := s.setLink l { x with endOfLife := n, slow := if n = 0 then x.slow + 1 else x.slow }
      if n < 6 then
        (match objDie (.link l) with
          | some d => s.healthRecord d 8 (linkNo l) 0 n
          | none => s.photonicRecord 8 (linkNo l) 0 n)
      else s
    | .stack d =>
      let s := s.setDie d.val { s.die d.val with stackEol := n }
      if n < 6 then s.healthRecord d.val 8 d.val 0 n else s) s

/-! ## Adaptive loops (20 R394) -/

/-- The clocks of 17 Table 17-11, by step. -/
def clockStep (k : Fin 4) : Nat := [2100, 1900, 1700, 1600].getD k.val 1600

/-- VF_LOOP: the ceiling of a cluster's clock, never above what ageing allows, and its voltage. -/
def execVfLoop (cl : ClusterId) (ceiling : Fin 4) (millivolt : Nat) (s : State) : Host.Outcome State Fault Refusal :=
  event "VF_LOOP" s.power (fun s =>
    let x := s.cluster cl.val
    s.setCluster cl.val { x with ceiling := min (clockStep ceiling) x.aged, millivolt := millivolt }) s

/-- DROOP: clock edges stretched by up to 50%. -/
def execDroop (cl : ClusterId) (stretch : Nat) (s : State) : Host.Outcome State Fault Refusal :=
  event "DROOP" (s.power && decide (stretch ≤ 50)) (fun s => s.setCluster cl.val { s.cluster cl.val with stretch := stretch }) s

/-- EQUALISATION_LOOP: a UCIe or fibre lane's setting; a margin below its floor starts a retrain. -/
def execEqualisationLoop (l : LinkId) (setting : Nat) (below : Bool) (s : State) : Host.Outcome State Fault Refusal :=
  event "EQUALISATION_LOOP" (s.power && (match l with | .threeD _ _ => false | _ => true)) (fun s =>
    let s := s.setLink l { s.link l with setting := setting }
    if below then s.retrain l else s) s

/-- SCRUB_LOOP: the patrol-scrub period in hours, halved down to 1 while the rate exceeds 1 per hour. -/
def execScrubLoop (die : Fin 8) (rate : Nat) (s : State) : Host.Outcome State Fault Refusal :=
  event "SCRUB_LOOP" s.power (fun s =>
    let x := s.die die.val
    s.setDie die.val { x with scrubHours := if 1 < rate then max 1 (x.scrubHours / 2) else 24 }) s

/-! ## The activity forecast and the cluster clock (17 R323 to R326) -/

/-- A slot of ACTFCST. -/
def slotBits (l v m : Nat) : Nat := l * 4096 + v * 64 + m

/-- ACTFCST from the load and the busy figures (17 R324). -/
def forecast (l v m : Nat) : Word :=
  let (v1, m1) := if 2 < l then (v, m) else (v / 2, m / 2)
  let (v2, m2) := if 4 < l then (v, m) else (v1 / 2, m1 / 2)
  let (v3, m3) := if 6 < l then (v, m) else (v2 / 2, m2 / 2)
  BitVec.ofNat 64 (slotBits (l - 6) v3 m3 * 2 ^ 48 + slotBits (l - 4) v2 m2 * 2 ^ 32 + slotBits (l - 2) v1 m1 * 2 ^ 16 + slotBits l v m)

/-- The demand of a cluster from SLOT1 of its cores (17 R325). -/
def State.demand (s : State) (cl : Nat) : Nat :=
  (s.cores.filter (fun (e : Nat × Core) => e.1 / 64 == cl)).foldl (fun (d : Nat) (e : Nat × Core) =>
    d + 4 * field e.2.actfcst 16 6 + field e.2.actfcst 22 6) 0

/-- The clock for a demand (17 Table 17-11). -/
def clockFor (d : Nat) : Nat :=
  if d = 0 then 1600 else if d ≤ 4031 then 2100 else if d ≤ 8063 then 1900 else if d ≤ 12095 then 1700 else 1600

/-- ACTFCST_UPDATE: the forecast of a core, and the choice of its cluster's clock for the interval after the next. -/
def execActfcstUpdate (c : CoreId) (s : State) : Host.Outcome State Fault Refusal :=
  event "ACTFCST_UPDATE" s.power (fun s =>
    let k := s.core c.val
    let cl := c.val / 64
    let clock := (s.cluster cl).clock
    let runs := match s.panelAt c.val with | some p => p.dispatches | none => false
    let busy := fun (n : Nat) => if runs then min 63 (64 * n / clock) else 0
    let l := min 15 ((k.ctxs.toList.filter (fun (x : Ctx) => x.run != .dormant)).length + k.inbox.length)
    let s := s.setCore c.val { k with
      actfcst := forecast l (busy k.busyVec) (busy k.busyMat), busyMat := 0, busyVec := 0, actAt := s.cycle }
    let x := s.cluster cl
    s.setCluster cl { x with clockChosen := min (clockFor (s.demand cl)) x.ceiling }) s

/-- CLOCK_CHANGE (17 R326): the clock chosen one interval ago takes effect, and a stretch of the last 1 µs is over (20 R394). -/
def execClockChange (cl : ClusterId) (s : State) : Host.Outcome State Fault Refusal :=
  event "CLOCK_CHANGE" s.power (fun s =>
    let x := s.cluster cl.val
    s.setCluster cl.val { x with clock := x.clockNext, clockNext := x.clockChosen, stretch := 0 }) s

end Sys2Proof.Machine
end

