-- ==== Sys2Proof/Machine/Holds.lean ====
section
/-!
DEFINITION. The events that end a collection, a save, a restore and a checkpoint (17_panels.md R318, R322, 18_traps.md R347,
R348, 20_health.md R395, R396).
-/

namespace Sys2Proof.Machine

/-! ## Collections -/

/-- A panel with its collection in progress. -/
def State.collecting (s : State) (n : Nat) : Option (Panel × Collect) := (s.panel n).bind (fun p => p.collect.map (fun c => (p, c)))

/-- PREEMPT_ACK (17 R318, R319): the instance parks what it holds of the panel, in order; the last one makes it HELD. -/
def execPreemptAck (panel : Nat) (e : Engine) (s : State) : Host.Outcome State Fault Refusal :=
  match s.collecting panel with
  | some (p, c) => event "PREEMPT_ACK" (c.waiting.contains e && s.isReady (.preemptAck panel e)) (fun s =>
      let ids := s.toPark panel e
      let c := { c with waiting := c.waiting.filter (fun x => decide (x ≠ e)) }
      let p := { p with parked := p.parked ++ ids, collect := some c }
      let s := (s.park ids).setPanel p
      if c.waiting = [] then s.nowHeld p c else s) s
  | none => .fault (.notEnabled "PREEMPT_ACK")

/-- PREEMPT_TIMEOUT (17 R322). -/
def execPreemptTimeout (panel : Nat) (s : State) : Host.Outcome State Fault Refusal :=
  match s.collecting panel with
  | some (p, c) => event "PREEMPT_TIMEOUT" (decide (c.startAt + preemptLimit ≤ s.cycle)) (fun s => s.holdFailed p c) s
  | none => .fault (.notEnabled "PREEMPT_TIMEOUT")

/-! ## Saves and restores -/

/-- A panel with its save or restore in progress, its cores held. -/
def State.savingAt (s : State) (n : Nat) (restore : Bool) : Option (Panel × Saving) :=
  (s.panel n).bind (fun p => if p.collect.isSome then none else
    p.saving.bind (fun v => if v.restore = restore then some (p, v) else none))

/-- SAVE_COMPLETE (18 R347), if the save still meets nothing that stops it. -/
def execSaveComplete (panel : Nat) (s : State) : Host.Outcome State Fault Refusal :=
  match s.savingAt panel false with
  | some (p, v) => .next (match s.saveStopAt p v (imageLen p p.parked.length) with
      | none => s.saveDone p v
      | some (o, r) => s.saveHalted p v r o)
  | none => .fault (.notEnabled "SAVE_COMPLETE")

/-- SAVE_STOP (18 R347): at the first place where the save cannot go on. -/
def execSaveStop (panel : Nat) (reason : BitVec 2) (cursor : BitVec 40) (s : State) : Host.Outcome State Fault Refusal :=
  match s.savingAt panel false with
  | some (p, v) => event "SAVE_STOP" (decide (s.saveStopAt p v (imageLen p p.parked.length) = some (cursor.toNat, reason.toNat)))
      (fun s => s.saveHalted p v reason.toNat cursor.toNat) s
  | none => .fault (.notEnabled "SAVE_STOP")

/-- What a restore reads in its second pass; none if a page or the data behind it is not there, or an uncorrectable error is
(18 R348). -/
def State.restoreImage (s : State) (p : Panel) (v : Saving) : Option Saved :=
  match s.readVa (coreAt p.x0 p.y0) p.ptbase p.asid v.va 0x1000 with
  | .ok (h, _) =>
    if (s.shapeFault p h).isSome then none
    else
      let img := s.imageAt p v.va h
      if (s.unmappedAt p v.va 0 img.length false).isNone && !s.imageSpoiled p v.va img.length then some (s.asWritten p v.va img)
      else none
  | .error _ => none

/-- Whether another panel occupies some core of a panel's rectangle (17 R304). -/
def State.overlapped (s : State) (p : Panel) : Bool :=
  s.panels.any (fun (q : Panel) => q.num != p.num && q.occupies && decide (q.x0 < p.x0 + p.w) && decide (p.x0 < q.x0 + q.w) &&
    decide (q.y0 < p.y0 + p.h) && decide (p.y0 < q.y0 + q.h))

/-- The SRS's registers of a panel on its cores, before a saved panel is put back (18 R348, 17 R311). -/
def State.ownCores (s : State) (p : Panel) : State :=
  p.cores.foldl (fun (s : State) (c : Nat) => s.setCore c { s.core c with
    panelId := BitVec.ofNat 32 p.num, ptbase := p.ptbase, asid := p.asid }) s

/-- RESTORE_COMPLETE (18 R348, 17 R304). -/
def execRestoreComplete (panel : Nat) (s : State) : Host.Outcome State Fault Refusal :=
  match s.savingAt panel true with
  | some (p, v) => .next (
      if p.state = 5 ∧ s.overlapped p then
        let s := s.setPanel { p with saving := none }
        match v.rq with
        | some rq => s.answer 0x0C rq stPanelBad
        | none => s
      else match s.restoreImage p v with
        | none => s.restoreLost p v
        | some img => (s.ownCores p).restoreDone p v img)
  | none => .fault (.notEnabled "RESTORE_COMPLETE")

/-! ## The package checkpoint (20 R395, R396) -/

/-- The first key of a second-tier segment, if it is mapped (19 R376). -/
def State.segment (s : State) (k : Nat) : Option (Nat × Nat) :=
  (s.tiers.find? (fun (e : Nat × (Nat × Nat)) => e.1 == k)).map (fun (e : Nat × (Nat × Nat)) =>
    (deviceBase + 2 ^ 52 + e.2.1 * 2 ^ 48 + e.2.2 * 2 ^ 36, e.2.1))

/-- One area of memory copied to another place. -/
def copyArea (mem : List Host.Cell) (src dst n : Nat) (key : Nat → Nat) : List Host.Cell :=
  (mem.filter (fun (x : Host.Cell) => decide (src ≤ x.1) && decide (x.1 < src + n))).foldl
    (fun (m : List Host.Cell) (x : Host.Cell) => Memory.set m (dst + (key x.1 - src)) x.2) (Memory.clear mem dst (dst + n))

/-- The panel entries of a checkpoint (20 Table 20-6), ascending. -/
def State.checkEntries (s : State) (c : Check) : List Byte :=
  let ps := s.panels.filter (fun (p : Panel) => p.occupies && decide (0 < p.w))
  let nums := ps.foldl (fun (l : List Nat) (p : Panel) => (l.filter (fun n => decide (n < p.num))) ++ [p.num] ++
    l.filter (fun n => decide (p.num < n))) []
  nums.flatMap (fun (n : Nat) => match s.panel n with
    | some p => bytesOf 4 p.num ++ bytesOf 1 p.x0 ++ bytesOf 1 p.y0 ++ bytesOf 1 p.w ++ bytesOf 1 p.h ++ bytesOf 1 p.state ++
        bytesOf 1 (b2n (c.killed.contains n)) ++ List.replicate 6 0
    | none => [])

/-- The live dies as a mask. -/
def State.liveMask (s : State) : Nat := (List.range 8).foldl (fun (m : Nat) (d : Nat) => m + (if s.dieLive d then 2 ^ d else 0)) 0

/-- The areas of a live die go to the second tier: its scratch as addresses see it, and its HBM stack. -/
def State.checkDie (s : State) (c : Check) (d : Nat) : State :=
  match s.segment c.seg, s.segment (c.seg + 1 + d) with
  | some (seg0, _), some (seg, _) =>
    let m := copyArea s.mem (d * 2 ^ 29) (seg0 + 2 ^ 32 + d * 2 ^ 29) (2 ^ 29) s.phys
    { s with mem := copyArea m (deviceBase + d * 2 ^ 36) seg (2 ^ 36) id }
  | _, _ => s

/-- Every area of Table 20-6, then COMMIT, then the record. -/
def State.writeCheck (s : State) (c : Check) : State :=
  match s.segment c.seg with
  | none => s
  | some (seg0, _) =>
    let es := s.checkEntries c
    let head := bytesOf 4 1 ++ bytesOf 4 c.seq ++ bytesOf 8 c.cycle ++ bytesOf 1 s.liveMask ++ bytesOf 1 0 ++ bytesOf 2 (es.length / 16)
    let s := ((List.range 8).filter s.dieLive).foldl (fun (s : State) (d : Nat) => s.checkDie c d) s
    let mem := Memory.put (Memory.put s.mem seg0 head) (seg0 + 0x1000) es
    let s := { s with mem := Memory.put mem (seg0 + 0xFF8) (bytesOf 8 (1 + c.seq * 2 ^ 32)) }
    match s.master with
    | some m => s.healthRecord m.val 10 0 0 c.seq
    | none => s

/-- A panel that the checkpoint holds, or was to hold, runs again. -/
def State.checkRelease (s : State) (n : Nat) : State :=
  match s.panel n with
  | some p => match p.collect with
    | some k =>
      if k.why ≠ .checkpoint then s
      else if k.from_ = 3 then (s.untime (.preemptTimeout n)).backToIssuer { p with waiting := [] } k.before
      else (s.untime (.preemptTimeout n)).runPanel { p with waiting := [] } p.state
    | none => if p.state = 3 ∧ p.saving.isNone then s.goBack n else s
  | none => s

/-- CHECKPOINT_COMPLETE (20 R396): with a hold timed out or a die lost, nothing is written. -/
def execCheckpointComplete (s : State) : Host.Outcome State Fault Refusal :=
  match s.checkpoint with
  | some c => event "CHECKPOINT_COMPLETE" (c.holding.isEmpty || c.failed || c.timedOut) (fun s =>
      let down := (List.range 9).any (fun (i : Nat) => match s.segment (c.seg + i) with
        | some (_, port) => !s.portServes port
        | none => true)
      let st := if c.timedOut then stPreemptTimeout else if c.failed || down then stLink else stOK
      let s := if st = stOK then s.writeCheck c else s
      let s := c.mine.foldl State.checkRelease { s with checkpoint := none }
      let s := (s.panels.map (fun (p : Panel) => p.num)).foldl State.testsDone s
      s.answer 0x15 c.rq st) s
  | none => .fault (.notEnabled "CHECKPOINT_COMPLETE")

end Sys2Proof.Machine
end

