-- ==== Sys2Proof/Machine/Launch.lean ====
section
/-!
DEFINITION. The panel monitor that the SRS installs (21_prog_migration.md R397, 22_prog_witness.md R401), loading an image (04 R95,
17 R311) and launches (03_handlers.md R60 to R62, 17_panels.md R313).
-/

namespace Sys2Proof.Machine

/-! ## The panel monitor -/

/-- The monitor's instructions: the model's own, of what R397 and R401 say it does (DESIGN CHOICE, assumption log 13). Other traps end the
activation. A wait that a `c.rep` repeats has its prefix at EPC (18 R338): it is passed by REPIDX + 1 in the record. -/
def monitorCode : List Instr := [
  .mfc 0x100 20,   -- entry
  .andi 0x2 20 21,
  .bne 106 0 21,
  .mfc 0x102 20,
  .mfc 0x104 22,
  .andi 0xff 20 23,
  .addi 0xf 0 24,
  .beq 130 24 23,
  .srli false 16 20 25,
  .beq 10 0 25,
  .addi 0xa 0 24,
  .beq 8 24 23,
  .addi 0xc 0 24,
  .beq 4 24 23,
  .endh,   -- other
  .ldhu 5 0 false 22 25,   -- async
  .srli false 8 25 25,
  .andi 0x2 25 25,
  .bne 38 0 25,
  .ldd 0 0 false 22 24,
  .ldbu 12 0 false 22 26,
  .beq 18 26 0,
  .ldhu 1 0 false 24 25,   -- repeated
  .andi 0x7f 25 25,
  .addi 0x29 0 26,
  .bne 58 26 25,
  .ldbu 13 0 false 22 25,
  .addi 0x1 25 25,
  .stb 13 0 false 22 25,
  .jal 42 0,
  .ldhu 0 0 false 24 25,
  .andi 0x7f 25 25,
  .addi 0x29 0 26,
  .bne 42 26 25,
  .addi 0x4 24 24,
  .std 0 0 false 22 24,
  .jal 28 0,
  .ldd 32 0 false 22 25,   -- entry0
  .andi 0x7f 25 25,
  .addi 0x29 0 26,
  .bne 28 26 25,
  .addi 0x100 22 24,
  .addi 0x1e0 22 27,
  .ldd 4 0 false 24 25,   -- loop
  .std 0 0 false 24 25,
  .addi 0x8 24 24,
  .bne 4090 27 24,
  .ldbu 10 0 false 22 25,
  .addi 0x7fff 25 25,
  .stb 10 0 false 22 25,
  .slli false 48 20 10,   -- fault
  .srli false 48 10 10,
  .addi 0x200 22 26,   -- put
  .std 10 0 false 26 10,
  .eret,   -- back
  .mfc 0x102 24,   -- nested
  .addi 0x2 0 25,
  .mclrb 0x100 25 20,
  .andi 0xff 24 23,
  .mfc 0x104 22,
  .addi 0x14 0 25,
  .beq 6 25 23,
  .addi 0xb 0 25,
  .bne 3998 25 23,
  .addi 0x7fff 0 10,   -- ones
  .ldd 0 0 false 22 23,   -- EPC, TCAUSE and TVAL as entry left them
  .mtc 0x105 23,
  .addi 0xf 0 23,
  .mtc 0x102 23,
  .ldd 2 0 false 22 23,
  .mtc 0x103 23,
  .jal 1048538 0,
  .mfc 0x103 23,   -- syscall
  .addi 0x200 22 26,
  .ldd 8 0 false 26 8,
  .ldd 9 0 false 26 9,
  .andi 0x1fff 8 8,
  .andi 0xff 9 9,
  .addi 0x1 0 24,
  .beq 14 24 23,
  .addi 0x2 0 24,
  .beq 14 24 23,
  .addi 0x3 0 24,
  .bne 4058 24 23,
  .resume 9 8 10,
  .jal 1048510 0,
  .quiesce true 9 8 10,   -- drain
  .jal 1048506 0,
  .quiesce false 9 8 10,   -- now
  .jal 1048502 0]

/-- Its bytes. -/
def monitorBytes : List Byte := monitorCode.flatMap encode

/-- Where it stands in a core's region (18 R344). -/
def monitorAt : Nat := 0x7A000

/-! ## Images (04 R95, 17 R311) -/

/-- ROUTINE of an image's routine on a core (03 Table 03-4). -/
def routineWord (r : RoutineRec) (c : Nat) : Word :=
  BitVec.ofNat 64 (2 ^ 63 + r.key.toNat * 2 ^ 32 + r.slotHi.val * 2 ^ 29 + r.slotLo.val * 2 ^ 26 + (c % 64 * 2 ^ 19 + r.offset % 2 ^ 19))

/-- The ROUTINE entries of an image's routines, written on a core. -/
def Core.putRoutines (k : Core) (c : Nat) (img : RoutineImage) : Core :=
  { k with routine := img.routines.foldl (fun (v : Vector Word 64) (r : RoutineRec) => v.set r.cls (routineWord r c)) k.routine }

/-- The ROUTINE entries written on every core of a panel (03 R46). -/
def State.putRoutines (s : State) (p : Panel) (img : RoutineImage) : State :=
  p.cores.foldl (fun (s : State) (c : Nat) => if s.coreDown c then s else s.setCore c ((s.core c).putRoutines c img)) s

/-- Whether an image's parts lie within 0x0_0000 to 0x6_FFFF. -/
def imageFits (img : RoutineImage) : Bool :=
  decide (img.text.length ≤ 0x70000) && decide (img.dataOff + img.data.length ≤ 0x70000) &&
    img.regions.all (fun (r : Nat × Nat) => decide (r.1 + r.2 ≤ 0x70000))

/-- An image's bytes on one core: .text, .data, the regions zeroed, the ROUTINE entries. -/
def State.putImageAt (s : State) (img : RoutineImage) (c : Nat) : State :=
  let b := regionBase c
  let s := s.putBytes none b img.text
  let s := s.putBytes none (b + img.dataOff) img.data
  let s := img.regions.foldl (fun (s : State) (r : Nat × Nat) => s.putBytes none (b + r.1) (List.replicate r.2 0)) s
  s.setCore c ((s.core c).putRoutines c img)

/-- What the SRS writes on a core at the end of loading (17 R311). -/
def State.putMonitor (s : State) (p : Panel) (c : Nat) : State :=
  let s := s.putBytes none (regionBase c + monitorAt) monitorBytes
  s.setCore c { s.core c with
    tvec := BitVec.ofNat 64 (c % 64 * 2 ^ 19 + monitorAt), ptbase := p.ptbase, asid := p.asid, panelId := BitVec.ofNat 32 p.num }

/-- Whether a core's contexts are all Dormant. -/
def Core.dormant (k : Core) : Bool := k.ctxs.toList.all (fun (x : Ctx) => x.run == .dormant)

/-- Whether a panel is IDLE (19 R373): a saved panel by the contexts and commands of its last image. -/
def State.idle (s : State) (p : Panel) : Bool :=
  if p.state = 5 then
    (s.saved.filter (fun (x : Saved) => x.committed && x.panel == p.num)).getLast?.all (fun (x : Saved) =>
      x.cores.all (fun (b : SavedCore) => b.core.dormant) && x.parked.all Cmd.ended)
  else p.cores.all (fun (c : Nat) => (s.core c).dormant) && s.cmds.all (fun m => m.panel != p.num || m.ended)

/-! ## The order of units (03 R61) -/

/-- The bits of two numbers interleaved, those of `a` at even places. -/
def interleave : Nat → Nat → Nat → Nat
  | 0, _, _ => 0
  | k + 1, a, b => a % 2 + 2 * (b % 2) + 4 * interleave k (a / 2) (b / 2)

/-- Hilbert's position in a square of side `n`, from bit `k - 1` of the coordinates down. -/
def hilbert (n : Nat) : Nat → Nat → Nat → Nat → Nat
  | 0, _, _, d => d
  | k + 1, x, y, d =>
    let s := 2 ^ k
    let rx := x / s % 2
    let ry := y / s % 2
    let d := d + s * s * Nat.xor (3 * rx) ry
    if ry = 0 then
      let x1 := if rx = 1 then n - 1 - x else x
      let y1 := if rx = 1 then n - 1 - y else y
      hilbert n k y1 x1 d
    else hilbert n k x y d

/-- The least k with 2^k at least both numbers. -/
def sideBits (a b : Nat) : Nat := ((List.range 33).find? (fun k => decide (a ≤ 2 ^ k) && decide (b ≤ 2 ^ k))).getD 32

/-- The key of a unit (03 R61). -/
def unitKey (order swz sx sy : Nat) (u : Nat × Nat × Nat) : List Nat :=
  let (x, y, z) := u
  let w := 2 ^ swz
  match order with
  | 0 => if swz = 0 then [z, y, x] else [z, x / w, y, x % w]
  | 1 => if swz = 0 then [z, x, y] else [z, y / w, x, y % w]
  | 2 => [z, interleave 32 x y]
  | _ => [z, hilbert (2 ^ sideBits sx sy) (sideBits sx sy) x y 0]

/-- Lexicographic order of keys. -/
def keyBefore : List Nat → List Nat → Bool
  | a :: as, b :: bs => decide (a < b) || (a == b && keyBefore as bs)
  | _, _ => false

/-- Inserts a unit by its key. -/
def insertUnit (f : Nat × Nat × Nat → List Nat) (u : Nat × Nat × Nat) : List (Nat × Nat × Nat) → List (Nat × Nat × Nat)
  | [] => [u]
  | v :: rest => if keyBefore (f u) (f v) then u :: v :: rest else v :: insertUnit f u rest

/-- The units of a launch in their order. -/
def unitsOf (order swz sx sy sz : Nat) : List (Nat × Nat × Nat) :=
  ((List.range sz).flatMap (fun z => (List.range sy).flatMap (fun y => (List.range sx).map (fun x => (x, y, z))))).foldr
    (insertUnit (unitKey order swz sx sy)) []

/-! ## Launches (03 R60, R62, 17 R313) -/

/-- A field of a launch parameter block. -/
def blk (b : List Byte) (off n : Nat) : Nat := numOf ((b.drop off).take n)

/-- The image a launch names. -/
def State.launchImage (s : State) (p : Panel) (b : List Byte) : Option Image :=
  s.images.find? (fun (i : Image) => i.handle == blk b 0x20 8 && i.panel == p.num)

/-- Whether a block keeps every limit of 03 Table 03-10. Its PANEL must be the request's own (DESIGN CHOICE, assumption log 87); bits
7:2 of ORDER are ignored (00 R1). -/
def State.blockOk (s : State) (p : Panel) (b : List Byte) : Bool :=
  let order := fld (blk b 4 1) 0 2
  let swz := blk b 5 1
  let ndim := blk b 9 1
  blk b 0 4 == p.num && decide (swz ≤ 15) && (decide (order < 2) || swz == 0) && decide (blk b 7 1 ≤ 47) &&
    decide (blk b 8 1 < 64) && decide (1 ≤ ndim) && decide (ndim ≤ 3) && decide (blk b 0x0A 2 ≤ 4080) && blk b 0x0C 4 == 0 &&
    blk b 0x1C 4 == 0 && blk b 0x28 24 == 0 &&
    (List.range 3).all (fun k => decide (1 ≤ blk b (0x10 + 4 * k) 4) && (decide (k < ndim) || blk b (0x10 + 4 * k) 4 == 1)) &&
    (match s.launchImage p b with
      | some i => i.img.routines.any (fun (r : RoutineRec) => r.cls.val == blk b 8 1 && decide (r.slotLo ≤ r.slotHi) && r.offset % 2 == 0)
      | none => false)

/-- The eligible cores of a launch, ascending (03 R62, 17 R313). -/
def State.launchCores (s : State) (p : Panel) (affinity : Nat) : List Nat :=
  (List.range 8192).filter (fun c => p.has c && bitOf affinity (c / 1024) && !s.coreDown c)

/-- Why a launch is rejected, if it is (03 R62). -/
def State.launchFault (s : State) (p : Panel) (b : List Byte) : Option Nat :=
  if !s.blockOk p b then some stLaunchBad
  else if p.state ≠ 2 ∧ p.state ≠ 7 then some stLaunchState
  else
    let c := (s.launchCores p (blk b 6 1)).length
    let n := blk b 0x10 4 * blk b 0x14 4 * blk b 0x18 4
    if c = 0 then some stLaunchNoDie else if (n + c - 1) / c > 64 then some stLaunchTooLarge else none

/-- The message of the unit at a position (03 R62), sent by the easel core of its core's die (17 R313). -/
def unitMsg (p : Panel) (b : List Byte) (u : Nat × Nat × Nat) (k core : Nat) : Msg :=
  let pay := bytesOf 4 u.1 ++ bytesOf 4 u.2.1 ++ bytesOf 4 u.2.2 ++ bytesOf 4 k ++ (b.drop 64).take (blk b 0x0A 2)
  { engineMsg (.easel (Fin.ofNat 8 (core / 1024)) (Fin.ofNat 4 core)) p.num core (blk b 8 1) (blk b 7 1) pay with
    cross := false, launch := some p.num }

/-- A launch that passes its checks: the ROUTINE entries again, then every message. -/
def State.sendLaunch (s : State) (p : Panel) (rq : Req) (img : Image) : State :=
  let b := rq.payload
  let s := s.putRoutines p img.img
  let us := unitsOf (fld (blk b 4 1) 0 2) (blk b 5 1) (blk b 0x10 4) (blk b 0x14 4) (blk b 0x18 4)
  let cs := s.launchCores p (blk b 6 1)
  let s := s.setPanel { p with launch := some { rq := rq, left := us.length, refused := 0 } }
  us.zipIdx.foldl (fun (s : State) (e : (Nat × Nat × Nat) × Nat) =>
    s.sendMsg (unitMsg p b e.1 e.2 (cs.getD (e.2 % cs.length) 0))) s

/-- A panel's launches are handled one at a time, in order (17 R313): the next that is not rejected starts. -/
def State.nextLaunch (s : State) (n : Nat) : List Req → State
  | [] => s
  | rq :: rest =>
    match s.panel n with
    | none => s
    | some p =>
      let p := { p with launches := rest }
      match s.launchFault p rq.payload, s.launchImage p rq.payload with
      | some st, _ => ((s.setPanel p).answer 0x04 rq st).nextLaunch n rest
      | none, some img => s.sendLaunch p rq img
      | none, none => ((s.setPanel p).answer 0x04 rq stLaunchBad).nextLaunch n rest

/-- LAUNCH_DONE (17 R313): the last message is answered; the next launch starts. -/
def execLaunchDone (panel : Nat) (s : State) : Host.Outcome State Fault Refusal :=
  match (s.panel panel).bind (fun p => p.launch.map (fun l => (p, l))) with
  | some (p, l) => event "LAUNCH_DONE" (l.left == 0) (fun s =>
      let s := s.setPanel { p with launch := none }
      let s := s.send { replyTo 0x04 l.rq stLaunchDone with arg0 := BitVec.ofNat 64 l.refused }
      s.nextLaunch panel p.launches) s
  | none => .fault (.notEnabled "LAUNCH_DONE")

end Sys2Proof.Machine
end

