-- ==== Sys2Proof/Machine/Srs.lean ====
section
/-!
DEFINITION. The requests that hosts make of the SRS over Ultra Ethernet (19_package.md R372 to R375, R405, Table 19-5), and their
connections.
-/

namespace Sys2Proof.Machine

/-! ## Connections (19 R372, R374) -/

/-- JOB_CONNECT, at the Ultra Ethernet port of a live die (01 R10): a reliable ordered connection opens, and the reports kept for its
job are sent; reliable unordered delivery carries bulk data alone; any other service is refused. -/
def execJobConnect (job : Nat) (svc : Service) (s : State) : Host.Outcome State Fault Refusal :=
  event "JOB_CONNECT" (s.portsOpen && (match svc with | .reliableOrdered port => s.dieLive port.val | _ => true)) (fun s =>
    match svc with
    | .reliableOrdered port =>
      match s.jobs.find? (fun (j : Job) => j.num == job) with
      | some j => { s with
          reports := s.reports ++ j.kept
          jobs := s.jobs.map (fun (x : Job) => if x.num = job then { x with port := port.val, open_ := true, kept := [] } else x) }
      | none => { s with jobs := s.jobs ++ [{ num := job, port := port.val, open_ := true, kept := [] }] }
    | _ => s) s

/-- CONNECTION_CLOSE: later reports are kept. -/
def execConnectionClose (job : Nat) (s : State) : Host.Outcome State Fault Refusal :=
  event "CONNECTION_CLOSE" (s.jobs.any (fun (j : Job) => j.num == job && j.open_)) (fun s =>
    { s with jobs := s.jobs.map (fun (x : Job) => if x.num = job then { x with open_ := false } else x) }) s

/-! ## What every request is checked for (19 R372, R405) -/

/-- Whether a request can arrive: on an open connection of its job. -/
def State.heard (s : State) (rq : Req) : Bool := s.portsOpen && s.jobs.any (fun (j : Job) => j.num == rq.job && j.open_ && s.dieLive j.port)

/-- Whether a request's header is well formed: STATUS and the reserved bytes 0, and LEN right. -/
def Req.sound (rq : Req) (len : Option Nat) : Bool :=
  rq.status == 0 && rq.reserved == 0 && rq.len == rq.payload.length && len.all (· == rq.len)

/-- A request that names no panel: refused with REQ_BAD where its header is not sound. -/
def request (name : String) (op : Nat) (rq : Req) (len : Option Nat) (body : State → State) (s : State) : Host.Outcome State Fault Refusal :=
  event name (s.heard rq) (fun s => if Req.sound rq len then body s else s.answer op rq stReqBad) s

/-- A request that names a panel (19 R372, R373, R405), in its turn: REQ_BAD, PANEL_BAD where there is none, NOTOWNER from another job. -/
def requestOn (name : String) (op : Nat) (rq : Req) (ok : Bool) (body : Panel → State → State) (s : State) :
    Host.Outcome State Fault Refusal :=
  event name (s.heard rq && s.bulkFree rq) (fun s =>
    if rq.status ≠ 0 ∨ rq.reserved ≠ 0 ∨ !ok then s.answer op rq stReqBad
    else match s.panel rq.panel with
      | none => s.answer op rq stPanelBad
      | some p => if p.job ≠ rq.job then s.answer op rq stNotOwner else body p s) s

/-! ## Panels (17 R303, R310, 19 R405) -/

/-- The new panel of a PANEL_CREATE, in state 1; its page tables' root stands in HBM from now on (DESIGN CHOICE, assumption log 42). -/
def newPanel (rq : Req) (num : Nat) (root : Nat) (asid : BitVec 16) : Panel :=
  let b := fun (k : Nat) => fld rq.arg0.toNat (8 * k) 8
  { onePanel with
    num := num, x0 := b 0, y0 := b 1, w := b 2, h := b 3, pfloor := b 4, state := 1, job := rq.job
    ptbase := BitVec.ofNat 64 (root + 1), asid := asid, root := root, tables := [root] }

/-- Whether a rectangle may become a panel (17 R303). -/
def State.panelFits (s : State) (p : Panel) : Bool :=
  p.x0 % 2 == 0 && p.y0 % 2 == 0 && p.w % 2 == 0 && p.h % 2 == 0 && decide (2 ≤ p.w) && decide (2 ≤ p.h) && decide (p.pfloor ≤ 47) &&
    decide (p.x0 + p.w ≤ 128) && decide (p.y0 + p.h ≤ 64) &&
    p.cores.all (fun (c : Nat) => s.dieLive (c / 1024) && !(s.cluster (c / 64)).retired) && !s.overlapped p

/-- A free place for an 8 KiB table in the last GiB of a die's stack (DESIGN CHOICE, assumption log 42). -/
def State.freeTable (s : State) (d : Nat) : Option Nat :=
  ((List.range 131072).map (fun (i : Nat) => d * 2 ^ 36 + 2 ^ 36 - 2 ^ 30 + 8192 * i)).find? (fun (t : Nat) =>
    s.panels.all (fun (p : Panel) => !p.tables.contains t))

/-- A table of zeros. -/
def State.clearTable (s : State) (t : Nat) : State := { s with mem := Memory.clear s.mem (deviceBase + t) (deviceBase + t + 8192) }

/-- A tag that no panel of the package uses (17 R311). -/
def State.freeAsid (s : State) : BitVec 16 :=
  match (List.range 65536).find? (fun (k : Nat) => s.panels.all (fun (p : Panel) => p.asid.toNat != k)) with
  | some k => BitVec.ofNat 16 k
  | none => 0

/-- The scratch of a new panel's cores reads as zero, errors with it (17 Table 17-5). -/
def State.zeroScratch (s : State) (p : Panel) : State :=
  { s with
    mem := p.cores.foldl (fun (m : List Host.Cell) (c : Nat) => Memory.clear m (regionBase c) (regionBase (c + 1))) s.mem
    poison := s.poison.filter (fun k => !(decide (k * 32 < deviceBase) && p.has (k * 32 / 2 ^ 19))) }

/-- Every core of a new panel as after a kill, with its number (17 R311). -/
def State.freshCores (s : State) (p : Panel) : State :=
  let s := p.cores.foldl (fun (s : State) (c : Nat) =>
    s.setCore c { (s.core c).killed (s.fresh + freePerCore * c) with panelId := BitVec.ofNat 32 p.num }) s
  { s with fresh := s.fresh + freePerCore * 8192, clusters := s.clusters.map (fun (e : Nat × Cluster) =>
      let c := { e.2 with words := e.2.words.filter (fun (w : Nat × VWord) => !p.has (e.1 * 64 + w.1 / 128)) }
      (e.1, if p.hasCluster e.1 then c.killed else c)) }

/-- PANEL_CREATE (17 R303, 19 R405). -/
def execPanelCreate (rq : Req) (s : State) : Host.Outcome State Fault Refusal :=
  request "PANEL_CREATE" 0x01 rq (some 0) (fun s =>
    let d := coreAt (fld rq.arg0.toNat 0 8) (fld rq.arg0.toNat 8 8) / 1024
    match s.freeTable d with
    | none => s.answer 0x01 rq stPanelBad
    | some root =>
      let p := newPanel rq s.names root s.freeAsid
      if fld rq.arg0.toNat 40 24 ≠ 0 then s.answer 0x01 rq stReqBad
      else if !s.panelFits p then s.answer 0x01 rq stPanelBad
      else
        let s := (s.zeroScratch p).freshCores p
        let s := { s.clearTable root with panels := s.panels ++ [p], names := s.names + 1 }
        (s.dropAsid p p.asid).send { replyTo 0x01 rq stOK with panel := p.num }) s

/-- PANEL_RELEASE (19 R405). -/
def execPanelRelease (rq : Req) (s : State) : Host.Outcome State Fault Refusal :=
  requestOn "PANEL_RELEASE" 0x02 rq (Req.sound rq (some 0)) (fun p s =>
    if p.state ≠ 6 then s.answer 0x02 rq stPanelBad
    else
      let t : State := { s with
        panels := s.panels.filter (fun (q : Panel) => q.num != p.num)
        images := s.images.filter (fun (i : Image) => i.panel != p.num)
        saved := s.saved.filter (fun (x : Saved) => x.committed || x.panel != p.num) }
      t.answer 0x02 rq stOK) s

/-- KILL (17 R310, 19 R405). -/
def execKill (rq : Req) (s : State) : Host.Outcome State Fault Refusal :=
  requestOn "KILL" 0x0D rq (Req.sound rq (some 0)) (fun p s =>
    (if p.state = 6 then s else s.killPanel p.num).answer 0x0D rq stOK) s

/-- IMAGE_LOAD (04 R95, 17 R311, 19 R405). An image that does not fit is refused with REQ_BAD. -/
def execImageLoad (rq : Req) (img : RoutineImage) (s : State) : Host.Outcome State Fault Refusal :=
  requestOn "IMAGE_LOAD" 0x03 rq (rq.len == rq.payload.length) (fun p s =>
    if p.state = 3 ∨ p.state = 4 ∨ p.state = 5 ∨ p.state = 6 then s.answer 0x03 rq stPanelBad
    else if p.state ≠ 1 ∧ !s.idle p then s.answer 0x03 rq stBusy
    else if !imageFits img then s.answer 0x03 rq stReqBad
    else
      let up := p.cores.filter (fun (c : Nat) => !s.coreDown c)
      let h := s.names
      let s := up.foldl (fun (s : State) (c : Nat) => s.putImageAt img c) s
      let s := if p.state = 1 then up.foldl (fun (s : State) (c : Nat) => s.putMonitor p c) s else s
      let q := { p with image := some h, state := if p.state = 1 then 2 else p.state }
      let i : Image := { handle := h, panel := p.num, img := img }
      let s : State := { s.setPanel q with images := s.images ++ [i], names := h + 1 }
      s.send { replyTo 0x03 rq stOK with arg0 := BitVec.ofNat 64 h }) s

/-- LAUNCH (03 R60 to R62, 17 R313): LEN is 64 + PLEN, and the panel's launches are handled in order. -/
def execLaunch (rq : Req) (s : State) : Host.Outcome State Fault Refusal :=
  requestOn "LAUNCH" 0x04 rq (Req.sound rq none && decide (64 ≤ rq.len) && rq.len == 64 + blk rq.payload 0x0A 2) (fun p s =>
    if p.launch.isSome then s.setPanel { p with launches := p.launches ++ [rq] } else s.nextLaunch p.num [rq]) s

/-- STATE (19 R373). -/
def execState (rq : Req) (s : State) : Host.Outcome State Fault Refusal :=
  requestOn "STATE" 0x12 rq (Req.sound rq (some 0)) (fun p s =>
    s.send { replyTo 0x12 rq stOK with arg0 := BitVec.ofNat 64 p.state, arg1 := BitVec.ofNat 64 (b2n (s.idle p)) }) s

/-! ## READ and WRITE (19 R373) -/

/-- Where the bytes of a READ or WRITE lie, or why it is refused. Bits of ARG0 and ARG1 that Table 19-5 does not name are refused with
REQ_BAD (DESIGN CHOICE, assumption log 76); scratch of a core whose cluster is retired or whose die is lost is not read, a FENCED panel's
either (17 R307, R310; DESIGN CHOICE, assumption log 55). -/
def State.hostKeys (s : State) (p : Panel) (rq : Req) (write : Bool) : Except Nat (List Nat) :=
  let a := rq.arg0.toNat
  let space := rq.arg1.toNat
  if rq.len % 32 ≠ 0 ∨ 2 < space then .error stReqBad
  else if space = 0 then
    let c := fld a 32 13
    if a / 2 ^ 45 ≠ 0 ∨ fld a 19 13 ≠ 0 then .error stReqBad
    else if !p.has c ∨ 2 ^ 19 < a % 2 ^ 19 + rq.len then .error stRange
    else if s.coreDown c then .error stPanelDown
    else if p.state = 6 then (if write then .error stPanelDown else .ok (run (regionBase c + a % 2 ^ 19) rq.len))
    else if !p.resident then .error stPanelDown
    else .ok (run (regionBase c + a % 2 ^ 19) rq.len)
  else (run a rq.len).mapM (fun (va : Nat) =>
    match s.walk p.ptbase p.asid va write with
    | .error _ => .error stRange
    | .ok t => match s.served (t.phys va) with
      | none => .error stRange
      | some (key, e) => if (s.unreachable e).isSome then .error stLink else .ok key)

/-- A byte as a READ sees it; one with an uncorrectable error has no stated value (DESIGN CHOICE, assumption log 3). -/
def State.hostByte (s : State) (key : Nat) : Byte :=
  let k := if key < deviceBase then s.phys key else key
  if s.poisoned k then Config.freeByte (s.fresh + key) else Memory.get s.mem k

/-- Bytes written for a host: scratch as any other agent writes it (08 R176). -/
def State.hostPut (s : State) (ks : List Nat) (bs : List Byte) : State :=
  match ks with
  | [] => s
  | k :: _ => if k < deviceBase then s.putBytes none k bs
      else { s with mem := (ks.zip bs).foldl (fun (m : List Host.Cell) (e : Nat × Byte) => Memory.set m e.1 e.2) s.mem }

/-- A READ or WRITE goes on (19 R373): the next 32-byte access is due, or every byte is done and the reply is sent. -/
def State.bulkNext (s : State) (p : Panel) (b : Bulk) : State :=
  if 32 * b.made < b.rq.len then
    { s.setPanel { p with bulk := some b } with agenda := s.agenda ++ [Due.bulkAccess p.num] }
  else (s.setPanel { p with bulk := none }).send { replyTo (if b.write then 0x06 else 0x05) b.rq stOK with payload := b.got }

/-- A READ or WRITE that is taken: what it names must be there, and its accesses follow one by one. -/
def State.startBulk (s : State) (p : Panel) (rq : Req) (write : Bool) : State :=
  match s.hostKeys p rq write with
  | .error st => s.answer (if write then 0x06 else 0x05) rq st
  | .ok _ => s.bulkNext p { rq := rq, write := write }

/-- One 32-byte access of a READ or WRITE, single-copy atomic (02 R26), to where it lies now. -/
def State.bulkStep (s : State) (p : Panel) (b : Bulk) : State :=
  match s.hostKeys p { b.rq with arg0 := b.rq.arg0 + BitVec.ofNat 64 (32 * b.made), len := 32 } b.write with
  | .error st => (s.setPanel { p with bulk := none }).answer (if b.write then 0x06 else 0x05) b.rq st
  | .ok ks =>
    if b.write then (s.hostPut ks ((b.rq.payload.drop (32 * b.made)).take 32)).bulkNext p { b with made := b.made + 1 }
    else State.bulkNext { s with fresh := s.fresh + 1 } p { b with made := b.made + 1, got := b.got ++ ks.map s.hostByte }

/-- The next access of a panel's READ or WRITE. -/
def bulkAccess (n : Nat) (s : State) : Host.Outcome State Fault Refusal :=
  match (s.panel n).bind (fun (p : Panel) => p.bulk.map (fun (b : Bulk) => (p, b))) with
  | some (p, b) => .next (s.bulkStep p b)
  | none => .fault (.notEnabled "READ")

/-- READ. -/
def execRead (rq : Req) (s : State) : Host.Outcome State Fault Refusal :=
  requestOn "READ" 0x05 rq true (fun p s => s.startBulk p rq false) s

/-- WRITE. -/
def execWrite (rq : Req) (s : State) : Host.Outcome State Fault Refusal :=
  requestOn "WRITE" 0x06 rq (Req.sound rq none) (fun p s => s.startBulk p rq true) s

/-! ## Holding, swapping, saving (17 R318, R320, 18 R344 to R348) -/

/-- Whether a request would overlap what is in progress on a panel (19 Table 19-6, BUSY): a checkpoint holds every resident panel until
its areas are written (20 R396). -/
def State.engaged (s : State) (p : Panel) : Bool :=
  p.collect.isSome || p.saving.isSome || (s.checkpoint.isSome && p.state == 3)

/-- HOLD: a second request is answered with the outcome of the first (17 Table 17-8). -/
def execHold (rq : Req) (s : State) : Host.Outcome State Fault Refusal :=
  requestOn "HOLD" 0x07 rq (Req.sound rq (some 0)) (fun p s =>
    if p.collect.isSome then s.setPanel { p with waiting := p.waiting ++ [rq] }
    else if p.state = 2 ∨ p.state = 7 then s.startCollect p (.host rq)
    else if p.state = 3 then
      let s := s.setPanel { p with testHold := false, hostHeld := true }
      let s := { s with checkpoint := s.checkpoint.map (fun (c : Check) => { c with mine := c.mine.filter (· != p.num) }) }
      s.answer 0x07 rq stOK
    else s.answer 0x07 rq stPanelBad) s

/-- RESUME. -/
def execResumeRequest (rq : Req) (s : State) : Host.Outcome State Fault Refusal :=
  requestOn "RESUME_REQUEST" 0x08 rq (Req.sound rq (some 0)) (fun p s =>
    if p.state ≠ 3 then s.answer 0x08 rq stPanelBad
    else if s.engaged p then s.answer 0x08 rq stBusy
    else (s.resumePanel p.num).answer 0x08 rq stOK) s

/-- SWAP_OUT. -/
def execSwapOut (rq : Req) (s : State) : Host.Outcome State Fault Refusal :=
  requestOn "SWAP_OUT" 0x09 rq (Req.sound rq (some 0)) (fun p s =>
    if p.state ≠ 3 then s.answer 0x09 rq stPanelBad
    else if s.engaged p then s.answer 0x09 rq stBusy
    else (s.swapOut { p with testHold := false }).answer 0x09 rq stOK) s

/-- SWAP_IN. -/
def execSwapIn (rq : Req) (s : State) : Host.Outcome State Fault Refusal :=
  requestOn "SWAP_IN" 0x0A rq (Req.sound rq (some 0)) (fun p s =>
    if p.state ≠ 4 then s.answer 0x0A rq stPanelBad
    else if s.engaged p then s.answer 0x0A rq stBusy
    else (s.swapIn { p with hostHeld := true }).answer 0x0A rq stOK) s

/-- SAVE: the host's save runs the same engine (18 R347); a descriptor past its limits is refused with REQ_BAD. -/
def execSave (rq : Req) (s : State) : Host.Outcome State Fault Refusal :=
  requestOn "SAVE" 0x0B rq (Req.sound rq (some 64)) (fun p s =>
    let b := BitVec.ofNat 512 (numOf rq.payload)
    if !saveDescOk b then s.answer 0x0B rq stReqBad
    else if p.state ≠ 3 ∧ p.state ≠ 4 then s.answer 0x0B rq stPanelBad
    else if s.engaged p then s.answer 0x0B rq stBusy
    else (s.setPanel { p with saving := some (s.savingOf b false p.cursor none 0 (some rq)), testHold := false }).saveEngine p.num) s

/-- RESTORE of a saved panel (18 R348, 17 R304). -/
def execRestore (rq : Req) (s : State) : Host.Outcome State Fault Refusal :=
  requestOn "RESTORE" 0x0C rq (Req.sound rq (some 64)) (fun p s =>
    let b := BitVec.ofNat 512 (numOf rq.payload)
    if !saveDescOk b then s.answer 0x0C rq stReqBad
    else if p.state ≠ 5 then s.answer 0x0C rq stPanelBad
    else if s.engaged p then s.answer 0x0C rq stBusy
    else if s.overlapped p then s.answer 0x0C rq stPanelBad
    else match s.readVa (coreAt p.x0 p.y0) p.ptbase p.asid (rec64 b 0 8) 0x1000 with
      | .error _ => s.answer 0x0C rq stRange
      | .ok (h, s) =>
        if (s.shapeFault p h).isSome then s.answer 0x0C rq stRestoreFailed
        else { s.setPanel { p with saving := some (s.savingOf b true 0 none 0 (some rq)) } with
          agenda := s.agenda ++ [Due.restoreComplete p.num] }) s

/-! ## Groups (12 R259) -/

/-- The group of a GROUP_CREATE's payload, at the address in ARG0, under the tables of the named panel (DESIGN CHOICE, assumption log 43). -/
def groupOf (rq : Req) (num : Nat) (p : Panel) : Group :=
  let b := rq.payload
  { num := num, desc := rq.arg0.toNat, job := rq.job, ptbase := p.ptbase, asid := p.asid, slices := blk b 0x08 2
    slice := (List.range (blk b 0x08 2)).map (fun (i : Nat) =>
      let w := blk b (0x240 + 2 * i) 2
      (w % 4096, bitOf w 15))
    view := blk b 0x04 3
    live := (List.range 4096).filter (fun (m : Nat) => bitOf (blk b (0x40 + m / 8) 1) (m % 8))
    commitSeq := blk b 0x10 4, joins := [], ops := [], joinsHeard := [], away := [], hold := none, stuckAt := none, told := false }

/-- Whether the payload is a view descriptor (12 Table 12-1); its reserved bytes must be 0 (19 Table 19-6; DESIGN CHOICE, assumption
log 77), and reserved bits of a SLICE entry are ignored (00 R1). -/
def groupOk (rq : Req) (g : Group) : Bool :=
  let b := rq.payload
  decide (1 ≤ g.slices) && decide (g.slices ≤ 4096) && rq.len == 0x240 + 2 * g.slices && blk b 0x07 1 == 0 && !g.live.isEmpty &&
    blk b 0x0A 2 == g.live.length && blk b 0x0C 2 == leaderOf g.live && blk b 0x0E 2 == 0 && blk b 0x14 44 == 0 &&
    g.desc % 1024 == 0

/-- When a die last heard members, those of other packages that it has never heard counted from now (20 R386). -/
def State.heardFrom (s : State) (d : Nat) (ms : List Nat) : List (Nat × Nat) :=
  (ms.filter (fun (m : Nat) => s.farMember m && (s.die d).heard.all (fun (e : Nat × Nat) => e.1 != m))).foldl
    (fun (l : List (Nat × Nat)) (m : Nat) => SMap.set l m s.cycle) (s.die d).heard

/-- The CLEs of the package's dies that a group names take note of it. -/
def State.enrol (s : State) (g : Group) : State :=
  (List.range 8).foldl (fun (s : State) (d : Nat) =>
    if s.dieLive d && (g.live.contains (s.member d) || g.slice.any (fun (e : Nat × Bool) => e.1 == s.member d)) then
      s.setDie d { s.die d with
        heard := s.heardFrom d g.live
        members := (s.die d).members.filter (fun (x : Member) => x.grp != g.num) ++
          [{ grp := g.num, view := g.view, live := g.live, bound := none, proposing := none }] }
    else s) s

/-- GROUP_CREATE: the number assigned is the reply's ARG0. -/
def execGroupCreate (rq : Req) (s : State) : Host.Outcome State Fault Refusal :=
  requestOn "GROUP_CREATE" 0x0E rq (Req.sound rq none) (fun p s =>
    let g := groupOf rq s.names p
    if !groupOk rq g then s.answer 0x0E rq stReqBad
    else if g.bytes.zipIdx.any (fun (e : Byte × Nat) => match s.walk p.ptbase p.asid (g.desc + e.2) false with
        | .ok _ => false
        | .error _ => true) then s.answer 0x0E rq stRange
    else
      let s := { s with groups := s.groups ++ [g], names := s.names + 1 }
      ((s.writeDesc g 0 g.bytes.length).enrol g).send { replyTo 0x0E rq stOK with arg0 := BitVec.ofNat 64 g.num }) s

/-! ## Tables of the package (11 R251, 19 R364, R376) -/

/-- SPT_LOAD: pattern ARG0[5:0] of die ARG0[10:8] (DESIGN CHOICE, assumption log 44). -/
def execSptLoad (rq : Req) (s : State) : Host.Outcome State Fault Refusal :=
  request "SPT_LOAD" 0x0F rq (some 256) (fun s =>
    let a := rq.arg0.toNat
    let d := fld a 8 3
    if fld a 6 2 ≠ 0 ∨ a / 2 ^ 11 ≠ 0 then s.answer 0x0F rq stReqBad
    else if !s.dieLive d then s.answer 0x0F rq stLink
    else (s.setDie d { s.die d with spt := SMap.set (s.die d).spt (fld a 0 6) (BitVec.ofNat 2048 (numOf rq.payload)) }).answer 0x0F rq stOK) s

/-- TIER_MAP (19 R376). Bits of ARG0 and ARG1 that it does not name are refused with REQ_BAD (DESIGN CHOICE, assumption log 76). -/
def execTierMap (rq : Req) (s : State) : Host.Outcome State Fault Refusal :=
  request "TIER_MAP" 0x10 rq (some 0) (fun s =>
    let a := rq.arg0.toNat
    let b := rq.arg1.toNat
    if a / 16 ≠ 0 ∨ b / 2 ^ 48 ≠ 0 ∨ fld b 3 33 ≠ 0 then s.answer 0x10 rq stReqBad
    else State.answer { s with tiers := SMap.set s.tiers a (fld b 0 3, fld b 36 12) } 0x10 rq stOK) s

/-- CIRCUIT: the SRS writes the entry (19 R364, R365). -/
def execCircuit (rq : Req) (s : State) : Host.Outcome State Fault Refusal :=
  request "CIRCUIT" 0x11 rq (some 16) (fun s =>
    let e := BitVec.ofNat 128 (numOf rq.payload)
    let i := rq.arg0.toNat
    if 256 ≤ i then s.answer 0x11 rq stRange
    else if !circuitOk e then s.answer 0x11 rq stReqBad
    else (s.setCircuit (Fin.ofNat 256 i) e).answer 0x11 rq stOK) s

/-! ## Health and attestation (20 R392, 19 R371) -/

/-- A die's state in its identity record (20 R392). -/
def stageCode : DieStage → Nat
  | .live => 0
  | .absent => 1
  | .lost => 2
  | _ => 3

/-- The least end-of-life figure of a die's monitors. -/
def State.leastLife (s : State) (d : Nat) : Nat :=
  let cl := ((s.clusters.filter (fun (e : Nat × Cluster) => e.1 / 16 == d)).map (fun (e : Nat × Cluster) => e.2.endOfLife))
  let ln := ((s.links.filter (fun (e : LinkId × Link) => objDie (.link e.1) == some d)).map (fun (e : LinkId × Link) => e.2.endOfLife))
  (cl ++ ln).foldl min (s.die d).stackEol

/-- The identity record of a die (20 R392): 64 bytes, its fields in the order named there (DESIGN CHOICE, assumption log 45). -/
def State.identity (s : State) (d : Nat) : List Byte :=
  let retired := (List.range 16).foldl (fun (m : Nat) (k : Nat) => m + (if (s.cluster (d * 16 + k)).retired then 2 ^ k else 0)) 0
  bytesOf 2 s.pkgid.toNat ++ bytesOf 8 (Config.uid (Fin.ofNat 8 d)).toNat ++ bytesOf 3 (Config.spareSites (Fin.ofNat 8 d)).toNat ++
    bytesOf 2 retired ++ bytesOf 1 (stageCode (s.die d).stage) ++ bytesOf 4 (Config.secVersion (Fin.ofNat 8 d)).toNat ++
    bytesOf 2 (s.leastLife d) ++ List.replicate 42 0

/-- A score and its test-due bit. -/
def Score.bytes (x : Score) : List Byte := bytesOf 2 x.value.toNat ++ bytesOf 1 (b2n x.due)

/-- The link directions of a die, or of the photonic die as source 8 (20 R380). -/
def linksAt (d : Nat) : List LinkId :=
  if d = 8 then (List.finRange 16).flatMap (fun (f : Fin 16) => [LinkId.fibre f true, LinkId.fibre f false])
  else ((List.finRange 8).filter (fun (e : Fin 8) => adjacent d e.val)).map (fun (e : Fin 8) => LinkId.ucie (Fin.ofNat 8 d) e) ++
    [.threeD (Fin.ofNat 8 d) true, .threeD (Fin.ofNat 8 d) false]

/-- Every score of a die (20 R392), or of the photonic die as source 8: its cores with their banks, then its link directions with
their numbers. -/
def State.scores (s : State) (d : Nat) : List Byte :=
  (if d = 8 then [] else (run (d * 1024) 1024).flatMap (fun (c : Nat) =>
      (s.core c).score.bytes ++ (s.core c).banks.toList.flatMap Score.bytes)) ++
    (linksAt d).flatMap (fun (l : LinkId) => bytesOf 2 (linkNo l) ++ (s.link l).score.bytes)

/-- A record's 32 bytes (20 Table 20-4). -/
def HealthRec.bytes (r : HealthRec) : List Byte :=
  bytesOf 4 r.seq ++ bytesOf 2 r.source ++ bytesOf 1 r.kind ++ bytesOf 1 0 ++ bytesOf 8 r.time ++ bytesOf 4 r.object ++
    bytesOf 2 r.score ++ bytesOf 2 0 ++ bytesOf 8 r.detail

/-- The ageing figures (20 R393): of clusters, stacks and links. -/
def State.ageing (s : State) : List Byte :=
  (List.range 128).flatMap (fun (c : Nat) => bytesOf 2 (s.cluster c).endOfLife) ++
    (List.range 8).flatMap (fun (d : Nat) => bytesOf 2 (s.die d).stackEol) ++
    ((List.range 9).flatMap linksAt).flatMap (fun (l : LinkId) => bytesOf 2 (linkNo l) ++ bytesOf 2 (s.link l).endOfLife)

/-- HEALTH (20 R392). -/
def execHealth (rq : Req) (s : State) : Host.Outcome State Fault Refusal :=
  request "HEALTH" 0x13 rq (some 0) (fun s =>
    let a := rq.arg0.toNat
    let src := fld a 8 4
    let answer := fun (bs : List Byte) => s.send { replyTo 0x13 rq stOK with payload := bs }
    match fld a 0 8 with
    | 0 => answer ((List.range 8).flatMap s.identity)
    | 1 => if 8 < src then s.answer 0x13 rq stRange else answer (s.scores src)
    | 2 =>
      if 8 < src then s.answer 0x13 rq stRange
      else
        let rs := if src = 8 then s.photonic else (s.die src).records
        answer ((rs.filter (fun (r : HealthRec) => decide (rq.arg1.toNat ≤ r.seq))).flatMap HealthRec.bytes)
    | 3 => answer s.ageing
    | _ => s.answer 0x13 rq stReqBad) s

/-- ATTEST (19 R367, R371): the report over the nonce, the package id and what it names with the master's public key, and the
signature under the key pair of the master's identity seed. -/
def execAttest (rq : Req) (s : State) : Host.Outcome State Fault Refusal :=
  request "ATTEST" 0x14 rq (some 32) (fun s =>
    let seed := Config.identitySeed (s.master.getD 0)
    let body := rq.payload ++ bytesOf 2 s.pkgid.toNat ++ ((List.range 8).filter s.dieLive).flatMap (fun (d : Nat) =>
      bytesOf 8 (Config.uid (Fin.ofNat 8 d)).toNat ++ (s.die d).measure ++ bytesOf 3 (Config.spareSites (Fin.ofNat 8 d)).toNat) ++
      Config.slhPublic seed
    s.send { replyTo 0x14 rq stOK with payload := body ++ Config.slhSign seed body }) s

/-! ## CHECKPOINT and REPORT (20 R395, R396, 19 R374) -/

/-- CHECKPOINT: nine mapped segments from ARG0[3:0]; every panel that can be held is held, and what is being held is waited for. -/
def execCheckpoint (rq : Req) (s : State) : Host.Outcome State Fault Refusal :=
  request "CHECKPOINT" 0x15 rq (some 0) (fun s =>
    let seg := fld rq.arg0.toNat 0 4
    if 8 ≤ seg ∨ (List.range 9).any (fun (i : Nat) => (s.segment (seg + i)).isNone) then s.answer 0x15 rq stRange
    else if s.checkpoint.isSome then s.answer 0x15 rq stBusy
    else
      let mine := (s.panels.filter Panel.holdable).map (fun (p : Panel) => p.num)
      let held := (s.panels.filter (fun (p : Panel) => p.holdable || p.collect.isSome)).map (fun (p : Panel) => p.num)
      let s := { s with
        checkpoint := some { rq := rq, seg := seg, seq := s.checkSeq, cycle := s.cycle, holding := held, mine := mine, killed := []
                             timedOut := false, failed := false }
        checkSeq := s.checkSeq + 1
        agenda := s.agenda ++ (if held = [] then [Due.checkpointComplete] else []) }
      mine.foldl (fun (s : State) (n : Nat) => match s.panel n with
        | some p => s.startCollect p .checkpoint
        | none => s) s) s

/-- REPORT: sent by the SRS only; a request with this OP, or with one that no row has, is refused (19 Table 19-5, Table 19-6; DESIGN
CHOICE, assumption log 78). -/
def execReport (rq : Req) (s : State) : Host.Outcome State Fault Refusal :=
  event "REPORT" (s.heard rq) (fun s => s.answer (if 1 ≤ rq.op ∧ rq.op ≤ 0x17 then 0x16 else rq.op) rq stReqBad) s

/-! ## MAP (19 R375) -/

/-- Whether a page is mapped under a table (18 R351); `left` levels remain below it. -/
def State.anyMapped (s : State) : Nat → Nat → Bool
  | 0, _ => false
  | left + 1, t => (List.range 1024).any (fun (i : Nat) =>
      let e := pteOf (Memory.read s.mem (deviceBase + t + 8 * i) 8)
      e.valid && (e.leaf || s.anyMapped left e.pa))

/-- Writes a page-table entry. -/
def State.putPte (s : State) (t i v : Nat) : State := { s with mem := Memory.write s.mem (deviceBase + t + 8 * i) 8 v }

/-- Puts a leaf (0 unmaps) for an address at the level of its size, building the tables above it (19 R375): from level `l` on,
`down` levels above the leaf's. Answers the status and the tables made. -/
def State.putLeaf (s : State) (d va leaf : Nat) (p : Panel) : Nat → Nat → Nat → Except Nat (State × Panel)
  | 0, l, t =>
    let i := va / 2 ^ (45 - 10 * l) % 1024
    let e := pteOf (Memory.read s.mem (deviceBase + t + 8 * i) 8)
    if e.valid && !e.leaf && s.anyMapped 3 e.pa then .error stReqBad else .ok (s.putPte t i leaf, p)
  | down + 1, l, t =>
    let i := va / 2 ^ (45 - 10 * l) % 1024
    let e := pteOf (Memory.read s.mem (deviceBase + t + 8 * i) 8)
    if e.valid then (if e.leaf then .error stReqBad else s.putLeaf d va leaf p down (l + 1) e.pa)
    else if leaf = 0 then .ok (s, p)
    else match s.freeTable d with
      | none => .error stRange
      | some n =>
        let q := { p with tables := p.tables ++ [n] }
        (((s.clearTable n).putPte t i (n + 1)).setPanel q).putLeaf d va leaf q down (l + 1) n

/-- The reply to a MAP, once no access goes through the old translation (18 R354). -/
def State.mapReply (s : State) (rq : Req) : State := s.answer 0x17 rq stOK

/-- MAP. -/
def execMap (rq : Req) (s : State) : Host.Outcome State Fault Refusal :=
  requestOn "MAP" 0x17 rq (Req.sound rq (some 0)) (fun p s =>
    let va := rq.arg0.toNat
    let b := rq.arg1.toNat
    let code := fld b 4 2
    let pa := fld b 13 34 * 2 ^ 13
    let size := 2 ^ (15 + 10 * code)
    if fld b 0 2 ≠ 0 ∨ fld b 6 7 ≠ 0 ∨ b / 2 ^ 47 ≠ 0 then s.answer 0x17 rq stReqBad
    else if 2 ^ 55 ≤ va ∨ code = 3 ∨ va % size ≠ 0 ∨ pa % size ≠ 0 ∨ malformed pa then s.answer 0x17 rq stRange
    else
      let leaf := if fld b 2 2 = 0 then 0 else pa + 4 * fld b 2 2 + 3
      match s.putLeaf (coreAt p.x0 p.y0 / 1024) va leaf p (3 - code) 0 p.root with
      | .error st => s.answer 0x17 rq st
      | .ok (s, q) =>
        let s := (s.setPanel q).dropTlb q (some va) (some q.asid.toNat)
        { s with agenda := s.agenda ++ [Due.mapDone va rq] }) s

end Sys2Proof.Machine
end

