-- ==== Sys2Proof/Machine/Fabric.lean ====
section
/-!
DEFINITION. Packets, links, circuits and the fabric (19_package.md R356 to R367, R376).
-/

namespace Sys2Proof.Machine

/-! ## Flits (19 R356 to R361) -/

/-- Flit indices three by three, as UCIe flits carry them (19 R360). -/
def triples : Nat → List Nat → List (List Nat)
  | 0, _ => []
  | _ + 1, [] => []
  | n + 1, fs => fs.take 3 :: triples n (fs.drop 3)

/-- UCIe flits of a packet's attempt enter a link's retry buffer (19 R361), to be received in turn. -/
def State.shipOn (s : State) (pk attempt : Nat) (l : LinkId) : List (List Nat) → State
  | [] => s
  | fs :: rest =>
    let x := s.link l
    let s := s.setLink l { x with
      retry := x.retry ++ [{ lseq := x.send, pk := pk, attempt := attempt, flits := fs }], send := x.send + 1 }
    State.shipOn { s with agenda := s.agenda ++ [Due.ucieFlitReceive l x.send] } pk attempt l rest

/-- A packet by number. -/
def State.packet (s : State) (id : Nat) : Option Packet := s.packets.find? (fun (p : Packet) => p.id == id)

/-- Replaces a packet. -/
def State.setPacket (s : State) (p : Packet) : State :=
  { s with packets := s.packets.map (fun (q : Packet) => if q.id = p.id then p else q) }

/-- What comes of a packet's flits at the end of their path: those that the endpoint lacks are ejected there; a packet that goes from
fibre to fibre is forgotten (19 R366). -/
def State.arrivals (s : State) (p : Packet) : List Due :=
  if p.fabric.isNone then
    (((List.range p.flits).filter (fun (f : Nat) => !p.held.contains f)).map (fun (f : Nat) => Due.flitEject p.id f)).filter (fun (d : Due) =>
      !s.agenda.contains d)
  else if 2 ^ 14 ≤ p.src then [Due.transitDone p.id]
  else []

/-- A packet's flits set out on a path, beside those of an earlier attempt that are still on their way. -/
def State.shipPacket (s : State) (p : Packet) (path : Nat) : State :=
  let p := { p with injected := true, path := path, route := s.linksOf p path, attempts := p.attempts + 1, sentAt := s.cycle }
  let s := p.route.foldl (fun (s : State) (l : LinkId) => s.shipOn p.id p.attempts l (triples p.flits (List.range p.flits))) (s.setPacket p)
  let s := { s with agenda := s.agenda ++ s.arrivals p }
  if 2 ^ 14 ≤ p.src then s
  else { s.untime (.e2eResendTimeout p.id) with
    timers := (s.untime (.e2eResendTimeout p.id)).timers ++ [(s.cycle + resendAfter, Due.e2eResendTimeout p.id)] }

/-! ## Delivery (19 R358) -/

/-- A message reaches its engine's inbox, unless its panel is gone by then (03 R59, 17 R310). -/
def State.takeOrder (s : State) (m : Msg) (e : Engine) : State :=
  if (s.panel m.panel).all (fun (p : Panel) => p.state == 6) then s
  else match e with
    | .easel d k =>
      let x := s.die d.val
      { s.setDie d.val { x with easelBox := x.easelBox.set k (x.easelBox[k] ++ [m]) } with agenda := s.agenda ++ [Due.engineCommandStart e] }
    | _ =>
      let c : Cmd := {
        id := s.names, kind := .send (hdrKind m.h0), engine := e, core := m.src, slot := Fin.ofNat 8 (m.srcSlot.getD 0), panel := m.panel
        activation := 0, tval := m.h0, values := m.payload.map BitVec.toNat, srcRead := true }
      { s with cmds := s.cmds ++ [c], names := s.names + 1 }.enterBox e s.names

/-- The results of an operation land at a member, unless its command has ended (12 R268), or is parked: then when it goes on (17 R319). -/
def State.takeResult (s : State) (id : Nat) : State :=
  match s.cmd id with
  | some m => (match m.outcome with
    | some (codes, wits, flags, rw) => if m.ended ∨ m.state = .parked then s else s.landColl m { codes := codes, wits := wits } flags rw
    | none => s)
  | none => s

/-- What a delivered packet brings: a message is offered to the core or enters its engine's inbox, sectors are written in turn, a partial
reaches the CLE, results reach a member; an engine's write from another package goes to the back range of the open entry at its address,
if the core still serves the panel (11 R254, 17 R307; DESIGN CHOICE, assumption log 46). -/
def State.bring (s : State) (p : Packet) : State :=
  match p.body with
  | .order m e => s.takeOrder m e
  | .result c last => if last then s.takeResult c else s
  | .message m =>
    let k := s.core p.dst
    { s.setCore p.dst { k with offers := k.offers ++ [m] } with agenda := s.agenda ++ [Due.messageAdmit (Fin.ofNat 8192 p.dst)] }
  | .sectors c ns => { s with agenda := s.agenda ++ ns.map (Due.sectorWrite c) }
  | .loose n secs => s.landLoose n secs
  | .leaf _ g part => { s with agenda := s.agenda ++ part.toList.map (Due.clePartialReceive (some (Fin.ofNat 8 (p.dst / 1024))) g) }
  | .write n =>
    let bs := p.data.drop 4
    if s.serves p.dst n then
      match (s.cluster (p.dst / 64)).backOf (numOf (p.data.take 4) % 2 ^ 25) bs.length with
      | some (_, b) => s.putBytes none (p.dst / 64 * 2 ^ 25 + b) bs
      | none => s
    else s

/-- A packet from another package is acknowledged over the fabric (19 R362, R366). -/
def State.ackFar (s : State) (p : Packet) : State := { s with abroad := s.abroad ++ [(p.src / 2 ^ 14 - 1, .ack (p.src % 2 ^ 14) p.dst p.psn)] }

/-- A packet is delivered and acknowledged (19 R358, R362); one from another package over the fabric, and its PSN is behind its pair from
now on. -/
def State.deliver (s : State) (p : Packet) : State :=
  if 2 ^ 14 ≤ p.src then
    State.bring (State.ackFar { s with
      packets := s.packets.filter (fun (q : Packet) => q.id != p.id)
      rxPsns := SMap.set s.rxPsns (pairKey p.src p.dst none) (p.psn + 1) } p) p
  else
    let s := (s.setPacket { p with delivered := true }).bring p
    { s with agenda := s.agenda ++ [Due.e2eAckReceive p.id] }

/-- The packets of a pair are delivered in PSN order, up to the first that is not complete (19 R358). -/
def State.deliverList (s : State) : List Packet → State
  | [] => s
  | p :: rest =>
    if p.delivered then s.deliverList rest
    else if p.held.length = p.flits ∧ (p.src < 2 ^ 14 ∨ p.psn = SMap.get s.rxPsns 0 (pairKey p.src p.dst none)) then
      (s.deliver p).deliverList rest
    else s

/-- A packet put into a list in the order of PSN from an expected one on. -/
def insertPsn (e : BitVec 16) (p : Packet) : List Packet → List Packet
  | [] => [p]
  | q :: rest => if (p.psn - e).toNat < (q.psn - e).toNat then p :: q :: rest else q :: insertPsn e p rest

/-- The packets of a pair at their endpoint, in PSN order. -/
def State.pairOf (s : State) (src dst : Nat) : List Packet :=
  let ps := s.packets.filter (fun (q : Packet) => q.src == src && q.dst == dst && q.fabric.isNone)
  if src < 2 ^ 14 then ps
  else ps.foldl (fun (l : List Packet) (p : Packet) => insertPsn (SMap.get s.rxPsns 0 (pairKey src dst none)) p l) []

/-! ## Packets that are given up (19 R362) -/

/-- Whether a partial still has to reach the die that a packet goes to. -/
def State.partialWanted (s : State) (p : Packet) (m : Cmd) : Bool :=
  !m.ended && (match s.group_ m.grp with
    | some g => leaderOf g.live == ((p.fabric.map (·.1)).getD s.pkgid.toNat) * 8 + p.dst / 1024 &&
        (g.op m.opseq).all (fun o => !o.arrived.contains m.slice)
    | none => false)

/-- A message whose sender has given it up, as the core that holds it back keeps it: nobody waits for its answer. -/
def Msg.forgotten (m : Msg) : Msg := { m with srcSlot := none, launch := none, cmd := none, back := none }

/-- A message whose packet is given up is refused (19 R362, 03 R53), unless its answer has come (DESIGN CHOICE, assumption log 67). -/
def State.giveUpMsg (s : State) (p : Packet) (m : Msg) : State :=
  let answer := fun (s : State) => match m.cmd.bind s.cmd with
    | some c => if c.ended then s else s.abandon c 0x13
    | none => s.refused m 3
  let k := s.core p.dst
  if !p.delivered then answer s
  else if k.offers.contains m then
    answer (s.setCore p.dst { k with offers := k.offers.replace m m.forgotten })
  else s

/-- A packet is given up (19 R362): its command is abandoned with LINK, or its message treated as refused. -/
def State.giveUp (s : State) (p : Packet) : State :=
  let s := { s.untime (.e2eResendTimeout p.id) with packets := s.packets.filter (fun (q : Packet) => q.id != p.id) }
  let s := if 2 ^ 14 ≤ p.src then s else match p.body with
    | .message m => s.giveUpMsg p m
    | .order m _ => if p.delivered then s else s.refused m 3
    | .result c _ => (match s.cmd c with
      | some m => s.abandonColl m 0x13
      | none => s)
    | .sectors c _ => (match s.cmd c with
      | some m => if m.ended then s else s.abandon m 0x13
      | none => s)
    | .leaf c _ _ => (match s.cmd c with
      | some m => if s.partialWanted p m then s.abandonColl m 0x13 else s
      | none => s)
    | .write _ => s
    | .loose _ _ => s
  s.deliverList (s.pairOf p.src p.dst)

/-- Whether a packet is for a package that no circuit reaches (19 R367). -/
def State.unreached (s : State) (p : Packet) : Bool := p.fabric.any (fun (e : Nat × Nat) => (s.circuitTo e.1).isNone)

/-- PACKET_INJECT (19 R358): with a reassembly slot, of which a pair has 256. -/
def execPacketInject (pk : Nat) (s : State) : Host.Outcome State Fault Refusal :=
  match s.packet pk with
  | some p => event "PACKET_INJECT" (!p.injected && s.isReady (.packetInject pk)) (fun s =>
      if s.unreached p then s.giveUp p else s.shipPacket { p with firstAt := s.cycle } (s.outPath p)) s
  | none => .fault (.notEnabled "PACKET_INJECT")

/-- FLIT_EJECT (19 R358): a flit already held, or of a delivered packet, is discarded. -/
def execFlitEject (pk : Nat) (fidx : Nat) (s : State) : Host.Outcome State Fault Refusal :=
  match s.packet pk with
  | some p => event "FLIT_EJECT" (p.injected && decide (fidx < p.flits)) (fun s =>
      if p.delivered || p.held.contains fidx then s
      else
        let s := s.setPacket { p with held := p.held ++ [fidx] }
        s.deliverList (s.pairOf p.src p.dst)) s
  | none => .fault (.notEnabled "FLIT_EJECT")

/-! ## Link retry (19 R361, R363) -/

/-- The entries of a retry buffer are received again, from the first unacknowledged (19 R361). -/
def State.replay (s : State) (l : LinkId) : State :=
  { s with agenda := s.agenda ++ ((s.link l).retry.map (fun (r : Retry) => Due.ucieFlitReceive l r.lseq)).filter (fun (d : Due) =>
      !s.agenda.contains d) }

/-- The ACK of a link's receiver is on its way to the sender (19 R361). -/
def State.acking (s : State) (l : LinkId) : State :=
  if s.agenda.contains (.linkAck l) then s else { s with agenda := s.agenda ++ [Due.linkAck l] }

/-- ACK covers what the receiver has accepted: it leaves the retry buffer (19 R361). -/
def State.ackLink (s : State) (l : LinkId) : State :=
  s.setLink l { s.link l with retry := (s.link l).retry.filter (fun (r : Retry) => !r.accepted) }

/-- A flit is accepted, and ACK will cover it. The on-die flits of a void one are lost (19 R363). -/
def State.acceptFlit (s : State) (l : LinkId) (r : Retry) : State :=
  let x := s.link l
  let s := s.setLink l { x with
    expect := x.expect + 1, retry := x.retry.map (fun (q : Retry) => if q.lseq = r.lseq then { q with accepted := true } else q) }
  let s := if r.void then
      { s with packets := s.packets.map (fun (p : Packet) =>
          if p.id = r.pk then { p with lost := p.lost ++ r.flits.map (fun (f : Nat) => (r.attempt, f)) } else p) }
    else s
  s.acking l

/-- UCIE_FLIT_RECEIVE: accepted with a good CRC and the LSEQ expected; one that was accepted before is discarded; else discarded with a
NAK, and the link's score rises (20 Table 20-1; DESIGN CHOICE, assumption log 52). -/
def execUcieFlitReceive (l : LinkId) (lseq : BitVec 16) (crcGood : Bool) (s : State) : Host.Outcome State Fault Refusal :=
  let x := s.link l
  let r := x.retry.find? (fun (q : Retry) => q.lseq == lseq && !q.accepted)
  event "UCIE_FLIT_RECEIVE" (!x.retraining && !x.disabled && (r.isSome || !crcGood || lseq != x.expect)) (fun s =>
    if !crcGood then nakked s
    else if x.behind lseq then s.acking l
    else match r with
      | some r => if lseq == x.expect then s.acceptFlit l r else nakked s
      | none => nakked s) s
where
  /-- The flit is discarded, and a NAK is on its way. -/
  nakked (s : State) : State :=
    let s := s.addScore (.link l) 1
    { s with agenda := s.agenda ++ [Due.nakReceive l] }

/-- 1 µs and 100 µs in CYCLE periods (19 R361, R362). -/
def nakWindow : Nat := 1600
@[inherit_doc nakWindow]
def trainWindow : Nat := 160000

/-- NAK_RECEIVE: the sender replays what the ACK beside the NAK does not cover; three NAKs within 1 µs start a retrain. -/
def execNakReceive (l : LinkId) (s : State) : Host.Outcome State Fault Refusal :=
  let x := s.link l
  event "NAK_RECEIVE" (!x.retraining && !x.disabled) (fun s =>
    let naks := x.naks.filter (fun (t : Nat) => decide (s.cycle ≤ t + nakWindow)) ++ [s.cycle]
    let s := (s.setLink l { x with naks := naks }).ackLink l
    if 3 ≤ naks.length then s.retrain l else s.replay l) s

/-- The sent packets with a link on their path. -/
def State.sentOver (s : State) (l : LinkId) : List Nat :=
  (s.packets.filter (fun (p : Packet) => p.injected && p.route.contains l)).map (·.id)

/-- LINK_LOCK_LOSS: a retrain, or one in progress fails; after three failures within 100 µs the sources resend (19 R362). -/
def execLinkLockLoss (l : LinkId) (s : State) : Host.Outcome State Fault Refusal :=
  let x := s.link l
  event "LINK_LOCK_LOSS" (!x.disabled) (fun s =>
    if !x.retraining then s.retrain l
    else
      let ts := x.trains.filter (fun (t : Nat) => decide (s.cycle ≤ t + trainWindow)) ++ [s.cycle]
      let s := s.setLink l { x with trains := ts }
      if 3 ≤ ts.length then { s with agenda := s.agenda ++ (s.sentOver l).map (fun (p : Nat) => Due.e2eResendTimeout p) } else s) s

/-- RETRAIN_COMPLETE: the sender replays from the first unacknowledged entry. -/
def execRetrainComplete (l : LinkId) (s : State) : Host.Outcome State Fault Refusal :=
  event "RETRAIN_COMPLETE" (s.link l).retraining (fun s =>
    (s.setLink l { s.link l with retraining := false, naks := [] }).replay l) s

/-- A packet that has gone from fibre to fibre is no packet of this package's any more (19 R366). -/
def State.forget (s : State) (pk : Nat) : State := { s with packets := s.packets.filter (fun (q : Packet) => q.id != pk) }

/-! ## End to end (19 R362) -/

/-- The sectors of a packet have been written in another package: their bytes are credited, and after the last the command ends. -/
def State.farLanded (s : State) (m : Cmd) (ns : List Nat) : State :=
  let done := m.sectors.filter (fun (x : Sector) => ns.contains x.n)
  let m := { m with
    got := m.got + (done.map (·.credit)).sum, sectors := m.sectors.filter (fun (x : Sector) => !ns.contains x.n) }
  let s := s.setCmd m
  if m.sectors = [] then s.endCmd m else s

/-- What the acknowledgement of a packet brings to its sender, where the packet left the package: its sectors are written there, or
the message that ends a migration is admitted (12 R282; DESIGN CHOICE, assumption log 46). -/
def State.acked (s : State) (p : Packet) : State :=
  if p.fabric.isNone then s
  else match p.body with
    | .message m => (match m.cmd with | some id => s.migEnd id none | none => s)
    | .sectors c ns => (match s.cmd c with
      | some m => if m.ended then s else s.farLanded m ns
      | none => s)
    | .leaf _ g part => { s with agenda := s.agenda ++ part.toList.map (Due.clePartialReceive none g) }
    | _ => s

/-- E2E_ACK_RECEIVE: the send store lets the packet go. -/
def execE2eAckReceive (pk : Nat) (s : State) : Host.Outcome State Fault Refusal :=
  match s.packet pk with
  | some p => event "E2E_ACK_RECEIVE" (p.delivered || (p.fabric.isSome && p.injected && decide (p.src < 2 ^ 14) && s.crossed p)) (fun s =>
      State.acked { s.untime (.e2eResendTimeout pk) with packets := s.packets.filter (fun (q : Packet) => q.id != pk) } p) s
  | none => .fault (.notEnabled "E2E_ACK_RECEIVE")

/-- The source resends a packet with the same PSN, or gives it up after 8 attempts or 1 ms. -/
def State.resend (s : State) (p : Packet) : State :=
  if 8 ≤ p.attempts ∨ p.firstAt + resendWithin ≤ s.cycle ∨ s.unreached p then s.giveUp p
  else s.shipPacket p (s.resendPath p)

/-- Whether a packet's source can send it again: it is of this package and live, and the retry buffers have room. -/
def State.maySend (s : State) (p : Packet) : Bool := decide (p.src < 2 ^ 14) && s.sourceUp p && s.roomOn p (s.resendPath p)

/-- E2E_NAK_RECEIVE: flits of the packet are missing. -/
def execE2eNakReceive (pk : Nat) (s : State) : Host.Outcome State Fault Refusal :=
  match s.packet pk with
  | some p => event "E2E_NAK_RECEIVE" (p.injected && !p.delivered && s.maySend p) (fun s => s.resend p) s
  | none => .fault (.notEnabled "E2E_NAK_RECEIVE")

/-- Whether a link on a packet's path fails to retrain. -/
def State.stuckOn (s : State) (p : Packet) : Bool :=
  p.route.any (fun (l : LinkId) => (s.link l).retraining && decide (3 ≤ (s.link l).trains.length))

/-- E2E_RESEND_TIMEOUT: 32 µs without an acknowledgement. -/
def execE2eResendTimeout (pk : Nat) (s : State) : Host.Outcome State Fault Refusal :=
  match s.packet pk with
  | some p => event "E2E_RESEND_TIMEOUT" (p.injected && s.maySend p && (decide (p.sentAt + resendAfter ≤ s.cycle) || s.stuckOn p))
      (fun s => s.resend p) s
  | none => .fault (.notEnabled "E2E_RESEND_TIMEOUT")

/-! ## Circuits (19 R364, R365) -/

/-- CIRCUIT_UP: packets may use it from now on. -/
def execCircuitUp (idx : Fin 256) (s : State) : Host.Outcome State Fault Refusal :=
  let e := SMap.get s.circuits 0 idx.val
  event "CIRCUIT_UP" (circState e == 1) (fun s => { s with circuits := SMap.set s.circuits idx.val (e &&& ~~~3#128 ||| 2#128) }) s

/-- CIRCUIT_TORN_DOWN: the entry is free. -/
def execCircuitTornDown (idx : Fin 256) (s : State) : Host.Outcome State Fault Refusal :=
  let e := SMap.get s.circuits 0 idx.val
  event "CIRCUIT_TORN_DOWN" (circState e == 3) (fun s => { s with circuits := SMap.set s.circuits idx.val (e &&& ~~~3#128) }) s

/-! ## The fabric between packages (19 R366, R367) -/

/-- A packet of another package as it comes in: a message (KIND 0), or an engine's write (KIND 5, its payload the cluster
scratch address and the bytes: DESIGN CHOICE, assumption log 46); `fabric` names the package that it goes on to. -/
def arrival (fp : FabricPacket) (fabric : Option (Nat × Nat)) (id cycle : Nat) : Packet :=
  let src := farAgent fp.srcPkg fp.src
  { id := id, src := src, dst := hdrDest fp.h0, psn := fp.psn, data := fp.payload, sentAt := cycle, firstAt := cycle, fabric := fabric
    body := if hdrKind fp.h0 = 0 then .message { h0 := fp.h0, h1 := fp.h1, payload := fp.payload, panel := fp.panel, cross := true
                                                 src := src, srcSlot := none, at_ := 0 }
      else .write fp.panel }

/-- A packet of the fabric takes its place among the packets, to cross the links of its path when they have room. -/
def State.takePacket (s : State) (p : Packet) : State :=
  { s with packets := s.packets ++ [p], names := s.names + 1, agenda := s.agenda ++ [Due.packetInject p.id] }

/-- A packet from another package comes over the circuit to its die (19 R366). One delivered before is acknowledged again; another attempt
of one that is here crosses the links again, and its flits are discarded or fill gaps (R358, R362). -/
def State.fromFabric (s : State) (fp : FabricPacket) : State :=
  let p := arrival fp none s.names s.cycle
  if 2 ^ 15 ≤ (p.psn - SMap.get s.rxPsns 0 (pairKey p.src p.dst none)).toNat then s.ackFar p
  else match s.packets.find? (fun (q : Packet) => q.src == p.src && q.dst == p.dst && q.psn == p.psn && q.fabric.isNone) with
    | some q => if q.injected && s.roomOn q 6 then s.shipPacket q 6 else s
    | none => s.takePacket p

/-- FABRIC_FORWARD: a packet for this package is taken in; one between two others goes out over the first circuit whose PKG matches, as
this package's own do when they are injected; without a circuit it and what this package sends there are abandoned with LINK (19 R366,
R367). -/
def execFabricForward (fp : FabricPacket) (s : State) : Host.Outcome State Fault Refusal :=
  event "FABRIC_FORWARD" s.portsOpen (fun s =>
    if fp.dstPkg = s.pkgid.toNat then s.fromFabric fp
    else if (s.circuitTo fp.dstPkg).isSome then
      if fp.srcPkg = s.pkgid.toNat then s else s.takePacket (arrival fp (some (fp.dstPkg, fp.srcPkg)) s.names s.cycle)
    else (s.packets.filter (fun (p : Packet) => p.fabric.any (fun (e : Nat × Nat) => e.1 == fp.dstPkg) && p.injected)).foldl State.giveUp s) s

/-! ## The second tier (19 R376) -/

/-- Whether a command has a sector still to write through a CXL port. -/
def Cmd.through (m : Cmd) (port : Nat) : Bool :=
  m.state == .running && m.sectors.any (fun (x : Sector) => x.puts.any (fun (p : Put) =>
    decide (deviceBase + 2 ^ 52 ≤ p.key) && (p.key - deviceBase - 2 ^ 52) / 2 ^ 48 == port))

/-- CXL_PORT_DOWN: a command caught by it is abandoned with LINK. -/
def execCxlPortDown (port : Fin 8) (s : State) : Host.Outcome State Fault Refusal :=
  event "CXL_PORT_DOWN" (s.power && !s.portsDown.contains port.val) (fun s =>
    let s := { s with portsDown := s.portsDown ++ [port.val] }
    (s.cmds.filter (fun (m : Cmd) => m.through port.val)).foldl (fun (s : State) (m : Cmd) => s.abandon m 0x13) s) s

end Sys2Proof.Machine
end

