-- ==== Sys2Proof/Machine/Bringup.lean ====
section
/-!
DEFINITION. Bring-up from power-good, and the sideband (19_package.md R367 to R371, R378).
-/

namespace Sys2Proof.Machine

/-- POWER_GOOD (19 Table 19-4): every die starts its ROM. -/
def execPowerGood (s : State) : Host.Outcome State Fault Refusal :=
  event "POWER_GOOD" (!s.power) (fun s =>
    { s with power := true, dies := s.dies.map (fun (x : Die) => { x with stage := .rom }) }) s

/-- A die's running digest takes in one more stage (19 R371). -/
def Die.measured (x : Die) (stage : List Byte) : Die := { x with measure := bytesOf 64 (Config.digest64 (x.measure ++ stage)).toNat }

/-- The master sends the image to dies over the bypass ring (19 R359). -/
def State.sendImage (s : State) (m : Fin 8) (ds : List (Fin 8)) : State := s.ringSend (s.member m.val) (ds.map Due.imageReceive)

/-- A die that waits for the image takes it. -/
def State.takeImage (s : State) (d : Fin 8) : State :=
  if (s.die d.val).stage = .heard then s.setDie d.val { s.die d.val with stage := .imaged } else s

/-- ROM_STAGE_DONE (step 1): the die can be heard. To a die that comes back after its loss, the master sends the package's image next
(20 R385). -/
def execRomStageDone (die : Fin 8) (s : State) : Host.Outcome State Fault Refusal :=
  event "ROM_STAGE_DONE" ((s.die die.val).stage == .rom) (fun s =>
    let s := s.setDie die.val { (s.die die.val).measured Config.romImage with stage := .heard }
    match s.master with
    | some m => s.sendImage m [die]
    | none => s) s

/-- LINK_TRAINING_DONE (step 2). -/
def execLinkTrainingDone (s : State) : Host.Outcome State Fault Refusal :=
  event "LINK_TRAINING_DONE" (s.power && !s.linksUp) (fun s => { s with linksUp := true }) s

/-- MASTER_ELECTION (step 3): the lowest UID heard; a die not heard is absent. -/
def execMasterElection (s : State) : Host.Outcome State Fault Refusal :=
  event "MASTER_ELECTION" (s.linksUp && s.master.isNone && !(s.diesAt .heard).isEmpty) (fun s =>
    { s with
      master := lowestUid (s.diesAt .heard)
      dies := s.dies.map (fun (x : Die) => if x.stage = .heard then x else { x with stage := .absent }) }) s

/-- FIRMWARE_DISTRIBUTE (step 4): the master, which has the image, sends it to every other die that was heard. -/
def execFirmwareDistribute (image : List (BitVec 8)) (s : State) : Host.Outcome State Fault Refusal :=
  event "FIRMWARE_DISTRIBUTE" (s.master.isSome && !s.srs && !(s.diesAt .heard).isEmpty) (fun s =>
    match s.master with
    | some m => ({ s with firmware := image }.sendImage m ((s.diesAt .heard).filter (· != m))).takeImage m
    | none => s) s

/-- Whether a die accepts an image (19 R370): a 64-byte public key, a 29,792-byte signature, then the rest, which begins with
the security version (DESIGN CHOICE, assumption log 47). -/
def accepts (die : Fin 8) (image : List Byte) : Bool :=
  let key := image.take 64
  let rest := image.drop 29856
  decide (29860 ≤ image.length) && Config.shake256 key == Config.keyDigest die &&
    Config.slhVerifies key ((image.drop 64).take 29792) rest && decide ((Config.secVersion die).toNat ≤ numOf (rest.take 4))

/-- A die begins to serve: every member's silence counts from now (20 R386), and its CLE takes note of the groups that name it. -/
def State.enter (s : State) (d : Nat) : State :=
  let s := s.setDie d { s.die d with
    stage := .live, suspects := []
    heard := ((List.range 8).map s.member ++ s.groups.flatMap (fun (g : Group) => g.live.filter s.farMember)).foldl
      (fun (l : List (Nat × Nat)) (m : Nat) => SMap.set l m s.cycle) []
    members := (s.groups.filter (fun (g : Group) => g.live.contains (s.member d) || g.slice.any (fun (e : Nat × Bool) => e.1 == s.member d))).map
      (fun (g : Group) => { grp := g.num, view := g.view, live := g.live, bound := none, proposing := none }) }
  { s with dies := s.dies.map (fun (x : Die) => if x.stage = .live then { x with heard := SMap.set x.heard (s.member d) s.cycle } else x) }

/-- A die rejects its image (19 R370): it stays in ROM, absent; after the master, the next lowest UID leads, and step 4 is
repeated. -/
def State.rejectImage (s : State) (d : Fin 8) : State :=
  let s := s.setDie d.val { s.die d.val with stage := .absent }
  if s.master = some d then s.newMaster else s

/-- FIRMWARE_VERIFY (step 5). -/
def execFirmwareVerify (die : Fin 8) (s : State) : Host.Outcome State Fault Refusal :=
  event "FIRMWARE_VERIFY" ((s.die die.val).stage == .imaged && !s.firmware.isEmpty) (fun s =>
    if accepts die s.firmware then
      let s := s.setDie die.val { (s.die die.val).measured s.firmware with stage := .verified }
      if s.srs then s.enter die.val else s
    else if s.srs then s.setDie die.val { s.die die.val with stage := .rom }
    else s.rejectImage die) s

/-- The state of a die in the master's report to the board controller, as in its identity record (20 R392). -/
def State.dieStates (s : State) : List Nat := (List.range 8).map (fun (d : Nat) => stageCode (s.die d).stage)

/-- SRS_START (step 6): the dies that passed serve, the master reports each die's state to the board controller, and the ports
open once the package id is written. -/
def execSrsStart (s : State) : Host.Outcome State Fault Refusal :=
  event "SRS_START" (!s.srs && (match s.master with | some m => (s.die m.val).stage == .verified | none => false) &&
      (s.diesAt .imaged).isEmpty && (s.diesAt .heard).isEmpty) (fun s =>
    let s := (s.diesAt .verified).foldl (fun (s : State) (d : Fin 8) => s.enter d.val) s
    { s with srs := true, portsOpen := s.pkgidSet, board := s.dieStates }) s

/-! ## The sideband (19 R378) -/

/-- The 1,024 bytes of a die's fuse block (19 R368), its fields in the order named there (DESIGN CHOICE, assumption log 45). -/
def fuseBlock (d : Fin 8) : List Byte :=
  let bs := bytesOf 8 (Config.uid d).toNat ++ bytesOf 3 (Config.spareSites d).toNat ++ bytesOf 32 (Config.keyDigest d).toNat ++
    bytesOf 4 (Config.secVersion d).toNat ++ bytesOf 96 (Config.identitySeed d).toNat
  bs ++ ((Config.calibration d ++ List.replicate 881 0).take 881)

/-- What the sideband offers to read: the UID and the state of each die. -/
def State.sideIdentity (s : State) : List (BitVec 64 × Nat) :=
  (List.finRange 8).map (fun (d : Fin 8) => (Config.uid d, stageCode (s.die d.val).stage))

/-- The telemetry of the sideband: the millivolts of each cluster (20 R394), and the power and temperature of each die. -/
def State.sideTelemetry (s : State) : List Nat × List (Nat × Int) :=
  ((List.range 128).map (fun (c : Nat) => (s.cluster c).millivolt), (List.finRange 8).map (fun (d : Fin 8) => Config.telemetry d s.cycle))

/-- PACKAGE_ID_WRITE (19 R367): the first write of a package reset is kept, later ones are ignored. -/
def execPackageIdWrite (id : BitVec 9) (s : State) : Host.Outcome State Fault Refusal :=
  event "PACKAGE_ID_WRITE" true (fun s =>
    if s.pkgidSet then s else { s with pkgid := id, pkgidSet := true, portsOpen := s.srs }) s

/-- RESET_REQUEST (19 R378): the package is reset; a retired cluster never returns (20 R384). The model's own counters go
on. -/
def execResetRequest (s : State) : Host.Outcome State Fault Refusal :=
  event "RESET_REQUEST" true (fun s =>
    { State.reset with
      clusters := (s.clusters.filter (fun (e : Nat × Cluster) => e.2.retired)).map (fun (e : Nat × Cluster) =>
        (e.1, { Cluster.reset with retired := true }))
      names := s.names, tick := s.tick, fresh := s.fresh, choices := s.choices, inputs := s.inputs }) s

/-- EMERGENCY_KILL (19 R378, 20 Table 20-3): every panel is killed. -/
def execEmergencyKill (s : State) : Host.Outcome State Fault Refusal :=
  event "EMERGENCY_KILL" true (fun s =>
    s.panels.foldl (fun (s : State) (p : Panel) => s.healthKill (coreAt p.x0 p.y0 / 1024) p.num) s) s

end Sys2Proof.Machine
end

