-- ==== Sys2Proof/Machine/Agenda.lean ====
section
/-!
DEFINITION. The meaning of a due event of the agenda: the event row of the same name (DESIGN CHOICE, assumption log 7). The reply to a MAP that
waits for accesses already translated (19 R375), the 32-byte accesses of READ and WRITE (19 R373), an ACK of a link (R361), the end of a
transit (R366), and the messages of the ring that report a fatal fault or bring an image (R359) are the due events without a row of their
own.
-/

namespace Sys2Proof.Machine

/-- Runs a due event. -/
def runDue (e : Due) (s : State) : Host.Outcome State Fault Refusal :=
  match e with
  | .completionPost c k => execCompletionPost c k s
  | .messageAdmit c => execMessageAdmit c s
  | .commandEnqueue c k => execCommandEnqueue c k s
  | .mwaitTimeout c k => execMwaitTimeout c k s
  | .yieldExpire c k => execYieldExpire c k s
  | .stealRequest cl => execStealRequest cl s
  | .stealServe thief victim => execStealServe thief victim s
  | .donationAppend cl => execDonationAppend cl s
  | .engineCommandStart e => execEngineCommandStart e s
  | .sectorWrite cmd n => execSectorWrite cmd n s
  | .pageWalk cmd => execPageWalk cmd s
  | .migrateComplete cmd => execMigrateComplete cmd s
  | .atelierRoundStart => execAtelierRoundStart s
  | .pairQuiesced i => execPairQuiesced i s
  | .pairCopyDone i => execPairCopyDone i s
  | .cleOperationStart grp => execCleOperationStart grp s
  | .clePartialReceive die grp part => hearPartial die grp part s
  | .proposalTimeout die grp => execProposalTimeout die grp s
  | .ackBindingExpire die grp => execAckBindingExpire die grp s
  | .quorumTimeout grp => execQuorumTimeout grp s
  | .viewProposalReceive die grp pr => hearProposal die grp pr s
  | .viewAckReceive die grp mem view => hearAck die grp mem view s
  | .viewRefusalReceive die grp held view => hearRefusal die grp held view s
  | .commitReceive die grp pr => hearCommit die grp pr s
  | .joinReceive grp slice => hearJoin grp slice s
  | .rejoinCommit grp => execRejoinCommit grp s
  | .scoreHalving => execScoreHalving s
  | .targetedTestStart o => execTargetedTestStart o s
  | .testHoldTimeout o => execTestHoldTimeout o s
  | .actfcstUpdate c => execActfcstUpdate c s
  | .clockChange cl => execClockChange cl s
  | .preemptAck panel e => execPreemptAck panel e s
  | .preemptTimeout panel => execPreemptTimeout panel s
  | .saveComplete panel => execSaveComplete panel s
  | .saveStop panel reason cursor => execSaveStop panel reason cursor s
  | .restoreComplete panel => execRestoreComplete panel s
  | .checkpointComplete => execCheckpointComplete s
  | .launchDone panel => execLaunchDone panel s
  | .packetInject pk => execPacketInject pk s
  | .flitEject pk fidx => execFlitEject pk fidx s
  | .e2eAckReceive pk => execE2eAckReceive pk s
  | .e2eResendTimeout pk => execE2eResendTimeout pk s
  | .transitDone pk => .next (s.forget pk)
  | .mapDone _ rq => .next (s.mapReply rq)
  | .ucieFlitReceive l lseq => execUcieFlitReceive l lseq true s
  | .linkAck l => .next (s.ackLink l)
  | .nakReceive l => execNakReceive l s
  | .retrainComplete l => execRetrainComplete l s
  | .circuitUp idx => execCircuitUp idx s
  | .circuitTornDown idx => execCircuitTornDown idx s
  | .heartbeatSend die => execHeartbeatSend die s
  | .heartbeatReceive die mem => hearHeartbeat die mem s
  | .suspectTimeout die mem => execSuspectTimeout die mem s
  | .heartbeatLossTimeout die => execHeartbeatLossTimeout die s
  | .fatalReport die => .next (s.hearFatal die)
  | .imageReceive die => .next (s.takeImage die)
  | .bulkAccess panel => bulkAccess panel s

end Sys2Proof.Machine
end

