-- ==== Sys2Proof/Machine/Dispatch.lean ====
section
/-!
DEFINITION. The meaning of every constructor of Instr: one direct call each.
-/

namespace Sys2Proof.Machine

def exec (i : Instr) (s : State) : Host.Outcome State Fault Refusal :=
  match i with
  | .add w b a d => Sys2Proof.Machine.execAdd w b a d s
  | .sub w b a d => Sys2Proof.Machine.execSub w b a d s
  | .and w b a d => Sys2Proof.Machine.execAnd w b a d s
  | .or w b a d => Sys2Proof.Machine.execOr w b a d s
  | .xor w b a d => Sys2Proof.Machine.execXor w b a d s
  | .andn w b a d => Sys2Proof.Machine.execAndn w b a d s
  | .sll w b a d => Sys2Proof.Machine.execSll w b a d s
  | .srl w b a d => Sys2Proof.Machine.execSrl w b a d s
  | .sra w b a d => Sys2Proof.Machine.execSra w b a d s
  | .rol w b a d => Sys2Proof.Machine.execRol w b a d s
  | .mul w b a d => Sys2Proof.Machine.execMul w b a d s
  | .mulh w b a d => Sys2Proof.Machine.execMulh w b a d s
  | .mulhu w b a d => Sys2Proof.Machine.execMulhu w b a d s
  | .div w b a d => Sys2Proof.Machine.execDiv w b a d s
  | .divu w b a d => Sys2Proof.Machine.execDivu w b a d s
  | .rem w b a d => Sys2Proof.Machine.execRem w b a d s
  | .remu w b a d => Sys2Proof.Machine.execRemu w b a d s
  | .min w b a d => Sys2Proof.Machine.execMin w b a d s
  | .max w b a d => Sys2Proof.Machine.execMax w b a d s
  | .minu w b a d => Sys2Proof.Machine.execMinu w b a d s
  | .maxu w b a d => Sys2Proof.Machine.execMaxu w b a d s
  | .slt w b a d => Sys2Proof.Machine.execSlt w b a d s
  | .sltu w b a d => Sys2Proof.Machine.execSltu w b a d s
  | .clz w a d => Sys2Proof.Machine.execClz w a d s
  | .ctz w a d => Sys2Proof.Machine.execCtz w a d s
  | .popc w a d => Sys2Proof.Machine.execPopc w a d s
  | .sext sz a d => Sys2Proof.Machine.execSext sz a d s
  | .zext sz a d => Sys2Proof.Machine.execZext sz a d s
  | .addi imm a d => Sys2Proof.Machine.execAddi imm a d s
  | .andi imm a d => Sys2Proof.Machine.execAndi imm a d s
  | .ori imm a d => Sys2Proof.Machine.execOri imm a d s
  | .xori imm a d => Sys2Proof.Machine.execXori imm a d s
  | .slti imm a d => Sys2Proof.Machine.execSlti imm a d s
  | .sltiu imm a d => Sys2Proof.Machine.execSltiu imm a d s
  | .slli w sh a d => Sys2Proof.Machine.execSlli w sh a d s
  | .srli w sh a d => Sys2Proof.Machine.execSrli w sh a d s
  | .srai w sh a d => Sys2Proof.Machine.execSrai w sh a d s
  | .lui imm d => Sys2Proof.Machine.execLui imm d s
  | .auipc imm d => Sys2Proof.Machine.execAuipc imm d s
  | .beq off b a => Sys2Proof.Machine.execBeq off b a s
  | .bne off b a => Sys2Proof.Machine.execBne off b a s
  | .blt off b a => Sys2Proof.Machine.execBlt off b a s
  | .bge off b a => Sys2Proof.Machine.execBge off b a s
  | .bltu off b a => Sys2Proof.Machine.execBltu off b a s
  | .bgeu off b a => Sys2Proof.Machine.execBgeu off b a s
  | .jal off d => Sys2Proof.Machine.execJal off d s
  | .jalr imm a d => Sys2Proof.Machine.execJalr imm a d s
  | .ldb off sc acq a t => Sys2Proof.Machine.execLdb off sc acq a t s
  | .ldbu off sc acq a t => Sys2Proof.Machine.execLdbu off sc acq a t s
  | .ldh off sc acq a t => Sys2Proof.Machine.execLdh off sc acq a t s
  | .ldhu off sc acq a t => Sys2Proof.Machine.execLdhu off sc acq a t s
  | .ldw off sc acq a t => Sys2Proof.Machine.execLdw off sc acq a t s
  | .ldwu off sc acq a t => Sys2Proof.Machine.execLdwu off sc acq a t s
  | .ldd off sc acq a t => Sys2Proof.Machine.execLdd off sc acq a t s
  | .stb off sc rel a t => Sys2Proof.Machine.execStb off sc rel a t s
  | .sth off sc rel a t => Sys2Proof.Machine.execSth off sc rel a t s
  | .stw off sc rel a t => Sys2Proof.Machine.execStw off sc rel a t s
  | .std off sc rel a t => Sys2Proof.Machine.execStd off sc rel a t s
  | .ldl sc acq w a d => Sys2Proof.Machine.execLdl sc acq w a d s
  | .stu sc rel w b a => Sys2Proof.Machine.execStu sc rel w b a s
  | .amoadd sc ord w b a d => Sys2Proof.Machine.execAmoadd sc ord w b a d s
  | .amoand sc ord w b a d => Sys2Proof.Machine.execAmoand sc ord w b a d s
  | .amoor sc ord w b a d => Sys2Proof.Machine.execAmoor sc ord w b a d s
  | .amoxor sc ord w b a d => Sys2Proof.Machine.execAmoxor sc ord w b a d s
  | .amomin sc ord w b a d => Sys2Proof.Machine.execAmomin sc ord w b a d s
  | .amomax sc ord w b a d => Sys2Proof.Machine.execAmomax sc ord w b a d s
  | .amominu sc ord w b a d => Sys2Proof.Machine.execAmominu sc ord w b a d s
  | .amomaxu sc ord w b a d => Sys2Proof.Machine.execAmomaxu sc ord w b a d s
  | .amoswp sc ord w b a d => Sys2Proof.Machine.execAmoswp sc ord w b a d s
  | .amocas sc ord w b a d => Sys2Proof.Machine.execAmocas sc ord w b a d s
  | .amofadd sc ord w b a d => Sys2Proof.Machine.execAmofadd sc ord w b a d s
  | .ldv b a d => Sys2Proof.Machine.execLdv b a d s
  | .stv b a d => Sys2Proof.Machine.execStv b a d s
  | .vrcl b a => Sys2Proof.Machine.execVrcl b a s
  | .vprobe a d => Sys2Proof.Machine.execVprobe a d s
  | .fence sc => Sys2Proof.Machine.execFence sc s
  | .fenceE sc => Sys2Proof.Machine.execFenceE sc s
  | .fenceI => Sys2Proof.Machine.execFenceI s
  | .bararv a d => Sys2Proof.Machine.execBararv a d s
  | .barwait b a d => Sys2Proof.Machine.execBarwait b a d s
  | .marm a => Sys2Proof.Machine.execMarm a s
  | .mwait a d => Sys2Proof.Machine.execMwait a d s
  | .send b a d => Sys2Proof.Machine.execSend b a d s
  | .sendv b a v => Sys2Proof.Machine.execSendv b a v s
  | .endh => Sys2Proof.Machine.execEndh s
  | .qbind vq wr id d => Sys2Proof.Machine.execQbind vq wr id d s
  | .qunbind vq d => Sys2Proof.Machine.execQunbind vq d s
  | .qpoll id d => Sys2Proof.Machine.execQpoll id d s
  | .taskadd a => Sys2Proof.Machine.execTaskadd a s
  | .tasktake a d => Sys2Proof.Machine.execTasktake a d s
  | .tileget d => Sys2Proof.Machine.execTileget d s
  | .copy g mt ms d => Sys2Proof.Machine.execCopy g mt ms d s
  | .fetch g mt ms d => Sys2Proof.Machine.execFetch g mt ms d s
  | .store g mt r v => Sys2Proof.Machine.execStore g mt r v s
  | .tier g mt ms d => Sys2Proof.Machine.execTier g mt ms d s
  | .txbinit g d => Sys2Proof.Machine.execTxbinit g d s
  | .txbarv g d => Sys2Proof.Machine.execTxbarv g d s
  | .txbwait g r d => Sys2Proof.Machine.execTxbwait g r d s
  | .txbtest g r d => Sys2Proof.Machine.execTxbtest g r d s
  | .shopen g r d => Sys2Proof.Machine.execShopen g r d s
  | .publish close sc ms d => Sys2Proof.Machine.execPublish close sc ms d s
  | .tmld g ms => Sys2Proof.Machine.execTmld g ms s
  | .tmst g ms => Sys2Proof.Machine.execTmst g ms s
  | .tmset g f ms => Sys2Proof.Machine.execTmset g f ms s
  | .tmget f ms d => Sys2Proof.Machine.execTmget f ms d s
  | .tmsync ms => Sys2Proof.Machine.execTmsync ms s
  | .wload g tr ms d => Sys2Proof.Machine.execWload g tr ms d s
  | .wfree d => Sys2Proof.Machine.execWfree d s
  | .mld g pair tr ms v => Sys2Proof.Machine.execMld g pair tr ms v s
  | .mst g pair tr ms v => Sys2Proof.Machine.execMst g pair tr ms v s
  | .mma chk z k wb a c => Sys2Proof.Machine.execMma chk z k wb a c s
  | .msoft k a c => Sys2Proof.Machine.execMsoft k a c s
  | .msfin k c => Sys2Proof.Machine.execMsfin k c s
  | .mzero k => Sys2Proof.Machine.execMzero k s
  | .mchk k wb a c => Sys2Proof.Machine.execMchk k wb a c s
  | .vadd e p b a d => Sys2Proof.Machine.execVadd e p b a d s
  | .vsub e p b a d => Sys2Proof.Machine.execVsub e p b a d s
  | .vmul e p b a d => Sys2Proof.Machine.execVmul e p b a d s
  | .vfma e p b a d => Sys2Proof.Machine.execVfma e p b a d s
  | .vmin e p b a d => Sys2Proof.Machine.execVmin e p b a d s
  | .vmax e p b a d => Sys2Proof.Machine.execVmax e p b a d s
  | .vabs e p a d => Sys2Proof.Machine.execVabs e p a d s
  | .vneg e p a d => Sys2Proof.Machine.execVneg e p a d s
  | .vdiv e p b a d => Sys2Proof.Machine.execVdiv e p b a d s
  | .vsqrt e p a d => Sys2Proof.Machine.execVsqrt e p a d s
  | .vrsqrt e p a d => Sys2Proof.Machine.execVrsqrt e p a d s
  | .vrcp e p a d => Sys2Proof.Machine.execVrcp e p a d s
  | .vexp2 e p a d => Sys2Proof.Machine.execVexp2 e p a d s
  | .vlog2 e p a d => Sys2Proof.Machine.execVlog2 e p a d s
  | .vand e p b a d => Sys2Proof.Machine.execVand e p b a d s
  | .vor e p b a d => Sys2Proof.Machine.execVor e p b a d s
  | .vxor e p b a d => Sys2Proof.Machine.execVxor e p b a d s
  | .vshl e p g a d => Sys2Proof.Machine.execVshl e p g a d s
  | .vshr e p g a d => Sys2Proof.Machine.execVshr e p g a d s
  | .vsel e p b a d => Sys2Proof.Machine.execVsel e p b a d s
  | .vcmpeq e p b a pd => Sys2Proof.Machine.execVcmpeq e p b a pd s
  | .vcmplt e p b a pd => Sys2Proof.Machine.execVcmplt e p b a pd s
  | .vcmple e p b a pd => Sys2Proof.Machine.execVcmple e p b a pd s
  | .vcvt e p t a d => Sys2Proof.Machine.execVcvt e p t a d s
  | .vaddw e p b a d => Sys2Proof.Machine.execVaddw e p b a d s
  | .vmacw e p b a d => Sys2Proof.Machine.execVmacw e p b a d s
  | .vnarrow e p sat a d => Sys2Proof.Machine.execVnarrow e p sat a d s
  | .vadds e p b a d => Sys2Proof.Machine.execVadds e p b a d s
  | .vclamp e p g a d => Sys2Proof.Machine.execVclamp e p g a d s
  | .vscan e p g a d => Sys2Proof.Machine.execVscan e p g a d s
  | .vredsum e p a d => Sys2Proof.Machine.execVredsum e p a d s
  | .vredmax e p a d => Sys2Proof.Machine.execVredmax e p a d s
  | .vredmin e p a d => Sys2Proof.Machine.execVredmin e p a d s
  | .vperm e p b a d => Sys2Proof.Machine.execVperm e p b a d s
  | .vbcast e p g d => Sys2Proof.Machine.execVbcast e p g d s
  | .vins e p g a d => Sys2Proof.Machine.execVins e p g a d s
  | .vext e p g a => Sys2Proof.Machine.execVext e p g a s
  | .vzero e p d => Sys2Proof.Machine.execVzero e p d s
  | .vmov e p a d => Sys2Proof.Machine.execVmov e p a d s
  | .viota e p g d => Sys2Proof.Machine.execViota e p g d s
  | .vld e p gb ga d => Sys2Proof.Machine.execVld e p gb ga d s
  | .vst e p gb ga d => Sys2Proof.Machine.execVst e p gb ga d s
  | .vlds e p gb ga d => Sys2Proof.Machine.execVlds e p gb ga d s
  | .vsts e p gb ga d => Sys2Proof.Machine.execVsts e p gb ga d s
  | .vgath e p ix ga d => Sys2Proof.Machine.execVgath e p ix ga d s
  | .vscat e p ix ga d => Sys2Proof.Machine.execVscat e p ix ga d s
  | .vwmax e n w a d => Sys2Proof.Machine.execVwmax e n w a d s
  | .vwmin e n w a d => Sys2Proof.Machine.execVwmin e n w a d s
  | .vwmed e n w a d => Sys2Proof.Machine.execVwmed e n w a d s
  | .vwclamp e n w a d => Sys2Proof.Machine.execVwclamp e n w a d s
  | .vwssum e n w a d => Sys2Proof.Machine.execVwssum e n w a d s
  | .vadj e n w kd d => Sys2Proof.Machine.execVadj e n w kd d s
  | .credSum mb ma g => Sys2Proof.Machine.execCredSum mb ma g s
  | .credMax mw mb ma g => Sys2Proof.Machine.execCredMax mw mb ma g s
  | .credMin mw mb ma g => Sys2Proof.Machine.execCredMin mw mb ma g s
  | .credMed mw mb ma g => Sys2Proof.Machine.execCredMed mw mb ma g s
  | .credSsum mw mb ma g => Sys2Proof.Machine.execCredSsum mw mb ma g s
  | .cbcast mb ma g => Sys2Proof.Machine.execCbcast mb ma g s
  | .cadj mw mb ma g => Sys2Proof.Machine.execCadj mw mb ma g s
  | .cjoin g => Sys2Proof.Machine.execCjoin g s
  | .cleave g => Sys2Proof.Machine.execCleave g s
  | .cview g => Sys2Proof.Machine.execCview g s
  | .crejoin g => Sys2Proof.Machine.execCrejoin g s
  | .fitset b a => Sys2Proof.Machine.execFitset b a s
  | .popcmd a => Sys2Proof.Machine.execPopcmd a s
  | .migrate a => Sys2Proof.Machine.execMigrate a s
  | .mutcopy b a => Sys2Proof.Machine.execMutcopy b a s
  | .mfc n d => Sys2Proof.Machine.execMfc n d s
  | .mtc n a => Sys2Proof.Machine.execMtc n a s
  | .msetb n a d => Sys2Proof.Machine.execMsetb n a d s
  | .mclrb n a d => Sys2Proof.Machine.execMclrb n a d s
  | .trap a => Sys2Proof.Machine.execTrap a s
  | .brk a => Sys2Proof.Machine.execBrk a s
  | .eret => Sys2Proof.Machine.execEret s
  | .reinj a d => Sys2Proof.Machine.execReinj a d s
  | .tlbinv b a => Sys2Proof.Machine.execTlbinv b a s
  | .tlbinvAsid b => Sys2Proof.Machine.execTlbinvAsid b s
  | .tlbinvAll => Sys2Proof.Machine.execTlbinvAll s
  | .quiesce drain b a d => Sys2Proof.Machine.execQuiesce drain b a d s
  | .resume b a d => Sys2Proof.Machine.execResume b a d s
  | .pkill a => Sys2Proof.Machine.execPkill a s
  | .savep a d => Sys2Proof.Machine.execSavep a d s
  | .restp a d => Sys2Proof.Machine.execRestp a d s
  | .wfi => Sys2Proof.Machine.execWfi s
  | .cMv a d => Sys2Proof.Machine.execCMv a d s
  | .cAdd a d => Sys2Proof.Machine.execCAdd a d s
  | .cSub a d => Sys2Proof.Machine.execCSub a d s
  | .cAddi imm d => Sys2Proof.Machine.execCAddi imm d s
  | .cLi imm d => Sys2Proof.Machine.execCLi imm d s
  | .cSlli imm d => Sys2Proof.Machine.execCSlli imm d s
  | .cSrai imm d => Sys2Proof.Machine.execCSrai imm d s
  | .cAnd a d => Sys2Proof.Machine.execCAnd a d s
  | .cLdd a d => Sys2Proof.Machine.execCLdd a d s
  | .cStd a d => Sys2Proof.Machine.execCStd a d s
  | .cLdw a d => Sys2Proof.Machine.execCLdw a d s
  | .cStw a d => Sys2Proof.Machine.execCStw a d s
  | .cBeqz imm d => Sys2Proof.Machine.execCBeqz imm d s
  | .cBnez imm d => Sys2Proof.Machine.execCBnez imm d s
  | .cJ off => Sys2Proof.Machine.execCJ off s
  | .cJr a link => Sys2Proof.Machine.execCJr a link s
  | .cRep m n => Sys2Proof.Machine.execCRep m n s
  | .cEndh => Sys2Proof.Machine.execCEndh s
  | .cNop => Sys2Proof.Machine.execCNop s
  | .cYield => Sys2Proof.Machine.execCYield s
  | .waitEnd c k => Sys2Proof.Machine.execWaitEnd c k s
  | .matrixComplete c k => Sys2Proof.Machine.execMatrixComplete c k s
  | .lockRetry c k => Sys2Proof.Machine.execLockRetry c k s
  | .mwaitTimeout c k => Sys2Proof.Machine.execMwaitTimeout c k s
  | .yieldExpire c k => Sys2Proof.Machine.execYieldExpire c k s
  | .barcfgWrite op a d => Sys2Proof.Machine.execBarcfgWrite op a d s
  | .tqcfgWrite op a d => Sys2Proof.Machine.execTqcfgWrite op a d s
  | .tdcfgWrite op a d => Sys2Proof.Machine.execTdcfgWrite op a d s
  | .flagsRead d => Sys2Proof.Machine.execFlagsRead d s
  | .flagsWrite op a d => Sys2Proof.Machine.execFlagsWrite op a d s
  | .controlRegisterWrite op n a d => Sys2Proof.Machine.execControlRegisterWrite op n a d s
  | .messageAdmit c => Sys2Proof.Machine.execMessageAdmit c s
  | .completionPost c k => Sys2Proof.Machine.execCompletionPost c k s
  | .stealRequest cl => Sys2Proof.Machine.execStealRequest cl s
  | .stealServe thief victim => Sys2Proof.Machine.execStealServe thief victim s
  | .donationAppend cl => Sys2Proof.Machine.execDonationAppend cl s
  | .commandEnqueue c k => Sys2Proof.Machine.execCommandEnqueue c k s
  | .engineCommandStart e => Sys2Proof.Machine.execEngineCommandStart e s
  | .sectorWrite cmd n => Sys2Proof.Machine.execSectorWrite cmd n s
  | .pageWalk cmd => Sys2Proof.Machine.execPageWalk cmd s
  | .migrateComplete cmd => Sys2Proof.Machine.execMigrateComplete cmd s
  | .atelierRoundStart => Sys2Proof.Machine.execAtelierRoundStart s
  | .pairQuiesced mt => Sys2Proof.Machine.execPairQuiesced mt s
  | .pairCopyDone mt => Sys2Proof.Machine.execPairCopyDone mt s
  | .cleOperationStart grp => Sys2Proof.Machine.execCleOperationStart grp s
  | .clePartialReceive grp part => Sys2Proof.Machine.execClePartialReceive grp part s
  | .heartbeatSend die => Sys2Proof.Machine.execHeartbeatSend die s
  | .heartbeatReceive die mem => Sys2Proof.Machine.execHeartbeatReceive die mem s
  | .suspectTimeout die mem => Sys2Proof.Machine.execSuspectTimeout die mem s
  | .viewProposalReceive die grp pr => Sys2Proof.Machine.execViewProposalReceive die grp pr s
  | .viewAckReceive die grp mem view => Sys2Proof.Machine.execViewAckReceive die grp mem view s
  | .viewRefusalReceive die grp held view => Sys2Proof.Machine.execViewRefusalReceive die grp held view s
  | .commitReceive die grp pr => Sys2Proof.Machine.execCommitReceive die grp pr s
  | .proposalTimeout die grp => Sys2Proof.Machine.execProposalTimeout die grp s
  | .ackBindingExpire die grp => Sys2Proof.Machine.execAckBindingExpire die grp s
  | .quorumTimeout grp => Sys2Proof.Machine.execQuorumTimeout grp s
  | .joinReceive grp slice => Sys2Proof.Machine.execJoinReceive grp slice s
  | .rejoinCommit grp => Sys2Proof.Machine.execRejoinCommit grp s
  | .heartbeatLossTimeout die => Sys2Proof.Machine.execHeartbeatLossTimeout die s
  | .fatalFaultReport die => Sys2Proof.Machine.execFatalFaultReport die s
  | .correctedError o => Sys2Proof.Machine.execCorrectedError o s
  | .uncorrectableError o => Sys2Proof.Machine.execUncorrectableError o s
  | .scoreHalving => Sys2Proof.Machine.execScoreHalving s
  | .targetedTestStart o => Sys2Proof.Machine.execTargetedTestStart o s
  | .testHoldTimeout o => Sys2Proof.Machine.execTestHoldTimeout o s
  | .targetedTestComplete o pass => Sys2Proof.Machine.execTargetedTestComplete o pass s
  | .ageingFit o margin drift => Sys2Proof.Machine.execAgeingFit o margin drift s
  | .vfLoop cl ceiling millivolt => Sys2Proof.Machine.execVfLoop cl ceiling millivolt s
  | .droop cl stretch => Sys2Proof.Machine.execDroop cl stretch s
  | .equalisationLoop l setting below => Sys2Proof.Machine.execEqualisationLoop l setting below s
  | .scrubLoop die rate => Sys2Proof.Machine.execScrubLoop die rate s
  | .actfcstUpdate c => Sys2Proof.Machine.execActfcstUpdate c s
  | .clockChange cl => Sys2Proof.Machine.execClockChange cl s
  | .preemptAck panel e => Sys2Proof.Machine.execPreemptAck panel e s
  | .preemptTimeout panel => Sys2Proof.Machine.execPreemptTimeout panel s
  | .saveComplete panel => Sys2Proof.Machine.execSaveComplete panel s
  | .saveStop panel reason cursor => Sys2Proof.Machine.execSaveStop panel reason cursor s
  | .restoreComplete panel => Sys2Proof.Machine.execRestoreComplete panel s
  | .checkpointComplete => Sys2Proof.Machine.execCheckpointComplete s
  | .launchDone panel => Sys2Proof.Machine.execLaunchDone panel s
  | .packetInject pk => Sys2Proof.Machine.execPacketInject pk s
  | .flitEject pk fidx => Sys2Proof.Machine.execFlitEject pk fidx s
  | .ucieFlitReceive l lseq crcGood => Sys2Proof.Machine.execUcieFlitReceive l lseq crcGood s
  | .nakReceive l => Sys2Proof.Machine.execNakReceive l s
  | .linkLockLoss l => Sys2Proof.Machine.execLinkLockLoss l s
  | .retrainComplete l => Sys2Proof.Machine.execRetrainComplete l s
  | .e2eAckReceive pk => Sys2Proof.Machine.execE2eAckReceive pk s
  | .e2eNakReceive pk => Sys2Proof.Machine.execE2eNakReceive pk s
  | .e2eResendTimeout pk => Sys2Proof.Machine.execE2eResendTimeout pk s
  | .circuitUp idx => Sys2Proof.Machine.execCircuitUp idx s
  | .fabricForward fp => Sys2Proof.Machine.execFabricForward fp s
  | .cxlPortDown port => Sys2Proof.Machine.execCxlPortDown port s
  | .powerGood => Sys2Proof.Machine.execPowerGood s
  | .romStageDone die => Sys2Proof.Machine.execRomStageDone die s
  | .linkTrainingDone => Sys2Proof.Machine.execLinkTrainingDone s
  | .masterElection => Sys2Proof.Machine.execMasterElection s
  | .firmwareDistribute image => Sys2Proof.Machine.execFirmwareDistribute image s
  | .firmwareVerify die => Sys2Proof.Machine.execFirmwareVerify die s
  | .srsStart => Sys2Proof.Machine.execSrsStart s
  | .packageIdWrite id => Sys2Proof.Machine.execPackageIdWrite id s
  | .resetRequest => Sys2Proof.Machine.execResetRequest s
  | .emergencyKill => Sys2Proof.Machine.execEmergencyKill s
  | .jobConnect job svc => Sys2Proof.Machine.execJobConnect job svc s
  | .panelCreate rq => Sys2Proof.Machine.execPanelCreate rq s
  | .panelRelease rq => Sys2Proof.Machine.execPanelRelease rq s
  | .imageLoad rq img => Sys2Proof.Machine.execImageLoad rq img s
  | .launch rq => Sys2Proof.Machine.execLaunch rq s
  | .read rq => Sys2Proof.Machine.execRead rq s
  | .write rq => Sys2Proof.Machine.execWrite rq s
  | .hold rq => Sys2Proof.Machine.execHold rq s
  | .resumeRequest rq => Sys2Proof.Machine.execResumeRequest rq s
  | .swapOut rq => Sys2Proof.Machine.execSwapOut rq s
  | .swapIn rq => Sys2Proof.Machine.execSwapIn rq s
  | .save rq => Sys2Proof.Machine.execSave rq s
  | .restore rq => Sys2Proof.Machine.execRestore rq s
  | .kill rq => Sys2Proof.Machine.execKill rq s
  | .groupCreate rq => Sys2Proof.Machine.execGroupCreate rq s
  | .sptLoad rq => Sys2Proof.Machine.execSptLoad rq s
  | .tierMap rq => Sys2Proof.Machine.execTierMap rq s
  | .circuit rq => Sys2Proof.Machine.execCircuit rq s
  | .state rq => Sys2Proof.Machine.execState rq s
  | .health rq => Sys2Proof.Machine.execHealth rq s
  | .attest rq => Sys2Proof.Machine.execAttest rq s
  | .checkpoint rq => Sys2Proof.Machine.execCheckpoint rq s
  | .report rq => Sys2Proof.Machine.execReport rq s
  | .map rq => Sys2Proof.Machine.execMap rq s
  | .dieSupplyLoss die => Sys2Proof.Machine.execDieSupplyLoss die s
  | .dieSupplyReturn die => Sys2Proof.Machine.execDieSupplyReturn die s
  | .circuitTornDown idx => Sys2Proof.Machine.execCircuitTornDown idx s
  | .connectionClose job => Sys2Proof.Machine.execConnectionClose job s

end Sys2Proof.Machine
end

