-- ==== Sys2Proof/Machine/Step.lean ====
section
/-!
DEFINITION. One step of the package, and the placing of one instruction where the next step fetches it.
-/

namespace Sys2Proof.Machine

/-- One step (95_what_each_step_holds): a due event, an input from outside, or one instruction of one context. -/
def step (s : State) : Host.Outcome State Fault Refusal := stepWith exec runDue s

/-- The state with an instruction's bytes where the next step fetches (DESIGN CHOICE, assumption log 1). -/
def State.withFetchWord (s : State) (nbits w : Nat) : State := s.place nbits w

end Sys2Proof.Machine
end

