-- ==== Sys2Proof/Laws/PerInstr.lean ====
section
/-!
SUPPORT. Statements made of every instruction as syntax, one lemma for each constructor.
-/

namespace Sys2Proof.Laws

end Sys2Proof.Laws
end

