-- ==== Sys2Proof/Safety.lean ====
section
/-!
DEFINITION. The terms claims use: what every state of a run keeps, what it is for the issuing context to issue its next
instruction alone, and the state in which an instruction that goes on to the next one leaves it.
-/

namespace Sys2Proof.Machine

/-- Memory keeps its canonical form. -/
abbrev State.memOk (s : State) : Prop := Memory.wf s.mem = true

/-- The value a general register reads as: g0 is zero (07 R135). -/
def Ctx.reg (x : Ctx) (r : Fin 32) : Word := if r = 0 then 0 else x.g[r]

/-- A context with a general register written: a write of g0 is discarded (07 R135). -/
def Ctx.put (x : Ctx) (r : Fin 32) (v : Word) : Ctx := if r = 0 then x else { x with g := x.g.set r v }

/-- The issuing context issues the word at its pc: no earlier instruction of it is unfinished (18 R329), no matrix result
is pending (06 R127), and none of its registers is bound to a queue port (03 R55). A repeat may be in progress. -/
abbrev State.alone (s : State) : Prop :=
  s.source = .pc ∧ s.me.pend = [] ∧ s.me.ports = .replicate 5 none ∧ s.me.mat = none

/-- The issuing context after an instruction of `len` bytes completes: it is Ready at what follows (07 R136, 04 R91). -/
def Ctx.after (x : Ctx) (len : Nat) : Ctx := { x.advance len with run := .ready, wait := none }

/-- The state after an instruction whose whole effect is on the issuing context, `f`. -/
def State.onMe (s : State) (len : Nat) (f : Ctx → Ctx) : State := s.setMe ((f s.me).after len)

/-- The state after an instruction whose whole effect is to write `v` to register `d`. -/
def State.gives (s : State) (len : Nat) (d : Fin 32) (v : Word) : State := s.onMe len (fun x => x.put d v)

/-- The state after a jump or branch of the issuing context to `t`, with register `d` written. -/
def State.goes (s : State) (t : Word) (d : Fin 32) (v : Word) : State :=
  s.setMe { s.me.put d v with pc := t, run := .ready, wait := none }

/-- An access of `n` bytes, aligned to `n`, that passes the checks of 08 R155: a window of the cluster on a core of the
panel, the mode, the alignment. -/
abbrev State.reaches (s : State) (addr : Word) (n : Nat) : Prop :=
  addr.toNat < 2 ^ 29 ∧ s.inPanel (s.keyOf addr / 2 ^ 19) = true ∧ s.permits (s.keyOf addr) n = true ∧ addr.toNat % n = 0

/-- No byte of an access holds an uncorrectable error (20 Table 20-3). -/
abbrev State.clean (s : State) (addr : Word) (n : Nat) : Prop := s.sound (s.keyOf addr) n = true

/-- Every byte of memory but `n` from key `k` reads in `t` as in `s`. -/
def State.memoryKept (s t : State) (k n : Nat) : Prop := ∀ a, a < k ∨ k + n ≤ a → Memory.get t.mem a = Memory.get s.mem a

/-- What an instruction that only works on registers and scratch leaves: every table of the package but the cores, the
clusters and memory. -/
def State.tablesKept (s t : State) : Prop :=
  t.poison = s.poison ∧ t.dies = s.dies ∧ t.panels = s.panels ∧ t.groups = s.groups ∧ t.cmds = s.cmds ∧
    t.packets = s.packets ∧ t.links = s.links ∧ t.saved = s.saved ∧ t.replies = s.replies ∧ t.reports = s.reports ∧
    t.cycle = s.cycle

/-- The lock bit of a word is free to its asker: nobody holds it, and nobody asked earlier (02 R39, 08 R162). -/
abbrev State.lockFree (s : State) (key : Nat) : Prop :=
  (∀ l ∈ (s.core (key / 2 ^ 19)).locks, l.1 ≠ lockOf key) ∧ s.first (.lock (key / 2 ^ 19) (lockOf key)) = true

/-- An access to a versioned word that passes its checks (02 R36, 08 R155, R164): the address and the core that holds it. -/
abbrev State.reachesV (s : State) (addr : Word) : Prop :=
  0x20000000 ≤ addr.toNat ∧ addr.toNat ≤ 0x2000FFFF ∧ s.inPanel (s.clus * 64 + (addr.toNat - 0x20000000) / 8 / 128) = true ∧
    addr.toNat % 8 = 0

/-- The versioned word of an address. -/
def State.vwordAt (s : State) (addr : Word) : VWord := s.vword s.clus ((addr.toNat - 0x20000000) / 8)

/-! ## Vector results (09 R180 to R182) -/

/-- A vector register may be written: S mode does not hold it for the trapped code (18 R332). -/
abbrev State.mayV (s : State) (d : Fin 16) : Prop := s.me.mode = false ∨ s.held.getLsbD d.val = false

/-- The registers of a group of `r` from `d` as one number, the first register lowest (09 R181). -/
def Ctx.vnum (x : Ctx) (d : Fin 16) (r : Nat) : Nat := (groupRegs d r).foldr (fun k m => (x.v[k]).toNat + 2 ^ 4096 * m) 0

/-- What an instruction leaves that raises the flags `fl` and writes the `r` registers from `d`: `t` differs from `s` only
in those, in the pc and in the count of vector work. -/
def State.vGives (s t : State) (fl : Fl) (d : Fin 16) (r : Nat) : Prop :=
  (∃ v : Vector VReg 16, t.me = ({ s.me with flags := s.me.flags ||| fl, v := v } : Ctx).after 4 ∧
    ∀ q : Fin 16, q ∉ groupRegs d r → v[q] = s.me.v[q]) ∧
  t.mem = s.mem ∧ t.clusters = s.clusters ∧ s.tablesKept t

/-- Lanes under a predicate: an active one holds the low bits of `f`, a masked one its old code (09 R182). -/
def lanesAre (w n : Nat) (p : PReg) (new old : Nat) (f : Nat → Nat) : Prop :=
  ∀ k < n, laneOf w new k = if lane p k then f k % 2 ^ w else laneOf w old k

/-- The flags that the active lanes raise. -/
def raised (n : Nat) (p : PReg) (g : Nat → Fl) : Fl := (activeLanes p n).foldl (fun f k => f ||| g k) 0

/-! ## Runs of bytes and maps -/

/-- A run of `n` bytes that lies in one core region of the panel and may be reached, aligned to `al` (08 R155, 11 R233). -/
abbrev State.reachesRun (s : State) (addr : Word) (n al : Nat) : Prop :=
  addr.toNat < 2 ^ 29 ∧ s.inPanel (s.keyOf addr / 2 ^ 19) = true ∧ s.keyOf addr % 2 ^ 19 + n ≤ 2 ^ 19 ∧
    s.permits (s.keyOf addr) n = true ∧ addr.toNat % al = 0

/-- No publish entry stands in the way of `n` bytes from key `k` (11 R254). -/
abbrev State.direct (s : State) (k n : Nat) : Prop := ∀ i < n, s.phys (k + i) = s.phys k + i

/-- Every byte of memory outside the places of `n` bytes of scratch from key `k` reads in `t` as in `s`. -/
def State.memoryOutside (s t : State) (k n : Nat) : Prop :=
  ∀ a, (∀ i < n, a ≠ s.phys (k + i)) → Memory.get t.mem a = Memory.get s.mem a

/-- What an instruction leaves that only replaces map slot `ms` of its core. -/
def State.mapOnly (s t : State) (ms : Fin 32) (d : Desc) : Prop :=
  t.me = s.me.after 4 ∧ t.clusters = s.clusters ∧ t.map ms = d ∧ ∀ q, q ≠ ms → t.map q = s.map q

end Sys2Proof.Machine
end

