-- ==== Sys2Proof/Certificates/Slice0/Obligations.lean ====
section
/-!
DEFINITION. The statements for the provers. Each docstring names the rules of spec/ that the statement formalises.
`State.alone`, `State.gives`, `State.onMe` and `State.goes` stand in Sys2Proof/Safety.lean.
-/

open Sys2Proof Sys2Proof.Machine

/-- 07 R137, R138, Table 07-1, Table 07-2: every operation of INT on gA and gB, in its 64-bit form and its W form,
writes its result to gD, and nothing else of the machine changes but the pc (R135: g0 reads zero and discards). 07 R138,
Table 07-2: division by zero and the one signed overflow have the results of the table, every other quotient rounds
towards zero, and a remainder has the dividend's sign; none of the four traps or raises a flag. -/
def Obligations.IntegerResults : Prop :=
  (∀ (s : State) (w : Bool) (b a d : Fin 32), s.alone →
    let x := s.me.reg a
    let y := s.me.reg b
    exec (.add w b a d) s = .next (s.gives 4 d (if w then sx32 (lo32 x + lo32 y) else x + y)) ∧
    exec (.sub w b a d) s = .next (s.gives 4 d (if w then sx32 (lo32 x - lo32 y) else x - y)) ∧
    exec (.and w b a d) s = .next (s.gives 4 d (if w then sx32 (lo32 x &&& lo32 y) else x &&& y)) ∧
    exec (.or w b a d) s = .next (s.gives 4 d (if w then sx32 (lo32 x ||| lo32 y) else x ||| y)) ∧
    exec (.xor w b a d) s = .next (s.gives 4 d (if w then sx32 (lo32 x ^^^ lo32 y) else x ^^^ y)) ∧
    exec (.andn w b a d) s = .next (s.gives 4 d (if w then sx32 (lo32 x &&& ~~~lo32 y) else x &&& ~~~y)) ∧
    exec (.sll w b a d) s = .next (s.gives 4 d
      (if w then sx32 (lo32 x <<< (y.toNat % 32)) else x <<< (y.toNat % 64))) ∧
    exec (.srl w b a d) s = .next (s.gives 4 d
      (if w then sx32 (lo32 x >>> (y.toNat % 32)) else x >>> (y.toNat % 64))) ∧
    exec (.sra w b a d) s = .next (s.gives 4 d
      (if w then sx32 ((lo32 x).sshiftRight (y.toNat % 32)) else x.sshiftRight (y.toNat % 64))) ∧
    exec (.rol w b a d) s = .next (s.gives 4 d
      (if w then sx32 ((lo32 x).rotateLeft (y.toNat % 32)) else x.rotateLeft (y.toNat % 64))) ∧
    exec (.mul w b a d) s = .next (s.gives 4 d (if w then sx32 (lo32 x * lo32 y) else x * y)) ∧
    exec (.mulh w b a d) s = .next (s.gives 4 d
      (if w then sx32 (BitVec.ofInt 32 ((lo32 x).toInt * (lo32 y).toInt / 2 ^ 32))
        else BitVec.ofInt 64 (x.toInt * y.toInt / 2 ^ 64))) ∧
    exec (.mulhu w b a d) s = .next (s.gives 4 d
      (if w then sx32 (BitVec.ofNat 32 ((lo32 x).toNat * (lo32 y).toNat / 2 ^ 32))
        else BitVec.ofNat 64 (x.toNat * y.toNat / 2 ^ 64))) ∧
    exec (.min w b a d) s = .next (s.gives 4 d
      (if w then sx32 (if (lo32 x).toInt < (lo32 y).toInt then lo32 x else lo32 y) else if x.toInt < y.toInt then x else y)) ∧
    exec (.max w b a d) s = .next (s.gives 4 d
      (if w then sx32 (if (lo32 x).toInt < (lo32 y).toInt then lo32 y else lo32 x) else if x.toInt < y.toInt then y else x)) ∧
    exec (.minu w b a d) s = .next (s.gives 4 d
      (if w then sx32 (if (lo32 x).toNat < (lo32 y).toNat then lo32 x else lo32 y) else if x.toNat < y.toNat then x else y)) ∧
    exec (.maxu w b a d) s = .next (s.gives 4 d
      (if w then sx32 (if (lo32 x).toNat < (lo32 y).toNat then lo32 y else lo32 x) else if x.toNat < y.toNat then y else x)) ∧
    exec (.slt w b a d) s = .next (s.gives 4 d
      (if (if w then (lo32 x).toInt < (lo32 y).toInt else x.toInt < y.toInt) then 1 else 0)) ∧
    exec (.sltu w b a d) s = .next (s.gives 4 d
      (if (if w then (lo32 x).toNat < (lo32 y).toNat else x.toNat < y.toNat) then 1 else 0))) ∧
  (∀ (s : State) (b a d : Fin 32), s.alone →
    let x := s.me.reg a
    let y := s.me.reg b
    (exec (.div false b a d) s = .next (s.gives 4 d
      (if y = 0 then -1 else if x.toInt = -(2 ^ 63) ∧ y.toInt = -1 then x else BitVec.ofInt 64 (x.toInt.tdiv y.toInt)))) ∧
    (exec (.rem false b a d) s = .next (s.gives 4 d
      (if y = 0 then x else if x.toInt = -(2 ^ 63) ∧ y.toInt = -1 then 0 else BitVec.ofInt 64 (x.toInt.tmod y.toInt)))) ∧
    (exec (.divu false b a d) s = .next (s.gives 4 d (if y = 0 then -1 else BitVec.ofNat 64 (x.toNat / y.toNat)))) ∧
    (exec (.remu false b a d) s = .next (s.gives 4 d (if y = 0 then x else BitVec.ofNat 64 (x.toNat % y.toNat)))) ∧
    (exec (.div true b a d) s = .next (s.gives 4 d (sx32
      (if lo32 y = 0 then -1 else if (lo32 x).toInt = -(2 ^ 31) ∧ (lo32 y).toInt = -1 then lo32 x
        else BitVec.ofInt 32 ((lo32 x).toInt.tdiv (lo32 y).toInt))))) ∧
    (exec (.rem true b a d) s = .next (s.gives 4 d (sx32
      (if lo32 y = 0 then lo32 x else if (lo32 x).toInt = -(2 ^ 31) ∧ (lo32 y).toInt = -1 then 0
        else BitVec.ofInt 32 ((lo32 x).toInt.tmod (lo32 y).toInt))))) ∧
    (exec (.divu true b a d) s = .next (s.gives 4 d (sx32
      (if lo32 y = 0 then -1 else BitVec.ofNat 32 ((lo32 x).toNat / (lo32 y).toNat))))) ∧
    (exec (.remu true b a d) s = .next (s.gives 4 d (sx32
      (if lo32 y = 0 then lo32 x else BitVec.ofNat 32 ((lo32 x).toNat % (lo32 y).toNat))))))

/-- 07 R137, R140 to R142: the one-source operations of INT, the immediate forms, LUI and AUIPC write their result to gD,
and nothing else of the machine changes but the pc. Bit counts are said by what they count: the result r of CLZ is the
number with x < 2^(n − r) and, unless x is 0, x ≥ 2^(n − 1 − r); CLZ and CTZ of 0 are 64, and 32 in the W form. The address
that AUIPC adds to under a repeat, pc + 2, is the model's reading (assumption log 65). -/
def Obligations.UnaryAndImmediateResults : Prop :=
  ∀ (s : State) (a d : Fin 32), s.alone →
    let x := s.me.reg a
    (∃ r, exec (.clz false a d) s = .next (s.gives 4 d (BitVec.ofNat 64 r)) ∧ r ≤ 64 ∧ x.toNat < 2 ^ (64 - r) ∧
      (x ≠ 0 → r < 64 ∧ 2 ^ (63 - r) ≤ x.toNat) ∧ (x = 0 → r = 64)) ∧
    (∃ r, exec (.clz true a d) s = .next (s.gives 4 d (BitVec.ofNat 64 r)) ∧ r ≤ 32 ∧ (lo32 x).toNat < 2 ^ (32 - r) ∧
      (lo32 x ≠ 0 → r < 32 ∧ 2 ^ (31 - r) ≤ (lo32 x).toNat) ∧ (lo32 x = 0 → r = 32)) ∧
    (∃ r, exec (.ctz false a d) s = .next (s.gives 4 d (BitVec.ofNat 64 r)) ∧ r ≤ 64 ∧ 2 ^ r ∣ x.toNat ∧
      (x ≠ 0 → r < 64 ∧ x.toNat / 2 ^ r % 2 = 1) ∧ (x = 0 → r = 64)) ∧
    (∃ r, exec (.ctz true a d) s = .next (s.gives 4 d (BitVec.ofNat 64 r)) ∧ r ≤ 32 ∧ 2 ^ r ∣ (lo32 x).toNat ∧
      (lo32 x ≠ 0 → r < 32 ∧ (lo32 x).toNat / 2 ^ r % 2 = 1) ∧ (lo32 x = 0 → r = 32)) ∧
    (∀ w : Bool, exec (.popc w a d) s = .next (s.gives 4 d
      (BitVec.ofNat 64 (((List.range (if w then 32 else 64)).filter (fun k => x.getLsbD k)).length)))) ∧
    (exec (.sext 0 a d) s = .next (s.gives 4 d ((x.truncate 8).signExtend 64)) ∧
      exec (.sext 1 a d) s = .next (s.gives 4 d ((x.truncate 16).signExtend 64)) ∧
      exec (.sext 2 a d) s = .next (s.gives 4 d ((x.truncate 32).signExtend 64))) ∧
    (exec (.zext 0 a d) s = .next (s.gives 4 d ((x.truncate 8).zeroExtend 64)) ∧
      exec (.zext 1 a d) s = .next (s.gives 4 d ((x.truncate 16).zeroExtend 64)) ∧
      exec (.zext 2 a d) s = .next (s.gives 4 d ((x.truncate 32).zeroExtend 64))) ∧
    (∀ imm : BitVec 15,
      exec (.addi imm a d) s = .next (s.gives 4 d (x + imm.signExtend 64)) ∧
      exec (.andi imm a d) s = .next (s.gives 4 d (x &&& imm.signExtend 64)) ∧
      exec (.ori imm a d) s = .next (s.gives 4 d (x ||| imm.signExtend 64)) ∧
      exec (.xori imm a d) s = .next (s.gives 4 d (x ^^^ imm.signExtend 64)) ∧
      exec (.slti imm a d) s = .next (s.gives 4 d (if x.toInt < imm.toInt then 1 else 0)) ∧
      exec (.sltiu imm a d) s = .next (s.gives 4 d (if x.toNat < imm.toNat then 1 else 0))) ∧
    (∀ (w : Bool) (sh : BitVec 6),
      exec (.slli w sh a d) s = .next (s.gives 4 d
        (if w then sx32 (lo32 x <<< (sh.toNat % 32)) else x <<< sh.toNat)) ∧
      exec (.srli w sh a d) s = .next (s.gives 4 d
        (if w then sx32 (lo32 x >>> (sh.toNat % 32)) else x >>> sh.toNat)) ∧
      exec (.srai w sh a d) s = .next (s.gives 4 d
        (if w then sx32 ((lo32 x).sshiftRight (sh.toNat % 32)) else x.sshiftRight sh.toNat))) ∧
    (∀ imm : BitVec 20,
      exec (.lui imm d) s = .next (s.gives 4 d ((imm ++ 0#12).signExtend 64)) ∧
      exec (.auipc imm d) s = .next (s.gives 4 d
        ((if s.me.rep.isSome then s.me.pc + 2 else s.me.pc) + (imm ++ 0#12).signExtend 64)))

/-- 07 R143, R144, Table 07-4: a branch goes to pc + 2 × offset when its comparison holds and to the next instruction when
not, and writes no register; JAL and JALR write pc + 4 to gD (JALR reads gA first); a JALR to an odd address traps. -/
def Obligations.BranchesAndJumps : Prop :=
  ∀ (s : State) (b a d : Fin 32), s.alone →
    let x := s.me.reg a
    let y := s.me.reg b
    let pc := s.me.pc
    (∀ off : BitVec 12,
      let dest (c : Prop) [Decidable c] := pc + (if c then 2 * off.signExtend 64 else 4)
      exec (.beq off b a) s = .next (s.goes (dest (x = y)) 0 0) ∧
      exec (.bne off b a) s = .next (s.goes (dest (x ≠ y)) 0 0) ∧
      exec (.blt off b a) s = .next (s.goes (dest (x.toInt < y.toInt)) 0 0) ∧
      exec (.bge off b a) s = .next (s.goes (dest (y.toInt ≤ x.toInt)) 0 0) ∧
      exec (.bltu off b a) s = .next (s.goes (dest (x.toNat < y.toNat)) 0 0) ∧
      exec (.bgeu off b a) s = .next (s.goes (dest (y.toNat ≤ x.toNat)) 0 0)) ∧
    (∀ off : BitVec 20, exec (.jal off d) s = .next (s.goes (pc + 2 * off.signExtend 64) d (pc + 4))) ∧
    (∀ imm : BitVec 15,
      let t := x + imm.signExtend 64
      (t.toNat % 2 = 0 → exec (.jalr imm a d) s = .next (s.goes t d (pc + 4))) ∧
      (t.toNat % 2 = 1 → exec (.jalr imm a d) s = .next (s.takeTrap 4 { cause := .misalign, tval := t })))

/-- 07 R146, Table 07-5, 17 R317: the compact register and jump forms. `k` of C.ADDI, C.LI and the branches is signed, of
C.SLLI and C.SRAI unsigned; C.JR with link writes pc + 2 to lr (g1), reading gA first. C.NOP has no effect; C.YIELD
yields for the next 64 cycles. -/
def Obligations.CompactForms : Prop :=
  ∀ (s : State) (a d : Fin 32), s.alone →
    let x := s.me.reg a
    let z := s.me.reg d
    let pc := s.me.pc
    (exec (.cMv a d) s = .next (s.gives 2 d x) ∧
      exec (.cAdd a d) s = .next (s.gives 2 d (z + x)) ∧
      exec (.cSub a d) s = .next (s.gives 2 d (z - x)) ∧
      exec (.cAnd a d) s = .next (s.gives 2 d (z &&& x)) ∧
      exec .cNop s = .next (s.gives 2 0 0)) ∧
    (∀ k : BitVec 5,
      exec (.cAddi k d) s = .next (s.gives 2 d (z + k.signExtend 64)) ∧
      exec (.cLi k d) s = .next (s.gives 2 d (k.signExtend 64)) ∧
      exec (.cSlli k d) s = .next (s.gives 2 d (z <<< k.toNat)) ∧
      exec (.cSrai k d) s = .next (s.gives 2 d (z.sshiftRight k.toNat)) ∧
      exec (.cBeqz k d) s = .next (s.goes (pc + (if z = 0 then 2 * k.signExtend 64 else 2)) 0 0) ∧
      exec (.cBnez k d) s = .next (s.goes (pc + (if z ≠ 0 then 2 * k.signExtend 64 else 2)) 0 0)) ∧
    (∀ off : BitVec 10, exec (.cJ off) s = .next (s.goes (pc + 2 * off.signExtend 64) 0 0)) ∧
    (∀ link : Bool,
      (x.toNat % 2 = 0 → exec (.cJr a link) s = .next (s.goes x (if link then 1 else 0) (pc + 2))) ∧
      (x.toNat % 2 = 1 → exec (.cJr a link) s = .next (s.takeTrap 2 { cause := .misalign, tval := x }))) ∧
    (∃ t, exec .cYield s = .next t ∧ t.me = ({ s.me with yieldUntil := s.cycle + 65 } : Ctx).after 2 ∧ t.mem = s.mem ∧
      t.clusters = s.clusters ∧ s.tablesKept t)

/-- 08 R155, R156, 07 R146: a load of a byte, halfword, word or doubleword from scratch whose checks pass reads the
little-endian number at its address and extends it to gT; nothing else of the machine changes but the pc. 02 R36, 08
R156: an LDD, with an offset or compact, of a versioned word reads CUR, and no other load size reaches it. -/
def Obligations.Loads : Prop :=
  (∀ (s : State) (off : BitVec 7) (sc : BitVec 3) (acq : Bool) (a t : Fin 32), s.alone →
    (∀ (i : Instr) (n : Nat) (sx : Bool),
      (i, n, sx) ∈ [(Instr.ldb off sc acq a t, 1, true), (.ldbu off sc acq a t, 1, false), (.ldh off sc acq a t, 2, true),
        (.ldhu off sc acq a t, 2, false), (.ldw off sc acq a t, 4, true), (.ldwu off sc acq a t, 4, false),
        (.ldd off sc acq a t, 8, false)] →
      let addr := s.me.reg a + off.signExtend 64 * BitVec.ofNat 64 n
      s.reaches addr n → s.clean addr n →
      exec i s = .next (s.gives 4 t (if sx then BitVec.ofInt 64 (toSigned (8 * n) (s.load (s.keyOf addr) n))
        else BitVec.ofNat 64 (s.load (s.keyOf addr) n)))) ∧
    (∀ addr : Word, addr = s.me.reg a →
      (s.reaches addr 8 → s.clean addr 8 → exec (.cLdd a t) s = .next (s.gives 2 t (BitVec.ofNat 64 (s.load (s.keyOf addr) 8)))) ∧
      (s.reaches addr 4 → s.clean addr 4 →
        exec (.cLdw a t) s = .next (s.gives 2 t ((BitVec.ofNat 32 (s.load (s.keyOf addr) 4)).signExtend 64))))) ∧
  (∀ (s : State) (off : BitVec 7) (sc : BitVec 3) (acq : Bool) (a t : Fin 32), s.alone →
    (s.reachesV (s.me.reg a + off.signExtend 64 * 8) →
      exec (.ldd off sc acq a t) s = .next (s.gives 4 t (s.vwordAt (s.me.reg a + off.signExtend 64 * 8)).cur)) ∧
    (s.reachesV (s.me.reg a) → exec (.cLdd a t) s = .next (s.gives 2 t (s.vwordAt (s.me.reg a)).cur)) ∧
    (∀ (i : Instr) (n : Nat),
      (i, n) ∈ [(Instr.ldb off sc acq a t, 1), (.ldbu off sc acq a t, 1), (.ldh off sc acq a t, 2),
        (.ldhu off sc acq a t, 2), (.ldw off sc acq a t, 4), (.ldwu off sc acq a t, 4)] →
      let addr := s.me.reg a + off.signExtend 64 * BitVec.ofNat 64 n
      0x20000000 ≤ addr.toNat → exec i s = .next (s.takeTrap 4 { cause := .scratchRange, tval := addr })) ∧
    (0x20000000 ≤ (s.me.reg a).toNat →
      exec (.cLdw a t) s = .next (s.takeTrap 2 { cause := .scratchRange, tval := s.me.reg a })))

/-- 08 R155, R157, 07 R146: a store whose checks pass writes the low bytes of gT little-endian at its address (the byte
address after the publish table, 11 R254), and its frame: no other byte of memory, register, flag or table changes. -/
def Obligations.ScratchStores : Prop :=
  ∀ (s : State) (off : BitVec 7) (sc : BitVec 3) (rel : Bool) (a t : Fin 32), s.alone → s.memOk →
    ∀ (i : Instr) (n len : Nat) (addr : Word),
      (i, n, len, addr) ∈ [(Instr.stb off sc rel a t, 1, 4, s.me.reg a + off.signExtend 64),
        (.sth off sc rel a t, 2, 4, s.me.reg a + off.signExtend 64 * 2),
        (.stw off sc rel a t, 4, 4, s.me.reg a + off.signExtend 64 * 4),
        (.std off sc rel a t, 8, 4, s.me.reg a + off.signExtend 64 * 8),
        (.cStw a t, 4, 2, s.me.reg a), (.cStd a t, 8, 2, s.me.reg a)] →
      s.reaches addr n →
      ∃ u : State, exec i s = .next u ∧ u.load (s.keyOf addr) n = (s.me.reg t).toNat % 2 ^ (8 * n) ∧
        s.memoryKept u (s.phys (s.keyOf addr)) n ∧ u.me = s.me.after len ∧ u.clusters = s.clusters ∧ s.tablesKept u

/-- 08 R155: a scalar load or store, compact ones too, that fails its checks traps on the first that fails, in their order,
with the address as TVAL: SCRATCH_RANGE outside the windows or the panel, then PRIV in U mode outside the user range, then
MISALIGN. 02 R36, 08 R164: an 8-byte load of the versioned store traps so on a word of another panel, then on its alignment.
20 Table 20-3: a load that passes them and meets an uncorrectable error raises UNCORRECTABLE, with a TVAL that no rule
states (assumption log 3). -/
def Obligations.AccessTrapsInOrder : Prop :=
  ∀ (s : State) (off : BitVec 7) (sc : BitVec 3) (o : Bool) (a t : Fin 32), s.alone →
    let x := s.me.reg a
    let at_ (n : Nat) := x + off.signExtend 64 * BitVec.ofNat 64 n
    let stops (i : Instr) (len : Nat) (c : Cause) (addr : Word) := exec i s = .next (s.takeTrap len { cause := c, tval := addr })
    (∀ (i : Instr) (rd : Bool) (n len : Nat) (addr : Word),
      (i, rd, n, len, addr) ∈ [(Instr.ldb off sc o a t, true, 1, 4, at_ 1), (.ldbu off sc o a t, true, 1, 4, at_ 1),
        (.ldh off sc o a t, true, 2, 4, at_ 2), (.ldhu off sc o a t, true, 2, 4, at_ 2), (.ldw off sc o a t, true, 4, 4, at_ 4),
        (.ldwu off sc o a t, true, 4, 4, at_ 4), (.ldd off sc o a t, true, 8, 4, at_ 8), (.cLdw a t, true, 4, 2, x),
        (.cLdd a t, true, 8, 2, x), (.stb off sc o a t, false, 1, 4, at_ 1), (.sth off sc o a t, false, 2, 4, at_ 2),
        (.stw off sc o a t, false, 4, 4, at_ 4), (.std off sc o a t, false, 8, 4, at_ 8), (.cStw a t, false, 4, 2, x),
        (.cStd a t, false, 8, 2, x)] →
      let inside := addr.toNat < 2 ^ 29 ∧ s.inPanel (s.keyOf addr / 2 ^ 19) = true
      let mine := s.permits (s.keyOf addr) (min n (2 ^ 19 - s.keyOf addr % 2 ^ 19))
      (¬inside → ¬(rd = true ∧ n = 8 ∧ 0x20000000 ≤ addr.toNat ∧ addr.toNat ≤ 0x2000FFFF) → stops i len .scratchRange addr) ∧
      (inside → mine = false → stops i len .priv addr) ∧
      (inside → mine = true → addr.toNat % n ≠ 0 → stops i len .misalign addr) ∧
      (inside → mine = true → addr.toNat % n = 0 → rd = true → ¬s.clean addr n → ∃ v, stops i len .uncorrectable v)) ∧
    (∀ (i : Instr) (len : Nat) (addr : Word), (i, len, addr) ∈ [(Instr.ldd off sc o a t, 4, at_ 8), (.cLdd a t, 2, x)] →
      0x20000000 ≤ addr.toNat → addr.toNat ≤ 0x2000FFFF →
      let mine := s.inPanel (s.clus * 64 + (addr.toNat - 0x20000000) / 8 / 128)
      (mine = false → stops i len .scratchRange addr) ∧ (mine = true → addr.toNat % 8 ≠ 0 → stops i len .misalign addr))

/-- 08 R159 to R161, Table 08-2: an AMO whose checks pass and whose lock bit is free or the context's own reads the word, writes the new value
and gives the old one, sign-extended in the 32-bit form; AMOCAS writes only where the word equals gD; AMOFADD adds in
FP32, rounded to nearest even, one lane or two, and ORs its flags. No other byte of memory changes. -/
def Obligations.AtomicResults : Prop :=
  ∀ (s : State) (sc ord : BitVec 2) (b a d : Fin 32), s.alone → s.memOk →
    let addr := s.me.reg a
    let y := s.me.reg b
    let c := s.me.reg d
    let key := s.keyOf addr
    (s.reaches addr 8 → s.clean addr 8 → s.holding (key / 2 ^ 19) (lockOf key) = true ∨ s.lockFree key →
      let old := BitVec.ofNat 64 (s.load key 8)
      let lo := addCodes fp32 .rne (lo32 old).toNat (lo32 y).toNat
      let hi := addCodes fp32 .rne (old.toNat / 2 ^ 32) (y.toNat / 2 ^ 32)
      ∀ (i : Instr) (new : Word) (f : Fl),
        (i, new, f) ∈ [(Instr.amoadd sc ord true b a d, old + y, 0), (.amoand sc ord true b a d, old &&& y, 0),
          (.amoor sc ord true b a d, old ||| y, 0), (.amoxor sc ord true b a d, old ^^^ y, 0),
          (.amomin sc ord true b a d, if old.toInt < y.toInt then old else y, 0),
          (.amomax sc ord true b a d, if old.toInt < y.toInt then y else old, 0),
          (.amominu sc ord true b a d, if old.toNat < y.toNat then old else y, 0),
          (.amomaxu sc ord true b a d, if old.toNat < y.toNat then y else old, 0),
          (.amoswp sc ord true b a d, y, 0), (.amocas sc ord true b a d, if old = c then y else old, 0),
          (.amofadd sc ord true b a d, BitVec.ofNat 64 (hi.1 * 2 ^ 32 + lo.1), lo.2 ||| hi.2)] →
        ∃ u : State, exec i s = .next u ∧ u.load key 8 = new.toNat ∧ s.memoryKept u (s.phys key) 8 ∧
          u.me = (({ s.me with flags := s.me.flags ||| f } : Ctx).put d old).after 4 ∧ s.tablesKept u) ∧
    (s.reaches addr 4 → s.clean addr 4 → s.holding (key / 2 ^ 19) (lockOf key) = true ∨ s.lockFree key →
      let old := BitVec.ofNat 32 (s.load key 4)
      let lo := addCodes fp32 .rne old.toNat (lo32 y).toNat
      ∀ (i : Instr) (new : BitVec 32) (f : Fl),
        (i, new, f) ∈ [(Instr.amoadd sc ord false b a d, old + lo32 y, 0), (.amoand sc ord false b a d, old &&& lo32 y, 0),
          (.amoor sc ord false b a d, old ||| lo32 y, 0), (.amoxor sc ord false b a d, old ^^^ lo32 y, 0),
          (.amomin sc ord false b a d, if old.toInt < (lo32 y).toInt then old else lo32 y, 0),
          (.amomax sc ord false b a d, if old.toInt < (lo32 y).toInt then lo32 y else old, 0),
          (.amominu sc ord false b a d, if old.toNat < (lo32 y).toNat then old else lo32 y, 0),
          (.amomaxu sc ord false b a d, if old.toNat < (lo32 y).toNat then lo32 y else old, 0),
          (.amoswp sc ord false b a d, lo32 y, 0), (.amocas sc ord false b a d, if old = lo32 c then lo32 y else old, 0),
          (.amofadd sc ord false b a d, BitVec.ofNat 32 lo.1, lo.2)] →
        ∃ u : State, exec i s = .next u ∧ u.load key 4 = new.toNat ∧ s.memoryKept u (s.phys key) 4 ∧
          u.me = (({ s.me with flags := s.me.flags ||| f } : Ctx).put d (old.signExtend 64)).after 4 ∧ s.tablesKept u)

/-- 08 R162, 02 R38 to R40: LDL takes the word's lock bit and loads it (sign-extended in the 32-bit form); STU by the
holder writes and releases it; an LDL, STU or AMO of a word whose lock bit another context holds waits, leaving memory as
it is. -/
def Obligations.LockedAccess : Prop :=
  ∀ (s : State) (sc ord : BitVec 2) (o : Bool) (b a d : Fin 32), s.alone → s.memOk →
    ∀ dw : Bool,
      let n := if dw then 8 else 4
      let addr := s.me.reg a
      let key := s.keyOf addr
      let core := key / 2 ^ 19
      s.reaches addr n →
      (s.clean addr n → s.lockFree key ∨ s.holding core (lockOf key) = true →
        ∃ u : State, exec (.ldl sc o dw a d) s = .next u ∧ u.mem = s.mem ∧ u.holding core (lockOf key) = true ∧
          u.me = (s.me.put d (if dw then BitVec.ofNat 64 (s.load key 8)
            else (BitVec.ofNat 32 (s.load key 4)).signExtend 64)).after 4 ∧ s.tablesKept u) ∧
      (s.holding core (lockOf key) = true ∨ s.lockFree key →
        ∃ u : State, exec (.stu sc o dw b a) s = .next u ∧ u.load key n = (s.me.reg b).toNat % 2 ^ (8 * n) ∧
          s.memoryKept u (s.phys key) n ∧ u.holding core (lockOf key) = false ∧ u.me = s.me.after 4 ∧ s.tablesKept u) ∧
      (s.holding core (lockOf key) = false → (∃ l ∈ (s.core core).locks, l.1 = lockOf key) →
        (exec (.stu sc o dw b a) s = .next (s.waits (.stu sc o dw b a) (.lock core (lockOf key)))) ∧
        (s.clean addr n → ∀ i ∈ [Instr.ldl sc o dw a d, .amoadd sc ord dw b a d, .amoand sc ord dw b a d, .amoor sc ord dw b a d,
            .amoxor sc ord dw b a d, .amomin sc ord dw b a d, .amomax sc ord dw b a d, .amominu sc ord dw b a d,
            .amomaxu sc ord dw b a d, .amoswp sc ord dw b a d, .amocas sc ord dw b a d, .amofadd sc ord dw b a d],
          exec i s = .next (s.waits i (.lock core (lockOf key)))))

/-- 08 R165 to R168, 02 R35: LDV gives the value of a live version, STV publishes the next one when the previous is
reclaimed, VRCL reclaims the previous version when it is the named one, VPROBE reads the version and PLIVE; a version
that is gone traps VERSION_RECLAIMED, one that is not published yet is waited for, and an STV that skips one traps
VERSION_ORDER. -/
def Obligations.VersionedWords : Prop :=
  ∀ (s : State) (b a d : Fin 32), s.alone →
    let addr := s.me.reg a
    let n : BitVec 16 := (s.me.reg b).truncate 16
    let i := (addr.toNat - 0x20000000) / 8
    let x := s.vwordAt addr
    s.reachesV addr →
    (n = x.ver → exec (.ldv b a d) s = .next (s.gives 4 d x.cur)) ∧
    (n = x.ver - 1 → x.plive = true → exec (.ldv b a d) s = .next (s.gives 4 d x.prev)) ∧
    (n ≠ x.ver → ¬(n = x.ver - 1 ∧ x.plive = true) → (x.ver - n).toNat ≤ 32768 →
      exec (.ldv b a d) s = .next (s.takeTrap 4 { cause := .versionReclaimed, tval := addr, late := true })) ∧
    (32768 < (x.ver - n).toNat → ¬(n = x.ver - 1 ∧ x.plive = true) →
      exec (.ldv b a d) s = .next (s.waits (.ldv b a d) (.version s.clus i x.ver))) ∧
    (x.plive = false → s.first (.plive s.clus i) = true →
      (n = x.ver + 1 → ∃ u : State, exec (.stv b a d) s = .next u ∧ u.me = s.me.after 4 ∧ u.mem = s.mem ∧ s.tablesKept u ∧
        u.vword s.clus i = { ver := n, cur := s.me.reg d, prev := x.cur, plive := true }) ∧
      (n ≠ x.ver + 1 → exec (.stv b a d) s = .next (s.takeTrap 4 { cause := .versionOrder, tval := addr, late := true }))) ∧
    (x.plive = true → exec (.stv b a d) s = .next (s.waits (.stv b a d) (.plive s.clus i))) ∧
    (∃ u : State, exec (.vrcl b a) s = .next u ∧ u.me = s.me.after 4 ∧ u.mem = s.mem ∧ s.tablesKept u ∧
      u.vword s.clus i = (if x.plive = true ∧ n = x.ver - 1 then { x with plive := false } else x)) ∧
    exec (.vprobe a d) s = .next (s.gives 4 d (BitVec.ofNat 64 (x.ver.toNat + if x.plive then 65536 else 0)))

/-- 08 R170 to R178: FENCE and FENCE.I go on; FENCE.E goes on once every engine command that the context issued has read its
sources, the payloads of its messages read too, and waits until then; BARARV arrives and gives the phase, and the arrival that completes the count starts the next
phase; BARWAIT of another phase goes on with the merged flags, and of the present one waits; MARM arms the monitor on the
line of its address; MWAIT gives the smallest reason that holds, 0 with no monitor armed, and with none that holds waits. That
FENCE and FENCE.I wait for nothing comes of the model's one order of accesses (assumption log 6); the reason of an early
return is a free value (assumption log 71). -/
def Obligations.FencesBarriersMonitor : Prop :=
  ∀ (s : State) (sc : BitVec 3) (b a d : Fin 32), s.alone →
    (exec (.fence sc) s = .next (s.gives 4 0 0) ∧ exec .fenceI s = .next (s.gives 4 0 0)) ∧
    (s.holds s.at_ s.slot .sources = true → exec (.fenceE sc) s = .next (s.readOut.gives 4 0 0)) ∧
    (s.holds s.at_ s.slot .sources = false → exec (.fenceE sc) s = .next (s.waits (.fenceE sc) .sources)) ∧
    (∀ p, s.myPanel = some p →
      let k := barNum (s.me.reg a)
      let r := p.bars[k]
      (∃ u : State, exec (.bararv a d) s = .next u ∧ u.me = (s.me.put d (r.phase.zeroExtend 64)).after 4 ∧ u.mem = s.mem ∧
        (∀ q ∈ u.panels, q.num = p.num →
          (r.arrived.toNat + 1 < max r.count.toNat 1 →
            q.bars[k] = { r with arrived := r.arrived + 1, merge := r.merge ||| s.me.flags }) ∧
          (max r.count.toNat 1 ≤ r.arrived.toNat + 1 →
            q.bars[k] = { r with arrived := 0, merge := 0, last := r.merge ||| s.me.flags, phase := r.phase + 1 }))) ∧
      (r.phase ≠ (s.me.reg b).truncate 4 → exec (.barwait b a d) s = .next (s.gives 4 d (r.last.zeroExtend 64))) ∧
      (r.phase = (s.me.reg b).truncate 4 →
        exec (.barwait b a d) s = .next (s.waits (.barwait b a d) (.barrier p.num k r.phase)))) ∧
    (s.reaches (s.me.reg a) 1 →
      exec (.marm a) s = .next (s.onMe 4 (fun x => { x with mon := some { line := s.keyOf (s.me.reg a) / 64 } }))) ∧
    (s.me.mon = none → exec (.mwait a d) s = .next (s.gives 4 d 0)) ∧
    (∀ m, s.me.mon = some m → m.wrote = true →
      exec (.mwait a d) s = .next (s.onMe 4 (fun x => ({ x with mon := none } : Ctx).put d 1))) ∧
    (∀ m, s.me.mon = some m → m.wrote = false →
      (∀ w t, s.me.wait = some w → w.on = .monitor (some t) → t ≤ s.cycle →
        exec (.mwait a d) s = .next (s.onMe 4 (fun x => ({ x with mon := none } : Ctx).put d 2))) ∧
      (m.posted = true → s.me.wait = none →
        exec (.mwait a d) s = .next (s.onMe 4 (fun x => ({ x with mon := none } : Ctx).put d 3))) ∧
      (m.posted = false → s.me.wait = none →
        (m.early = false → exec (.mwait a d) s = .next (s.waits (.mwait a d)
          (.monitor (if s.me.reg a = 0 then none else some (s.cycle + (s.me.reg a).toNat))))) ∧
        (m.early = true → ∃ (u : State) (v : Word), exec (.mwait a d) s = .next u ∧ v.toNat < 4 ∧
          u.me = (({ s.me with mon := none } : Ctx).put d v).after 4 ∧ u.mem = s.mem ∧ s.tablesKept u)))

/-- 07 R147, R149, R153, R154, Table 07-8, 17 R301, Tables 17-1 to 17-3, 03 Table 03-13, 18 Table 18-3, 20 Table 20-2: MFC
gives the value of each control register; a number from 0x100 up needs S mode, and one that names no register reads 0. -/
def Obligations.ControlRegisterReads : Prop :=
  ∀ (s : State) (d : Fin 32), s.alone →
    let cl := s.cluster s.clus
    let k := s.mine
    (∀ (n : BitVec 10) (v : Word),
      (n, v) ∈ [(0x000#10, s.me.flags.zeroExtend 64), (0x001#10, s.me.frm.zeroExtend 64), (0x002#10, s.me.mfmt.zeroExtend 64),
        (0x003#10, s.me.f8sel.zeroExtend 64), (0x004#10, s.me.hkey.zeroExtend 64),
        (0x005#10, BitVec.ofNat 64 (s.at_ * 8 + s.slot.val)), (0x006#10, k.panelId.zeroExtend 64),
        (0x007#10, BitVec.ofNat 64 s.cycle), (0x008#10, k.fitness.zeroExtend 64), (0x009#10, k.fitgen.zeroExtend 64),
        (0x00A#10, k.actfcst),
        (0x00C#10, match s.me.rep with | some r => BitVec.ofNat 64 (r.n - 1 - r.idx) | none => 0),
        (0x00D#10, BitVec.ofNat 64 (cl.tasks.length * 2 ^ 55 + cl.tqTail.toNat * 2 ^ 42 + cl.tqHead.toNat * 2 ^ 29 +
          cl.tqSize.toNat * 2 ^ 25 + cl.tqBase.toNat)),
        (0x00E#10, cl.tdcfg), (0x00F#10, s.pkgid.zeroExtend 64)] →
      exec (.mfc n d) s = .next (s.gives 4 d v)) ∧
    exec (.flagsRead d) s = .next (s.gives 4 d (s.me.flags.zeroExtend 64)) ∧
    (∀ w : Fin 16, w ≠ 0 →
      exec (.mfc (BitVec.ofNat 10 (0x10 + w.val)) d) s = .next (s.gives 4 d (s.me.winfmt[w].zeroExtend 64)) ∧
      exec (.mfc (BitVec.ofNat 10 (0x20 + w.val)) d) s = .next (s.gives 4 d s.me.winscale[w])) ∧
    (∀ c : Fin 64, exec (.mfc (BitVec.ofNat 10 (0x40 + c.val)) d) s = .next (s.gives 4 d k.routine[c])) ∧
    (∀ p, s.myPanel = some p →
      let b := p.bars[p.barIdx]
      exec (.mfc 0x00B d) s = .next (s.gives 4 d (BitVec.ofNat 64
        (b.count.toNat + b.arrived.toNat * 2 ^ 32 + b.phase.toNat * 2 ^ 48 + p.barIdx.val * 2 ^ 52))) ∧
      (s.me.mode = true →
        exec (.mfc 0x109 d) s = .next (s.gives 4 d (BitVec.ofNat 64
          (p.state * 2 ^ 38 + p.pfloor * 2 ^ 32 + p.w * 2 ^ 24 + p.h * 2 ^ 16 + p.x0 * 2 ^ 8 + p.y0))) ∧
        exec (.mfc 0x10B d) s = .next (s.gives 4 d p.savecur))) ∧
    (s.me.mode = true → ∀ (n : BitVec 10) (v : Word),
      (n, v) ∈ [(0x100#10, BitVec.ofNat 64 (min 47 (s.me.age / 1024) * 65536 + s.me.iprio.toNat * 256 +
          (if s.me.pmode then 2 else 0) + (if s.me.mode then 1 else 0))),
        (0x101#10, k.tvec), (0x102#10, s.me.tcause.zeroExtend 64), (0x103#10, s.me.tval),
        (0x104#10, BitVec.ofNat 64 (s.at_ % 64 * 2 ^ 19 + 0x78000 + 0x400 * s.slot.val)),
        (0x105#10, s.me.epc), (0x106#10, k.ptbase), (0x107#10, k.asid.zeroExtend 64), (0x108#10, k.rxctx.zeroExtend 64),
        (0x10A#10, BitVec.ofNat 64 ((if k.score.due = true ∨ (∃ b ∈ k.banks.toList, b.due = true) then 2 ^ 34 else 0) +
          (if k.score.passed then 2 ^ 32 else 0) + k.banks.toList.foldl (fun m b => max m b.value.toNat) 0 * 2 ^ 16 +
          k.score.value.toNat))] →
      exec (.mfc n d) s = .next (s.gives 4 d v)) ∧
    (∀ n : BitVec 10, n.toNat = 0x10 ∨ n.toNat = 0x20 ∨ (0x30 ≤ n.toNat ∧ n.toNat ≤ 0x3F) ∨ (0x80 ≤ n.toNat ∧ n.toNat ≤ 0xFF) ∨
        (0x10C ≤ n.toNat ∧ s.me.mode = true) →
      exec (.mfc n d) s = .next (s.gives 4 d 0)) ∧
    (s.me.mode = false → ∀ n : BitVec 10, 0x100 ≤ n.toNat → exec (.mfc n d) s =
      .next (s.takeTrap 4 { cause := .priv, tval := BitVec.ofNat 64 (Instr.word (.mfc n d)) }))

/-- 07 R147 to R149, Tables 07-6, 07-8, 17 R301, R302, 18 Table 18-3, 03 Table 03-4: MTC writes each register of the context
and of its core through its fields' access, MSETB and MCLRB write the old value OR, or AND NOT, gA and give the old value; the
event rows of a control register's write are these writes; a register without a writable field, and a number that names none,
stay as they are, and a number from 0x100 up raises PRIV in U mode. Nothing else of the machine changes. -/
def Obligations.ControlRegisterWrites : Prop :=
  ∀ (s : State) (a d : Fin 32), s.alone →
    let v := s.me.reg a
    let goes (t : State) (x : Ctx) := Host.Outcome.next (t.setMe (x.after 4))
    let writes (n : BitVec 10) (set : Word → State) := let old := s.readCR n.toNat
      (∀ i ∈ [Instr.mtc n a, .controlRegisterWrite .mtc n a d], exec i s = goes (set v) (set v).me) ∧
      (∀ i ∈ [Instr.msetb n a d, .controlRegisterWrite .msetb n a d],
        exec i s = goes (set (old ||| v)) ((set (old ||| v)).me.put d old)) ∧
      (∀ i ∈ [Instr.mclrb n a d, .controlRegisterWrite .mclrb n a d],
        exec i s = goes (set (old &&& ~~~v)) ((set (old &&& ~~~v)).me.put d old))
    let onCtx (f : Word → Ctx → Ctx) (v : Word) := s.setMe (f v s.me)
    let onCore (f : Word → Core → Core) (v : Word) := s.setMine (f v s.mine)
    (∀ (n : BitVec 10) (f : Word → Ctx → Ctx),
      (n, f) ∈ [(0x000#10, fun v x => { x with flags := v.truncate 6 }), (0x001#10, fun v x => { x with frm := v.truncate 2 }),
        (0x002#10, fun v x => { x with mfmt := v.truncate 6 }), (0x003#10, fun v x => { x with f8sel := v.truncate 5 }),
        (0x004#10, fun v x => { x with hkey := v.truncate 10 })] → writes n (onCtx f)) ∧
    (exec (.flagsWrite .mtc a d) s = .next (s.onMe 4 (fun x => { x with flags := v.truncate 6 })) ∧
      exec (.flagsWrite .msetb a d) s = .next (s.onMe 4 (fun x =>
        ({ x with flags := x.flags ||| v.truncate 6 } : Ctx).put d (x.flags.zeroExtend 64))) ∧
      exec (.flagsWrite .mclrb a d) s = .next (s.onMe 4 (fun x =>
        ({ x with flags := x.flags &&& ~~~v.truncate 6 } : Ctx).put d (x.flags.zeroExtend 64)))) ∧
    (∀ w : Fin 16, w ≠ 0 →
      writes (BitVec.ofNat 10 (0x10 + w.val)) (onCtx (fun v x => { x with winfmt := x.winfmt.set w (v.truncate 10) })) ∧
      writes (BitVec.ofNat 10 (0x20 + w.val)) (onCtx (fun v x => { x with winscale := x.winscale.set w v }))) ∧
    (∀ c : Fin 64, writes (BitVec.ofNat 10 (0x40 + c.val))
      (onCore (fun v k => { k with routine := k.routine.set c (v &&& 0x800003FFFDFFFFFF) }))) ∧
    (s.me.mode = true →
      (∀ (n : BitVec 10) (f : Word → Ctx → Ctx),
        (n, f) ∈ [(0x100#10, fun v x => { x with iprio := BitVec.ofNat 6 (v.toNat / 256 % 64), pmode := v.getLsbD 1 }),
          (0x102#10, fun v x => { x with tcause := v.truncate 17 }), (0x103#10, fun v x => { x with tval := v }),
          (0x105#10, fun v x => { x with epc := v &&& ~~~1 })] → writes n (onCtx f)) ∧
      (∀ (n : BitVec 10) (f : Word → Core → Core),
        (n, f) ∈ [(0x101#10, fun v k => { k with tvec := v &&& 0x1FFFFFE }),
          (0x106#10, fun v k => { k with ptbase := v &&& 0x7FFFFFFFE001 }), (0x107#10, fun v k => { k with asid := v.truncate 16 }),
          (0x108#10, fun v k => { k with rxctx := v.truncate 8 })] → writes n (onCore f))) ∧
    (∀ n : BitVec 10, n.toNat ∈ [0x005, 0x006, 0x007, 0x008, 0x009, 0x00A, 0x00C, 0x00F, 0x010, 0x020] ∨
        (0x30 ≤ n.toNat ∧ n.toNat ≤ 0x3F) ∨ (0x80 ≤ n.toNat ∧ n.toNat ≤ 0xFF) ∨
        (s.me.mode = true ∧ (n.toNat ∈ [0x104, 0x109, 0x10A, 0x10B] ∨ 0x10C ≤ n.toNat)) → writes n (fun _ => s)) ∧
    (s.me.mode = false → ∀ n : BitVec 10, 0x100 ≤ n.toNat → ∀ i ∈ [Instr.mtc n a, .msetb n a d, .mclrb n a d], exec i s =
      .next (s.takeTrap 4 { cause := .priv, tval := BitVec.ofNat 64 i.word }))

/-- 03 R64, R66, R70, 08 R173, 07 R148: a write of BARCFG, TQCFG or TDCFG, by MTC, MSETB or MCLRB. BARCFG selects a barrier,
sets its COUNT and clears its arrivals. In a cluster that is the panel's own, TDCFG sets the deal and starts it at the first
sub-tile; TQCFG sets the ring, or raises QUEUE_MISUSE while the queue or the ring holds a record or SIZE is past 12, then
SCRATCH_RANGE for a ring outside the user range of one core of the panel, then MISALIGN. In a shared cluster TQCFG and TDCFG
raise QUEUE_MISUSE. That SIZE 0 has no range to check is the model's reading (assumption log 81). -/
def Obligations.QueueAndBarrierConfiguration : Prop :=
  ∀ (s : State) (a d : Fin 32) (p : Panel) (op : CtrlOp), s.alone → s.myPanel = some p →
    let v := s.me.reg a
    let word (n : BitVec 10) := match op with
      | .mtc => v
      | .msetb => s.readCR n.toNat ||| v
      | .mclrb => s.readCR n.toNat &&& ~~~v
    let left (n : BitVec 10) := (match op with | .mtc => s.me | _ => s.me.put d (s.readCR n.toNat)).after 4
    let form (n : BitVec 10) := match op with
      | .mtc => Instr.mtc n a
      | .msetb => .msetb n a d
      | .mclrb => .mclrb n a d
    let stops (i : Instr) (n : BitVec 10) := exec i s =
      .next (s.takeTrap 4 { cause := .queueMisuse, tval := BitVec.ofNat 64 (form n).word })
    let cl := s.cluster s.clus
    (∀ i ∈ [Instr.barcfgWrite op a d, form 0x00B], ∃ u : State, exec i s = .next u ∧ u.me = left 0x00B ∧ u.mem = s.mem ∧
      u.clusters = s.clusters ∧ ∀ q ∈ u.panels, (q.num ≠ p.num → q ∈ s.panels) ∧
        (q.num = p.num → q.barIdx.val = (word 0x00B).toNat / 2 ^ 52 % 16 ∧ q.bars = p.bars.set q.barIdx
          { p.bars[q.barIdx] with count := (word 0x00B).truncate 16, arrived := 0, merge := 0 })) ∧
    (p.hasCluster s.clus = true →
      (∀ i ∈ [Instr.tdcfgWrite op a d, form 0x00E], ∃ u : State, exec i s = .next u ∧ u.me = left 0x00E ∧ u.mem = s.mem ∧ s.tablesKept u ∧
        u.cluster s.clus = { cl with tdcfg := BitVec.ofNat 64 ((word 0x00E).toNat % 2 ^ 49), tdPos := 0 }) ∧
      (∀ i ∈ [Instr.tqcfgWrite op a d, form 0x00D],
        let size := (word 0x00D).toNat / 2 ^ 25 % 16
        let base := (word 0x00D).toNat % 2 ^ 25
        let free := cl.tasks = [] ∧ cl.ringLen = 0 ∧ size ≤ 12
        let fits := size = 0 ∨ (s.inPanel (s.clus * 64 + base / 2 ^ 19) = true ∧ base % 2 ^ 19 + 64 * 2 ^ size ≤ 0x70000)
        (¬free → stops i 0x00D) ∧
        (free → ¬fits → exec i s = .next (s.takeTrap 4 { cause := .scratchRange, tval := BitVec.ofNat 64 base })) ∧
        (free → fits → base % 64 ≠ 0 → exec i s = .next (s.takeTrap 4 { cause := .misalign, tval := BitVec.ofNat 64 base })) ∧
        (free → fits → base % 64 = 0 → ∃ u : State, exec i s = .next u ∧ u.me = left 0x00D ∧ u.mem = s.mem ∧ s.tablesKept u ∧
          u.cluster s.clus = { cl with
            tqSize := BitVec.ofNat 4 size, tqBase := BitVec.ofNat 25 base, tqHead := 0, tqTail := 0 }))) ∧
    (p.hasCluster s.clus = false → (∀ i ∈ [Instr.tdcfgWrite op a d, form 0x00E], stops i 0x00E) ∧
      ∀ i ∈ [Instr.tqcfgWrite op a d, form 0x00D], stops i 0x00D)

/-- 18 R331, R339, Table 18-6: TRAP and BREAK in U mode take their trap: EPC is the instruction after (bit 0 zero), TCAUSE and
TVAL say why, PMODE is U, the mode S, the pc the handler's address, the lock bits are released and the monitor disarmed, and
the record in memory holds the header (EPC, the cause, TVAL, FLAGS, STATUS, TIME, and zero for what has no part in it) and the
general registers; no byte outside the record changes. 18 R333, R339: a trap in S mode writes no record and no byte of memory:
it sets EPC, TCAUSE, TVAL and PMODE and goes to the handler's address. -/
def Obligations.TrapEntry : Prop :=
  (∀ (s : State) (a : Fin 32), s.alone → s.memOk → s.me.mode = false →
    (∀ k < 0x300, s.phys (s.recKey + k) = s.recKey + k) →
    ∀ (i : Instr) (code : Nat), (i, code) ∈ [(Instr.trap a, 0x0F), (.brk a, 0x0E)] →
      let epc := (s.me.pc + 4) &&& ~~~1
      ∃ u : State, exec i s = .next u ∧
        u.me.epc = epc ∧ u.me.tcause = BitVec.ofNat 17 code ∧ u.me.tval = s.me.reg a ∧ u.me.pmode = false ∧
        u.me.mode = true ∧ u.me.pc = s.mine.tvec ∧ u.me.mon = none ∧ u.me.g = s.me.g ∧ u.me.flags = s.me.flags ∧
        (∀ c q, c / 64 = s.clus → u.holding c q = false) ∧
        u.load s.recKey 8 = epc.toNat ∧ u.load (s.recKey + 0x08) 1 = code ∧ u.load (s.recKey + 0x09) 1 = 0 ∧
        u.load (s.recKey + 0x0A) 1 = 0 ∧ u.load (s.recKey + 0x0B) 1 = 0 ∧ u.load (s.recKey + 0x0E) 2 = 0 ∧
        u.load (s.recKey + 0x10) 8 = (s.me.reg a).toNat ∧ u.load (s.recKey + 0x18) 8 = s.me.flags.toNat ∧
        u.load (s.recKey + 0x20) 8 = min 47 (s.me.age / 1024) * 65536 + s.me.iprio.toNat * 256 +
          (if (s.panelAt s.at_).any (fun p => p.state == 3) then 4 else 0) + (if s.me.pmode then 2 else 0) ∧
        u.load (s.recKey + 0x28) 8 = 0 ∧ u.load (s.recKey + 0x38) 8 = s.cycle % 2 ^ 64 ∧
        (s.me.rep = none → u.load (s.recKey + 0x0C) 2 = 0) ∧
        (∀ r : Fin 32, u.load (s.recKey + 0x200 + 8 * r.val) 8 = (s.me.reg r).toNat) ∧
        s.memoryKept u s.recKey 0x300 ∧ s.tablesKept u) ∧
  (∀ (s : State) (a : Fin 32), s.alone → s.me.mode = true →
    ∀ (i : Instr) (code : Nat), (i, code) ∈ [(Instr.trap a, 0x0F), (.brk a, 0x0E)] →
      ∃ u : State, exec i s = .next u ∧
        u.me.epc = (s.me.pc + 4) &&& ~~~1 ∧ u.me.tcause = BitVec.ofNat 17 code ∧ u.me.tval = s.me.reg a ∧
        u.me.pmode = true ∧ u.me.mode = true ∧ u.me.pc = s.mine.tvec ∧ u.me.g = s.me.g ∧ u.me.mon = none ∧
        (∀ c q, c / 64 = s.clus → u.holding c q = false) ∧ u.mem = s.mem ∧ s.tablesKept u)

/-- 18 R335: ERET with PMODE S goes to EPC and changes nothing else; with PMODE U and a record that passes its check it
loads the general registers, FLAGS, the entries, the repeat and the pc from the record and goes on in U mode, writing no
memory; a record that fails the check raises ILLEGAL with the failing byte's address. 18 R331, R335: what a TRAP in U mode
saved, an ERET that follows at once restores: the general registers and FLAGS as they were, U mode, and the pc at the
instruction after the TRAP. A record's odd EPC is not checked, the model's reading (assumption log 68). -/
def Obligations.ReturnFromTrap : Prop :=
  (∀ s : State, s.alone → s.me.mode = true →
    (s.me.pmode = true → exec .eret s = .next (s.setMe { s.me with pc := s.me.epc })) ∧
    (s.me.pmode = false → s.sound s.recKey 0x300 = true →
      let byte := fun k => (s.byte (s.recKey + k)).toNat
      (∀ k, s.recFault (s.bytes s.recKey 0x300) = some k →
        exec .eret s = .next (s.takeTrap 4 { cause := .illegal, tval := s.recAddr + BitVec.ofNat 64 k })) ∧
      (s.recFault (s.bytes s.recKey 0x300) = none →
        ∃ u : State, exec .eret s = .next u ∧ u.mem = s.mem ∧ u.clusters = s.clusters ∧ s.tablesKept u ∧ u.me.mode = false ∧
          u.me.flags = BitVec.ofNat 6 (byte 0x18) ∧
          (∀ r : Fin 32, r ≠ 0 → u.me.g[r] = BitVec.ofNat 64 (numOf (s.bytes (s.recKey + 0x200 + 8 * r.val) 8))) ∧
          u.me.g[0] = 0 ∧
          u.me.pend = (List.range (byte 0x0A)).map (fun k => entryOf (s.bytes (s.recKey + 0x100 + 32 * k) 32)) ∧
          (let epc := BitVec.ofNat 64 (numOf (s.bytes s.recKey 8))
          (byte 0x0C = 0 → u.me.pc = epc ∧ u.me.rep = none) ∧
          (byte 0x0C ≠ 0 → byte 0x0D < byte 0x0C ∨ byte 0x0A ≠ 0 → u.me.pc = epc ∧
            ∃ m, u.me.rep = some { n := byte 0x0C, mask := m, idx := byte 0x0D }) ∧
          (byte 0x0C ≠ 0 → byte 0x0D = byte 0x0C → byte 0x0A = 0 → u.me.pc = epc + 6 ∧ u.me.rep = none))))) ∧
  (∀ (s : State) (a : Fin 32), s.alone → s.memOk → s.me.mode = false → s.me.rep = none → s.me.g[0] = 0 →
    (∀ k < 0x300, s.phys (s.recKey + k) = s.recKey + k) → s.sound s.recKey 0x300 = true →
    ∃ (u : State) (w : State), exec (.trap a) s = .next u ∧ exec .eret u = .next w ∧
      w.me.g = s.me.g ∧ w.me.flags = s.me.flags ∧ w.me.mode = false ∧ w.me.pc = (s.me.pc + 4) &&& ~~~1 ∧ w.me.pend = [])

/-- 18 R354: in S mode, with no access of the panel still to perform through what is removed, TLBINV removes the cached
translations of a page and address space, TLBINV.ASID those of an address space, TLBINV.ALL every one, from the cores and
clusters of the panel, and goes on; with such an access it removes them and waits. No register, no memory and no other cached
translation changes. -/
def Obligations.TranslationInvalidation : Prop :=
  ∀ (s : State) (b a : Fin 32) (p : Panel), s.alone → s.me.mode = true → s.myPanel = some p →
    ∀ (i : Instr) (va asid : Option Nat),
      (i, va, asid) ∈ [(Instr.tlbinv b a, some (s.me.reg a).toNat, some ((s.me.reg b).toNat % 2 ^ 16)),
        (.tlbinvAsid b, none, some ((s.me.reg b).toNat % 2 ^ 16)), (.tlbinvAll, none, none)] →
      let hit := fun (e : TlbEntry) => (∀ x, asid = some x → e.asid.toNat = x) ∧ (∀ x, va = some x → e.va ≤ x ∧ x < e.va + e.size)
      let removed (u : State) := u.mem = s.mem ∧ u.panels = s.panels ∧ u.dies = s.dies ∧ u.groups = s.groups ∧
        u.packets = s.packets ∧ u.poison = s.poison ∧ u.cycle = s.cycle ∧
        u.cmds.map (fun m => { m with walked := [] }) = s.cmds.map (fun m => { m with walked := [] }) ∧
        (∀ c e, e ∈ (u.core c).tlb ↔ e ∈ (s.core c).tlb ∧ ¬(p.has c = true ∧ hit e)) ∧
        (∀ cl e, e ∈ (u.cluster cl).tlb ↔ e ∈ (s.cluster cl).tlb ∧ ¬((∃ c ∈ p.cores, c / 64 = cl) ∧ hit e))
      ((∀ m ∈ s.cmds, m.panel = p.num → m.uses va asid = false) →
        ∃ u : State, exec i s = .next u ∧ u.me = s.me.after 4 ∧ removed u) ∧
      ((∃ m ∈ s.cmds, m.panel = p.num ∧ m.uses va asid = true) →
        ∃ u : State, exec i s = .next u ∧ u.me.run = .blocked ∧ u.me.pc = s.me.pc ∧ u.me.g = s.me.g ∧ removed u)

/-- 18 R337: REINJ appends the 32 bytes at its address to the context's record as its last entry, raises RQN and gives it;
of the record only RQN, VHELD and that entry change, and nothing else of memory. It traps, in this order, on the address as a
32-byte load (SCRATCH_RANGE, then MISALIGN), with ENGINE_REJECT where RQN is 8, and with ILLEGAL on an entry that ERET would
refuse. -/
def Obligations.Reinjection : Prop :=
  ∀ (s : State) (a d : Fin 32), s.alone → s.memOk → s.me.mode = true →
    let x := s.me.reg a
    let key := s.keyOf x
    let n := s.load (s.recKey + 0x0A) 1
    let inside := x.toNat < 2 ^ 29 ∧ s.inPanel (key / 2 ^ 19) = true ∧ key % 2 ^ 19 + 32 ≤ 2 ^ 19
    let stops (c : Cause) := exec (.reinj a d) s = .next (s.takeTrap 4 { cause := c, tval := x })
    (¬inside → stops .scratchRange) ∧
    (inside → x.toNat % 8 ≠ 0 → stops .misalign) ∧
    (inside → x.toNat % 8 = 0 → s.sound key 32 = true → s.sound s.recKey 0x10 = true →
      (8 ≤ n → stops .engineReject) ∧
      (n < 8 → s.me.entryFault (s.bytes key 32) ≠ none → stops .illegal) ∧
      (n < 8 → s.me.entryFault (s.bytes key 32) = none → (∀ k < 0x300, s.phys (s.recKey + k) = s.recKey + k) →
        ∃ u : State, exec (.reinj a d) s = .next u ∧ u.me = (s.me.put d (BitVec.ofNat 64 (n + 1))).after 4 ∧
          u.load (s.recKey + 0x0A) 1 = n + 1 ∧ u.bytes (s.recKey + 0x100 + 32 * n) 32 = s.bytes key 32 ∧
          u.load (s.recKey + 0x0E) 2 = u.held.toNat ∧
          (∀ j < 0x300, j ≠ 0x0A → j ≠ 0x0E → j ≠ 0x0F → (j < 0x100 + 32 * n ∨ 0x120 + 32 * n ≤ j) →
            u.byte (s.recKey + j) = s.byte (s.recKey + j)) ∧
          s.memoryKept u s.recKey 0x300 ∧ u.clusters = s.clusters ∧ s.tablesKept u))

/-- 18 R340 to R342: a QUIESCE of slots of a core of the panel sets their bits, stops what runs in them (without drain; a
stopped context has no monitor armed and holds no lock bit, and goes on with its unfinished instructions), and, all quiet,
gives the mask it found; a draining one waits while a named slot still runs. RESUME gives the mask and clears the bits; a
stopped context that no mask names goes on. An operand out of range, another panel's core or the own slot raises
ENGINE_REJECT, and a down core PANEL_DOWN (17 R309). 18 R343, 17 R310, R311: PKILL with the panel's own number kills it: its
commands and its packets not yet injected are gone, its contexts are Dormant with nothing queued, held or armed, its cores and
the clusters wholly in it are at the values of Table 17-12, it is FENCED with its bars clear, its launches are answered, and
scratch is kept; another number raises ENGINE_REJECT. The model's own readings here: what a stop releases and what a kill
takes with it (assumption logs 26, 35). -/
def Obligations.QuiesceResumeAndKill : Prop :=
  (∀ (s : State) (b a d : Fin 32), s.alone → s.me.mode = true → s.me.run = .ready → s.me.wait = none →
    let x := s.me.reg a
    let y := s.me.reg b
    let c := x.toNat
    let ok := c < 2 ^ 13 ∧ y.toNat < 2 ^ 8 ∧ s.inPanel c = true ∧ ¬(c = s.at_ ∧ y.getLsbD s.slot.val = true)
    let three := [Instr.quiesce false b a d, .quiesce true b a d, .resume b a d]
    (ok → s.coreDown c = false →
      (∃ u : State, exec (.quiesce false b a d) s = .next u ∧
        u.me = (s.me.put d ((s.core c).swq.zeroExtend 64)).after 4 ∧ u.mem = s.mem ∧ s.tablesKept u ∧
        (u.core c).swq = (s.core c).swq ||| y.truncate 8 ∧
        ∀ k : Fin 8,
          (y.getLsbD k.val = true → (s.ctx c k).run.waits = true →
            (u.ctx c k).run = .stopped ∧ (u.ctx c k).mon = none ∧ (u.ctx c k).wait = none ∧
            (u.ctx c k).pend = (s.ctx c k).pend.map Entry.again ∧ (u.ctx c k).pc = (s.ctx c k).pc ∧
            (u.ctx c k).g = (s.ctx c k).g ∧ ∀ e ∈ u.cores, e.1 / 64 = c / 64 → ∀ l ∈ e.2.locks, l.2 ≠ c * 8 + k.val) ∧
          (y.getLsbD k.val = true → (s.ctx c k).run.waits = false → u.ctx c k = s.ctx c k) ∧
          (y.getLsbD k.val = false → (c, k) ≠ (s.at_, s.slot) → u.ctx c k = s.ctx c k)) ∧
      ((s.core c).quiet (y.truncate 8) = true →
        ∃ u : State, exec (.quiesce true b a d) s = .next u ∧
          u.me = (s.me.put d ((s.core c).swq.zeroExtend 64)).after 4 ∧ u.mem = s.mem ∧
          (u.core c).swq = (s.core c).swq ||| y.truncate 8) ∧
      ((s.core c).quiet (y.truncate 8) = false →
        ∃ u : State, exec (.quiesce true b a d) s = .next u ∧ u.me.run = .blocked ∧ u.me.pc = s.me.pc ∧ u.me.g = s.me.g ∧
          (u.core c).swq = (s.core c).swq ||| y.truncate 8) ∧
      (∃ u : State, exec (.resume b a d) s = .next u ∧ (u.core c).swq = (s.core c).swq &&& ~~~(y.truncate 8) ∧
        (u.core c).atq = (s.core c).atq ∧ u.me.g = (s.me.put d ((s.core c).swq.zeroExtend 64)).g ∧
        u.me.pc = (s.me.after 4).pc ∧ ∀ p, s.panelAt c = some p → p.dispatches = true → ∀ k : Fin 8,
          (s.ctx c k).run = .stopped → (u.ctx c k).run =
            if ((u.core c).swq ||| (u.core c).atq).getLsbD k.val = true then .stopped else .ready)) ∧
    (ok → s.coreDown c = true → ∀ i ∈ three, exec i s = .next (s.takeTrap 4 { cause := .panelDown, tval := x })) ∧
    (¬ok → ∀ i ∈ three, exec i s = .next (s.takeTrap 4 { cause := .engineReject, tval := x }))) ∧
  (∀ (s : State) (a : Fin 32) (p : Panel), s.alone → s.me.mode = true → s.myPanel = some p → s.panel p.num = some p →
    (s.me.reg a = s.mine.panelId.zeroExtend 64 →
      ∃ u : State, exec (.pkill a) s = .next u ∧ u.mem = s.mem ∧ (∀ m ∈ u.cmds, m.panel ≠ p.num) ∧
        (∀ k ∈ u.packets, k.injected = false → k.src < 8192 → p.has k.src = false) ∧
        (∀ c, p.has c = true →
          (∀ k : Fin 8, (u.ctx c k).run = .dormant ∧ (u.ctx c k).mon = none ∧ (u.ctx c k).compq = [] ∧
            (u.ctx c k).compHeld = [] ∧ (u.ctx c k).payload = [] ∧ (u.ctx c k).latch = none) ∧
          (u.core c).swq = 0 ∧ (u.core c).atq = 0 ∧ (u.core c).inbox = [] ∧ (u.core c).locks = [] ∧
          (u.core c).squeue = .replicate 8 [] ∧ (u.core c).vqueue = .replicate 2 [] ∧
          (u.core c).routine = .replicate 64 0 ∧ (u.core c).rxctx = 0xC0 ∧ (u.core c).fitness = 0 ∧
          (u.core c).fitgen = 0 ∧ (u.core c).maps = .replicate 32 0 ∧ (u.core c).wbuf = .replicate 32 {} ∧
          (u.core c).tvec = 0 ∧ (u.core c).ptbase = 0 ∧ (u.core c).asid = 0) ∧
        (∀ cl i, p.has (cl * 64 + i / 128) = true → u.vword cl i = {}) ∧
        (∀ cl, p.hasCluster cl = true →
          (u.cluster cl).tasks = [] ∧ (u.cluster cl).tqSize = 0 ∧ (u.cluster cl).tqBase = 0 ∧ (u.cluster cl).tqHead = 0 ∧
          (u.cluster cl).tqTail = 0 ∧ (u.cluster cl).tdcfg = 0 ∧ (u.cluster cl).tdPos = 0 ∧
          (u.cluster cl).pub = .replicate 16 none) ∧
        (∀ l, p.launch = some l → replyTo 0x04 l.rq 0x11 ∈ u.replies) ∧
        (∀ rq ∈ p.launches, replyTo 0x04 rq 0x15 ∈ u.replies) ∧
        ∃ q, u.panel p.num = some q ∧ q.state = 6 ∧ q.bars = .replicate 16 {} ∧ q.savecur = 0 ∧ q.collect = none ∧
          q.launch = none ∧ q.launches = [] ∧ q.parked = [] ∧ q.saving = none) ∧
    (s.me.reg a ≠ s.mine.panelId.zeroExtend 64 →
      exec (.pkill a) s = .next (s.takeTrap 4 { cause := .engineReject, tval := s.me.reg a })))

/-- 18 R347, R348: SAVEP and RESTP with a legal descriptor hold their own panel (17 R318): every running context of it stops,
the issuer after the instruction, the others with their pc and registers as they are, and the collection waits for the engines
that hold its commands. A descriptor out of its limits raises ENGINE_REJECT. RESTP first reads the header: a failing read
raises its engine fault, and FORMAT other than 1, COMMIT[0] clear, a rectangle other than PANELCFG's or a down core of it
RESTORE_SHAPE with SUB 4, 2, 1, 3. 18 R339: a WFI that nothing has happened for waits, and one that began to wait before a
message or a word arrived goes on. The model's own readings here: when gD is written (assumption log 61), which failure
of a header that fails in several ways is named (assumption log 84), and TVAL of RESTORE_SHAPE, the descriptor's address, which
R348 does not give (assumption log 30). -/
def Obligations.SaveRestoreAndWait : Prop :=
  ∀ (s : State) (a d : Fin 32) (p : Panel), s.alone → s.me.mode = true → s.myPanel = some p → s.panel p.num = some p →
    let x := s.me.reg a
    let b := BitVec.ofNat 512 (s.load (s.keyOf x) 64)
    let held (u : State) := u.me.run = .stopped ∧ u.me.pc = (s.me.after 4).pc ∧ u.me.g = s.me.g ∧
      (∀ c k, p.has c = true → (c, k) ≠ (s.at_, s.slot) →
        (u.ctx c k).run = (if (s.ctx c k).run.waits then .stopped else (s.ctx c k).run) ∧
        (u.ctx c k).pc = (s.ctx c k).pc ∧ (u.ctx c k).g = (s.ctx c k).g)
    (s.reaches x 64 → s.clean x 64 → saveDescOk b = true →
      (∃ (u : State) (q : Panel), exec (.savep a d) s = .next u ∧ u.mem = s.mem ∧ held u ∧
        u.panel p.num = some q ∧ (∃ c, q.collect = some c ∧ c.why = .savep s.at_ s.slot ∧ c.waiting = s.holders p.num) ∧
        ∃ v, q.saving = some v ∧ v.restore = false ∧ v.va = rec64 b 0 8 ∧ v.space = rec64 b 8 1 ∧ v.length = rec64 b 16 8 ∧
          v.seq = rec64 b 24 4 ∧ v.dst = d ∧ v.cursor = if p.savecur.getLsbD 63 then p.savecur.toNat % 2 ^ 40 else 0) ∧
      (∀ f, s.readVa s.at_ s.mine.ptbase s.mine.asid (rec64 b 0 8) 0x1000 = .error f →
        exec (.restp a d) s = .next (s.takeTrap 4
          { cause := if f.status = 0x18 then .viewchg else .xferFault, tval := x, sub := f.status, fault := f.fault })) ∧
      (∀ h t, s.readVa s.at_ s.mine.ptbase s.mine.asid (rec64 b 0 8) 0x1000 = .ok (h, t) →
        let byte := fun k => (h.getD k 0).toNat
        let sub : Option (BitVec 8) :=
          if numOf (h.take 4) ≠ 1 then some 4
          else if byte 0xFF8 % 2 ≠ 1 then some 2
          else if byte 8 ≠ p.x0 % 256 ∨ byte 9 ≠ p.y0 % 256 ∨ byte 10 ≠ p.w % 256 ∨ byte 11 ≠ p.h % 256 then some 1
          else if p.cores.any t.coreDown then some 3
          else none
        (∀ n, sub = some n →
          exec (.restp a d) s = .next (s.takeTrap 4 { cause := .restoreShape, tval := x, sub := n })) ∧
        (sub = none → ∃ (u : State) (q : Panel), exec (.restp a d) s = .next u ∧ u.mem = s.mem ∧ held u ∧ u.panel p.num = some q ∧
          (∃ c, q.collect = some c ∧ c.why = .restp s.at_ s.slot) ∧ ∃ v, q.saving = some v ∧ v.restore = true))) ∧
    (s.reaches x 64 → s.clean x 64 → saveDescOk b = false → ∀ i ∈ [Instr.savep a d, .restp a d],
      exec i s = .next (s.takeTrap 4 { cause := .engineReject, tval := x })) ∧
    (s.me.wait = none → exec .wfi s = .next (s.waits .wfi (.event s.mine.admits s.me.posts))) ∧
    (∀ w n k, s.me.wait = some w → w.on = .event n k → n ≠ s.mine.admits ∨ k ≠ s.me.posts →
      exec .wfi s = .next (s.gives 4 0 0))

/-- 11 R233 to R235, 03 R44, R59, 19 R358: a SEND or SENDV whose header and payload pass their checks, from a context with
fewer than 16 messages unanswered, goes on: as one packet with the next PSN of its pair and its payload, with KIND 0 to its core,
with KIND 1 to 6 (S mode) to its engine once the engine's inbox has room, and waits for room before. A 17th message waits. A header with a reserved bit, KIND 7, PRIO above 47 or LEN
above the limit (4,096, for SENDV 512) raises ENGINE_REJECT, then KIND other than 0 in U mode and another panel's core PRIV
(TVAL the header word), then SEND's payload what a load of it would (TVAL gD). A sector of SEND's payload may be read later (R234,
assumption log 70); that a message to the Atelier goes to die 0 is assumption log 46. -/
def Obligations.SendingMessages : Prop :=
  ∀ (s : State) (b a d : Fin 32) (v : Fin 16), s.alone →
    let h0 := s.me.reg a
    let h1 := s.me.reg b
    let at_ := s.me.reg d
    let key := s.keyOf at_
    let len := hdrLen h0
    let dest := hdrDest h0
    let good (limit : Nat) := h0.toNat < 2 ^ 41 ∧ h1.toNat < 2 ^ 62 ∧ hdrKind h0 ≠ 7 ∧ hdrPrio h0 ≤ 47 ∧ len ≤ limit
    let mayKind := s.me.mode = true ∨ hdrKind h0 = 0
    let mayDest := hdrKind h0 = 4 ∨ s.inPanel dest = true
    let box := engineOf (hdrKind h0) dest
    let carries (i : Instr) (bs : List Byte) :=
      (i = .send b a d ∧ good 4096 ∧ len = 0 ∧ bs = []) ∨
      (i = .send b a d ∧ good 4096 ∧ 0 < len ∧ s.reachesRun at_ len 8 ∧ s.sound key len = true ∧ bs = s.bytes key len) ∨
      (i = .sendv b a v ∧ good 512 ∧ bs = bytesOf len s.me.v[v].toNat)
    let both := [(Instr.send b a d, 4096), (.sendv b a v, 512)]
    (∀ i bs, carries i bs → mayKind → mayDest →
      (s.outstanding s.at_ s.slot < 16 →
        (hdrKind h0 = 0 → ∃ (u : State) (p : Packet) (m : Msg), exec i s = .next u ∧ u.me = s.me.after 4 ∧ u.mem = s.mem ∧ u.cmds = s.cmds ∧
          u.packets = s.packets ++ [p] ∧ p.src = s.at_ ∧ p.dst = dest ∧ p.injected = false ∧ p.fabric = none ∧
          p.psn = SMap.get s.psns 0 (pairKey s.at_ dest none) ∧ p.data = bs ∧ p.body = .message m ∧
          m.h0 = h0 ∧ m.h1 = h1 ∧ m.payload = bs ∧ m.src = s.at_ ∧ m.srcSlot = some s.slot.val ∧ m.panel = s.panelNo) ∧
        (1 ≤ hdrKind h0 → s.boxRoom box = true → s.first (.engine box) = true →
          ∃ (u : State) (p : Packet) (m : Msg), exec i s = .next u ∧ u.me = s.me.after 4 ∧ u.mem = s.mem ∧ u.cmds = s.cmds ∧
            u.packets = s.packets ++ [p] ∧ p.src = s.at_ ∧ p.dst = (if hdrKind h0 = 4 then 0 else dest) ∧ p.injected = false ∧
            p.fabric = none ∧ p.psn = SMap.get s.psns 0 (pairKey s.at_ p.dst none) ∧ p.data = bs ∧ p.body = .order m box ∧
            m.h0 = h0 ∧ m.h1 = h1 ∧ m.payload = bs ∧ m.src = s.at_ ∧ m.srcSlot = some s.slot.val ∧ m.panel = s.panelNo) ∧
        (1 ≤ hdrKind h0 → s.boxRoom box = false → exec i s = .next (s.waits i (.engine box)))) ∧
      (16 ≤ s.outstanding s.at_ s.slot → exec i s = .next (s.waits i .sends))) ∧
    (∀ i n, (i, n) ∈ both →
      (¬good n → exec i s = .next (s.takeTrap 4 { cause := .engineReject, tval := h0 })) ∧
      (good n → ¬(mayKind ∧ mayDest) → exec i s = .next (s.takeTrap 4 { cause := .priv, tval := h0 }))) ∧
    (good 4096 → mayKind → mayDest → 0 < len →
      let inside := at_.toNat < 2 ^ 29 ∧ s.inPanel (key / 2 ^ 19) = true ∧ key % 2 ^ 19 + len ≤ 2 ^ 19
      (¬inside → exec (.send b a d) s = .next (s.takeTrap 4 { cause := .scratchRange, tval := at_ })) ∧
      (inside → s.permits key len = false → exec (.send b a d) s = .next (s.takeTrap 4 { cause := .priv, tval := at_ })) ∧
      (inside → s.permits key len = true → at_.toNat % 8 ≠ 0 →
        exec (.send b a d) s = .next (s.takeTrap 4 { cause := .misalign, tval := at_ })))

/-- 11 R235, R236, 03 R43: ENDH and C.ENDH, once every command of the activation has ended (a SEND's counts as ended, its
payload being read) without a fault still to surface, end it: with no message in the inbox the context is Dormant, its ports
unbound and its monitor disarmed, and memory stays; with one message that only this slot may take (03 R47, R50, R51), the slot
begins its activation at the class's routine, in U mode with the message's words in g5 and g6; a command still in progress is waited for, and a fault not surfaced yet
traps first, with its TVAL. -/
def Obligations.EndingAnActivation : Prop :=
  ∀ s : State, s.alone → ∀ (i : Instr) (len : Nat), (i, len) ∈ [(Instr.endh, 4), (.cEndh, 2)] →
    let own := s.cmdsOf s.at_ s.slot s.me.act
    ((∀ m ∈ own, m.state = .done ∨ (m.kind.isSend = true ∧ m.ended = false)) → s.mine.inbox = [] →
      ∃ u : State, exec i s = .next u ∧ u.me.run = .dormant ∧ u.me.ports = .replicate 5 none ∧ u.me.mon = none ∧
        u.me.pend = [] ∧ u.me.payload = [] ∧ u.mem = s.mem ∧ u.panels = s.panels ∧
        (∀ e ∈ u.cores, e.1 / 64 = s.clus → ∀ l ∈ e.2.locks, l.2 ≠ s.at_ * 8 + s.slot.val)) ∧
    (∀ p m, (∀ m ∈ own, m.state = .done ∨ (m.kind.isSend = true ∧ m.ended = false)) → s.mine.inbox = [m] →
      s.myPanel = some p → p.dispatches = true → s.coreDown s.at_ = false →
      classValid s.mine.routine[hdrClass m.h0] = true → s.mine.slotSet m = [s.slot] →
      (s.mine.swq ||| s.mine.atq).getLsbD s.slot.val = false →
      ∃ u : State, exec i s = .next u ∧ u.mine.inbox = [] ∧ u.me.run = .ready ∧ u.me.mode = false ∧
        u.me.pc = BitVec.ofNat 64 (fld s.mine.routine[hdrClass m.h0].toNat 0 25) ∧ u.me.reg 5 = m.h0 ∧ u.me.reg 6 = m.h1 ∧
        u.me.reg 4 = BitVec.ofNat 64 (hdrLen m.h0) ∧ u.me.ports = .replicate 5 none ∧ u.me.mon = none ∧ u.me.pend = []) ∧
    ((∃ m ∈ own, m.ended = false ∧ m.kind.isSend = false) → exec i s = .next (s.waits i .commands)) ∧
    (∀ m, (∀ x ∈ own, x.ended = true ∨ x.kind.isSend = true) → s.unsurfaced = some m →
      ∃ u : State, exec i s = .next u ∧ u.me.mode = true ∧ u.me.pc = s.mine.tvec ∧ u.me.tval = m.tval ∧
        u.me.tcause.toNat % 2 ^ 8 = (if m.status = 0x18 then Cause.viewchg else Cause.xferFault).code.toNat)

/-- 11 R237, R238, 03 R55, R57: QBIND of a free port to a queue of its kind binds it, QUNBIND unbinds it, QPOLL gives
the entries present and the places free; a port that is bound, a queue of the wrong kind, a reserved id or a D that does not
agree with M[1] raises QUEUE_MISUSE. 03 R55, R56: with a port bound, an ADD whose source is read-bound takes the queue's oldest word, and one
whose destination is write-bound puts its result at the queue's end; an empty or full queue blocks the context at the
instruction, which becomes its unfinished one, with no register written. -/
def Obligations.QueuePorts : Prop :=
  ((∀ (s : State) (d : Fin 32), s.source = .pc → s.me.pend = [] → s.me.mat = none →
    (∀ k : Fin 4, d.val = 28 + k.val →
      exec (.qunbind false d) s = .next (s.onMe 4 (fun x => { x with ports := x.ports.set k.val none }))) ∧
    exec (.qunbind true 15) s = .next (s.onMe 4 (fun x => { x with ports := x.ports.set 4 none })) ∧
    (let bad (i : Instr) := exec i s = .next (s.takeTrap 4 { cause := .queueMisuse, tval := BitVec.ofNat 64 i.word })
    ∀ (wr : Bool) (id : Fin 32),
      (∀ k : Fin 4, d.val = 28 + k.val → s.me.ports[k.val] ≠ none → bad (.qbind false wr id d)) ∧
      (s.me.ports[4] ≠ none → bad (.qbind true wr id 15)) ∧
      (id.val ≠ 8 → id.val ≠ 9 → bad (.qbind true wr id 15)) ∧
      (d.val ≠ 15 → bad (.qbind true wr id d) ∧ bad (.qunbind true d)) ∧
      (d.val < 28 → bad (.qbind false wr id d) ∧ bad (.qunbind false d)))) ∧
  ∀ (s : State) (d id : Fin 32) (wr : Bool), s.alone →
    (∀ k : Fin 4, d.val = 28 + k.val → id.val < 8 ∨ (wr = false ∧ (id.val = 16 ∨ id.val = 17)) →
      exec (.qbind false wr id d) s =
        .next (s.onMe 4 (fun x => { x with ports := x.ports.set k.val (some { q := id, wr := wr }) }))) ∧
    (id.val = 8 ∨ id.val = 9 → exec (.qbind true wr id 15) s =
      .next (s.onMe 4 (fun x => { x with ports := x.ports.set 4 (some { q := id, wr := wr }) }))) ∧
    (28 ≤ d.val → ¬(id.val < 8 ∨ (wr = false ∧ (id.val = 16 ∨ id.val = 17))) → exec (.qbind false wr id d) s =
      .next (s.takeTrap 4 { cause := .queueMisuse, tval := BitVec.ofNat 64 (Instr.word (.qbind false wr id d)) })) ∧
    (∀ q : Fin 8, exec (.qpoll ⟨q.val, by omega⟩ d) s = .next (s.gives 4 d (BitVec.ofNat 64
      ((8 - s.mine.squeue[q].length) % 2 ^ 16 * 2 ^ 16 + s.mine.squeue[q].length % 2 ^ 16)))) ∧
    (∀ q : Fin 2, exec (.qpoll ⟨8 + q.val, by omega⟩ d) s = .next (s.gives 4 d (BitVec.ofNat 64
      ((2 - s.mine.vqueue[q].length) % 2 ^ 16 * 2 ^ 16 + s.mine.vqueue[q].length % 2 ^ 16)))) ∧
    exec (.qpoll 16 d) s = .next (s.gives 4 d (BitVec.ofNat 64
      ((16 - s.me.compq.length) % 2 ^ 16 * 2 ^ 16 + s.me.compq.length % 2 ^ 16))) ∧
    exec (.qpoll 17 d) s = .next (s.gives 4 d (BitVec.ofNat 64 (s.me.payload.length % 2 ^ 16))) ∧
    (10 ≤ id.val → id.val ≠ 16 → id.val ≠ 17 → exec (.qpoll id d) s =
      .next (s.takeTrap 4 { cause := .queueMisuse, tval := BitVec.ofNat 64 (Instr.word (.qpoll id d)) }))) ∧
  (∀ (s : State) (b d : Fin 32) (q : Fin 8), s.source = .pc → s.me.pend = [] → s.me.mat = none → b.val < 28 → d.val < 28 →
    (s.me.ports = (Vector.replicate 5 none).set 0 (some { q := ⟨q.val, by omega⟩, wr := false }) →
      (∀ w rest, s.mine.squeue[q] = w :: rest → s.first (.queueRead s.at_ q.val) = true →
        ∃ u : State, exec (.add false b 28 d) s = .next u ∧ u.me = (s.me.put d (w + s.me.reg b)).after 4 ∧
          u.mine.squeue[q] = rest ∧ u.mem = s.mem) ∧
      (s.mine.squeue[q] = [] → exec (.add false b 28 d) s =
        .next (s.pendOn (.add false b 28 d) (.queueRead s.at_ q.val)))) ∧
    (s.me.ports = (Vector.replicate 5 none).set 0 (some { q := ⟨q.val, by omega⟩, wr := true }) →
      (s.mine.squeue[q].length < 8 → s.first (.queueWrite s.at_ q.val) = true →
        ∃ u : State, exec (.add false b d 28) s = .next u ∧ u.me = s.me.after 4 ∧
          u.mine.squeue[q] = s.mine.squeue[q] ++ [s.me.reg d + s.me.reg b] ∧ u.mem = s.mem) ∧
      (s.mine.squeue[q].length = 8 → exec (.add false b d 28) s =
        .next (s.pendOn (.add false b d 28) (.queueWrite s.at_ q.val)))))

/-- 03 R67, R70, R71, 11 R239, R240: in the panel's own cluster, with nothing spilled, TASKADD puts the 64 bytes at its
address at the queue's end, into the ring where the queue is full, and waits where there is no ring; TASKTAKE stores the
oldest record and gives its first word, or waits; TILEGET gives the next sub-tile of the deal, by rows or by columns, all
ones when it is dealt out. In a shared cluster each raises QUEUE_MISUSE. -/
def Obligations.TasksAndTiles : Prop :=
  ∀ (s : State) (a d : Fin 32) (p : Panel), s.alone → s.memOk → s.myPanel = some p →
    let x := s.me.reg a
    let key := s.keyOf x
    let cl := s.cluster s.clus
    (p.hasCluster s.clus = true → cl.ringLen = 0 → s.reaches x 64 →
      (s.clean x 64 → cl.tasks.length < 32 → s.first (.taskRoom s.clus) = true →
        ∃ u : State, exec (.taskadd a) s = .next u ∧ u.me = s.me.after 4 ∧ u.mem = s.mem ∧
          (u.cluster s.clus).tasks = cl.tasks ++ [BitVec.ofNat 512 (numOf (s.bytes key 64))]) ∧
      (s.clean x 64 → cl.tasks.length = 32 → cl.tqSize ≠ 0 → s.first (.taskRoom s.clus) = true →
        s.direct (s.ringKey s.clus cl.tqTail.toNat) 64 →
        ∃ u : State, exec (.taskadd a) s = .next u ∧ u.me.g = s.me.g ∧ u.me.pc = (s.me.after 4).pc ∧
          (u.cluster s.clus).tasks = cl.tasks ∧ (u.cluster s.clus).tqTail = cl.ringNext cl.tqTail ∧
          u.bytes (s.ringKey s.clus cl.tqTail.toNat) 64 = s.bytes key 64 ∧
          s.memoryKept u (s.phys (s.ringKey s.clus cl.tqTail.toNat)) 64) ∧
      (s.clean x 64 → cl.tasks.length = 32 → cl.tqSize = 0 →
        exec (.taskadd a) s = .next (s.waits (.taskadd a) (.taskRoom s.clus))) ∧
      (∀ r rest, cl.tasks = r :: rest → s.first (.task s.clus) = true → (∀ k < 64, s.phys (key + k) = s.phys key + k) →
        ∃ u : State, exec (.tasktake a d) s = .next u ∧ u.me = (s.me.put d (BitVec.ofNat 64 r.toNat)).after 4 ∧
          (u.cluster s.clus).tasks = rest ∧ u.load key 64 = r.toNat ∧ s.memoryKept u (s.phys key) 64) ∧
      (cl.tasks = [] → exec (.tasktake a d) s = .next (s.waits (.tasktake a d) (.task s.clus)))) ∧
    (p.hasCluster s.clus = true →
      let rows := fld cl.tdcfg.toNat 0 16
      let cols := fld cl.tdcfg.toNat 16 16
      let tr := fld cl.tdcfg.toNat 32 8
      let tc := fld cl.tdcfg.toNat 40 8
      let nr := (rows + tr - 1) / tr
      let nc := (cols + tc - 1) / tc
      (0 < rows → 0 < cols → 0 < tr → 0 < tc → cl.tdPos < nr * nc →
        let i := if cl.tdcfg.getLsbD 48 then cl.tdPos % nr else cl.tdPos / nc
        let j := if cl.tdcfg.getLsbD 48 then cl.tdPos / nr else cl.tdPos % nc
        ∃ u : State, exec (.tileget d) s = .next u ∧ (u.cluster s.clus).tdPos = cl.tdPos + 1 ∧ u.mem = s.mem ∧
          u.me = (s.me.put d (BitVec.ofNat 64 (i * tr * 2 ^ 48 + j * tc * 2 ^ 32 + min tr (rows - i * tr) * 2 ^ 16 +
            min tc (cols - j * tc)))).after 4) ∧
      (nr * nc ≤ cl.tdPos → exec (.tileget d) s = .next (s.gives 4 d (-1)))) ∧
    (p.hasCluster s.clus = false → ∀ i : Instr,
      i = .tileget d ∨ (s.reaches x 64 ∧ ((i = .taskadd a ∧ s.clean x 64) ∨ i = .tasktake a d)) →
      exec i s = .next (s.takeTrap 4 { cause := .queueMisuse, tval := BitVec.ofNat 64 i.word }))

/-- 11 R246, R252, Table 11-8, 03 R59, 10 R221: a COPY, FETCH, STORE or TIER whose checks pass, with room in its engine's
inbox, enters it as one queued command of the context with what it captured, counts its bytes at its barrier, counts up
the generation of the destination map, and the context goes on (its monitor may see the write of the barrier, 08 R176). -/
def Obligations.TransferCommandsEnterTheirEngine : Prop :=
  ∀ (s : State) (g mt ms d : Fin 32) (v : Fin 16), s.alone → s.memOk → s.me.caught = none →
    ∀ (i : Instr) (f : Xf) (src : Option (Fin 32)) (data : VReg) (bar : Word),
      (i, f, src, data, bar) ∈ [(Instr.copy g mt ms d, .copy, some ms, 0, s.me.reg d),
        (.fetch g mt ms d, .fetch, some ms, 0, s.me.reg d), (.tier g mt ms d, .tier, some ms, 0, s.me.reg d),
        (.store g mt ms v, .store, none, s.me.v[v], s.me.reg ms)] →
      ∀ m, s.captureCopy f mt src data (s.me.reg g) bar = .ok m → s.boxRoom m.engine = true →
        s.first (.engine m.engine) = true →
        ∃ u : State, exec i s = .next u ∧ ({ u.me with mon := s.me.mon } : Ctx) = s.me.after 4 ∧
          u.cmds = s.cmds ++ [{ m with id := s.names }] ∧ m.state = .queued ∧ m.core = s.at_ ∧ m.slot = s.slot ∧ m.activation = s.me.act ∧ m.data = data ∧
          m.tag = f.f * 2 ^ 25 + s.keyOf (s.me.reg g) % 2 ^ 25 ∧ m.box = BitVec.ofNat 512 (numOf (s.bytes (s.keyOf (s.me.reg g)) 64)) ∧
          u.map mt = (s.map mt).bump ∧
          u.load (s.keyOf bar) 16 = barExpect (s.load (s.keyOf bar) 16) m.total ∧
          s.memoryKept u (s.phys (s.keyOf bar)) 16

/-- 11 R241 to R245, Table 11-2: TXBINIT sets ARRIVE, ARRIVE_INIT and SCOPE and clears the rest, or raises ENGINE_REJECT
on a count or scope out of range; TXBARV gives the phase and takes one arrival off, the last one with nothing pending
starting the next phase, one beyond the count setting the overflow flag and leaving the count at 0, the phase advancing then
only with nothing pending; TXBWAIT of a past phase takes over the engine's flags and gives the phase, of the present one
waits, and surfaces an engine's error, as VIEWCHG for FCODE 0x18 and else as XFER_FAULT, FCODE its sub-code; TXBTEST answers
0 or 1 without waiting. -/
def Obligations.TransferBarriers : Prop :=
  ∀ (s : State) (g r d : Fin 32), s.alone → s.memOk →
    let x := s.me.reg g
    let v := (s.me.reg d).toNat
    let t := s.me.reg r
    let key := s.keyOf x
    let b := s.load key 16
    s.reaches x 16 →
    (v % 2 ^ 32 < 2 ^ 20 → v / 2 ^ 32 ≤ 4 →
      ∃ u : State, exec (.txbinit g d) s = .next u ∧ u.me = s.me.after 4 ∧ s.memoryKept u (s.phys key) 16 ∧
        u.load key 16 = v % 2 ^ 32 * 2 ^ 4 + v % 2 ^ 32 * 2 ^ 68 + v / 2 ^ 32 * 2 ^ 96) ∧
    (2 ^ 20 ≤ v % 2 ^ 32 ∨ 4 < v / 2 ^ 32 →
      exec (.txbinit g d) s = .next (s.takeTrap 4 { cause := .engineReject, tval := x })) ∧
    (s.clean x 16 →
      (∃ u : State, exec (.txbarv g d) s = .next u ∧ u.me = (s.me.put d (BitVec.ofNat 64 (barPhase b))).after 4 ∧
        s.memoryKept u (s.phys key) 16 ∧ barPend (u.load key 16) = barPend b ∧
        (2 ≤ barArrive b ∨ (barArrive b = 1 ∧ barPend b ≠ 0) →
          barArrive (u.load key 16) = barArrive b - 1 ∧ barPhase (u.load key 16) = barPhase b) ∧
        (barArrive b = 1 → barPend b = 0 →
          barArrive (u.load key 16) = barInit b ∧ barPhase (u.load key 16) = (barPhase b + 1) % 16) ∧
        (barArrive b = 0 → bitOf (barFlags (u.load key 16)) 1 = true ∧
          (barPend b = 0 → barArrive (u.load key 16) = barInit b ∧ barPhase (u.load key 16) = (barPhase b + 1) % 16) ∧
          (barPend b ≠ 0 → barArrive (u.load key 16) = 0 ∧ barPhase (u.load key 16) = barPhase b))) ∧
      (barPhase b ≠ t.toNat % 16 → bitOf (barFlags b) 0 = false →
        exec (.txbwait g r d) s = .next (s.onMe 4 (fun c =>
          ({ c with flags := c.flags ||| BitVec.ofNat 6 (barFlags b / 4) } : Ctx).put d (BitVec.ofNat 64 (barPhase b)))) ∧
        exec (.txbtest g r d) s = .next (s.onMe 4 (fun c =>
          ({ c with flags := c.flags ||| BitVec.ofNat 6 (barFlags b / 4) } : Ctx).put d 1))) ∧
      (barPhase b = t.toNat % 16 →
        exec (.txbwait g r d) s = .next (s.waits (.txbwait g r d) (.phase key (t.truncate 4))) ∧
        exec (.txbtest g r d) s = .next (s.gives 4 d 0)) ∧
      (barPhase b ≠ t.toNat % 16 → bitOf (barFlags b) 0 = true →
        ∀ i ∈ [Instr.txbwait g r d, .txbtest g r d],
          ∃ u : State, exec i s = .next u ∧ u.me.mode = true ∧ u.me.pc = s.mine.tvec ∧ u.me.tval = x ∧
            u.me.tcause = BitVec.ofNat 17 (0x10000 + barFcode b * 256 +
              (if barFcode b = 0x18 then Cause.viewchg.code.toNat else Cause.xferFault.code.toNat))))

/-- 11 R254 to R256, Table 11-10: SHOPEN of a map with PUBLISH and of a back buffer that fits opens the lowest free entry
with GEN 0 and gives its number, an equal entry's number if one is open, and raises ENGINE_REJECT where its ranges clash with
each other or an open entry, or none is free; PUBLISH waits for the writes of the entry's back buffer, exchanges the entry's
buffers by counting up GEN and gives it, .close also frees the entry (the new GEN being even), and a map with no open entry
raises ENGINE_REJECT. Neither writes a byte of memory. -/
def Obligations.ShadowBuffers : Prop :=
  ∀ (s : State) (g r d : Fin 32) (sc : BitVec 3), s.alone →
    let m := s.map r
    let x := s.me.reg g
    let cl := s.cluster s.clus
    let back := x.toNat % 2 ^ 25
    let len := x.toNat / 2 ^ 32
    (m.fault [(0x08, m.space != 0), (0x0B, !m.publish)] = none → m.base % 64 = 0 → back % 64 = 0 →
      s.userRange m.base (64 * len) = true → s.userRange back (64 * len) = true → 1 ≤ len → len < 2 ^ 16 →
      x.toNat = back + len * 2 ^ 32 →
      (∀ k, cl.same m.base back len = some k → exec (.shopen g r d) s = .next (s.gives 4 d (BitVec.ofNat 64 k.val))) ∧
      (cl.same m.base back len = none → cl.clashes m.base back (64 * len) = true ∨ (∀ k : Fin 16, cl.pub[k] ≠ none) →
        exec (.shopen g r d) s = .next (s.takeTrap 4 { cause := .engineReject, tval := x })) ∧
      (∀ k : Fin 16, cl.same m.base back len = none → cl.clashes m.base back (64 * len) = false → cl.pub[k] = none →
        (∀ j < k, cl.pub[j] ≠ none) →
        ∃ u : State, exec (.shopen g r d) s = .next u ∧ u.me = (s.me.put d (BitVec.ofNat 64 k.val)).after 4 ∧ u.mem = s.mem ∧
          u.cluster s.clus = { cl with pub := cl.pub.set k (some { front := m.base, back := back, len := len, gen := 0 }) })) ∧
    (m.fault [] = none →
      (∀ k p, cl.atFront m.base = some (k, p) → s.holds s.at_ s.slot (.backWrites s.clus k.val) = true →
        (∃ u : State, exec (.publish false sc r d) s = .next u ∧ u.me = (s.me.put d ((p.gen + 1).zeroExtend 64)).after 4 ∧
          u.mem = s.mem ∧ (u.cluster s.clus).pub[k] = some { p with gen := p.gen + 1 }) ∧
        (p.gen.getLsbD 0 = true →
          ∃ u : State, exec (.publish true sc r d) s = .next u ∧ u.me = (s.me.put d ((p.gen + 1).zeroExtend 64)).after 4 ∧
            u.mem = s.mem ∧ (u.cluster s.clus).pub[k] = none) ∧
        (p.gen.getLsbD 0 = false → exec (.publish true sc r d) s =
          .next (s.takeTrap 4 { cause := .engineReject, tval := BitVec.ofNat 64 m.base }))) ∧
      (∀ k p, cl.atFront m.base = some (k, p) → s.holds s.at_ s.slot (.backWrites s.clus k.val) = false → ∀ c : Bool,
        exec (.publish c sc r d) s = .next (s.waits (.publish c sc r d) (.backWrites s.clus k.val))) ∧
      (cl.atFront m.base = none → ∀ c : Bool, exec (.publish c sc r d) s =
        .next (s.takeTrap 4 { cause := .engineReject, tval := BitVec.ofNat 64 m.base })))

/-- 12 R277, R278, R280, R282: FITSET writes the core's FITNESS and FITGEN; a POPCMD whose record keeps its limits enters
the Atelier's inbox and has completed for its activation; a MIGRATE and a MUTCOPY whose descriptors keep their limits
enter the inbox of the own die's CME, queued, MUTCOPY with its LEN bytes counted at its barrier. A record or descriptor out
of its limits raises ENGINE_REJECT. -/
def Obligations.PopulationCommands : Prop :=
  ∀ (s : State) (b a : Fin 32), s.alone →
    let x := s.me.reg a
    let y := s.me.reg b
    (∃ u : State, exec (.fitset b a) s = .next u ∧ u.me = s.me.after 4 ∧ u.mem = s.mem ∧ u.mine.fitness = x.truncate 32 ∧
      u.mine.fitgen = y.truncate 32 ∧ s.tablesKept u) ∧
    (s.me.caught = none → s.reaches x 64 → s.clean x 64 → popOk (BitVec.ofNat 512 (s.load (s.keyOf x) 64)) = true →
      s.boxRoom .atelier = true → s.first (.engine .atelier) = true →
      ∃ (u : State) (c : Cmd), exec (.popcmd a) s = .next u ∧ u.me = s.me.after 4 ∧ u.mem = s.mem ∧ u.cmds = s.cmds ++ [c] ∧
        c.id = s.names ∧ c.kind = .popcmd ∧ c.state = .done ∧ c.box = BitVec.ofNat 512 (s.load (s.keyOf x) 64) ∧
        u.atelierBox = s.atelierBox ++ [s.names]) ∧
    (s.me.caught = none → s.reaches x 64 → s.clean x 64 → popOk (BitVec.ofNat 512 (s.load (s.keyOf x) 64)) = false →
      exec (.popcmd a) s = .next (s.takeTrap 4 { cause := .engineReject, tval := x })) ∧
    (∀ m, s.me.caught = none → s.captureMig false x 0 = .ok m → s.boxRoom m.engine = true →
      s.first (.engine m.engine) = true →
      ∃ u : State, exec (.migrate a) s = .next u ∧ u.me = s.me.after 4 ∧ u.cmds = s.cmds ++ [{ m with id := s.names }] ∧
        m.kind = .migrate ∧ m.state = .queued ∧ m.engine = .cme (Fin.ofNat 8 s.dieOf) ∧ u.mem = s.mem) ∧
    (∀ m, s.me.caught = none → s.captureMig true x y = .ok m → s.boxRoom m.engine = true →
      s.first (.engine m.engine) = true →
      ∃ u : State, exec (.mutcopy b a) s = .next u ∧ ({ u.me with mon := s.me.mon } : Ctx) = s.me.after 4 ∧ u.cmds = s.cmds ++ [{ m with id := s.names }] ∧
        m.kind = .mutcopy ∧ m.state = .queued ∧ m.engine = .cme (Fin.ofNat 8 s.dieOf) ∧
        u.load (s.keyOf y) 16 = barExpect (s.load (s.keyOf y) 16) m.total ∧ s.memoryKept u (s.phys (s.keyOf y)) 16) ∧
    (∀ mu : Bool, s.me.caught = none → s.reaches x 64 → s.clean x 64 →
      s.migOk (BitVec.ofNat 512 (s.load (s.keyOf x) 64)) mu = false →
      exec (if mu then .mutcopy b a else .migrate a) s = .next (s.takeTrap 4 { cause := .engineReject, tval := x }))

/-- 10 R209, R211 to R213, Table 10-4: TMLD takes the 128 bytes at its address into the slot, TMST stores them, TMSET
replaces one field of the slot and TMGET gives one (a selector of 26 to 31 raises ILLEGAL), TMSYNC takes the header's version
into SVER of a valid slot and an invalid one raises MAP_INVALID with the offset of its lowest failing field; in SPACE 1 to 3
it sends a request to the engine and waits for the reply, which gives SVER or an engine's fault that surfaces here. The lowest
failing byte of BASE and WINDOW is the model's reading (assumption log 28); which engine is asked, assumption log 88. -/
def Obligations.TensorMapInstructions : Prop :=
  (∀ (s : State) (g f ms d : Fin 32), s.alone → s.memOk →
    let x := s.me.reg g
    let key := s.keyOf x
    let old := s.map ms
    (s.reachesRun x 128 8 → s.sound key 128 = true →
      ∃ u : State, exec (.tmld g ms) s = .next u ∧ u.mem = s.mem ∧ s.tablesKept u ∧
        s.mapOnly u ms (BitVec.ofNat 1024 (numOf (s.bytes key 128)))) ∧
    (s.reachesRun x 128 8 →
      ∃ u : State, exec (.tmst g ms) s = .next u ∧ s.mapOnly u ms old ∧ s.tablesKept u ∧ s.memoryOutside u key 128 ∧
        (s.direct key 128 → BitVec.ofNat 1024 (numOf (u.bytes key 128)) = old)) ∧
    (∀ off n, mapField f.val = some (off, n) →
      (∃ u : State, exec (.tmset g f ms) s = .next u ∧ u.mem = s.mem ∧ s.tablesKept u ∧ s.mapOnly u ms (old.put off n x.toNat) ∧
        (u.map ms).raw off n = x.toNat % 2 ^ (8 * n) ∧
        ∀ o m, (o + m ≤ off ∨ off + n ≤ o) → (u.map ms).raw o m = old.raw o m) ∧
      exec (.tmget f ms d) s = .next (s.gives 4 d (BitVec.ofNat 64 (old.raw off n)))) ∧
    (26 ≤ f.val → ∀ i ∈ [Instr.tmset g f ms, .tmget f ms d],
      exec i s = .next (s.takeTrap 4 { cause := .illegal, tval := BitVec.ofNat 64 i.word })) ∧
    (∀ k, old.fault [] = some k → exec (.tmsync ms) s =
      .next (s.takeTrap 4 { cause := .mapInvalid, tval := BitVec.ofNat 64 (k * 256 + ms.val) })) ∧
    (old.fault [] = none → old.space = 0 → s.reaches (BitVec.ofNat 64 old.scale) 8 → s.clean (BitVec.ofNat 64 old.scale) 8 →
      ∃ u : State, exec (.tmsync ms) s = .next u ∧ u.mem = s.mem ∧ s.tablesKept u ∧
        s.mapOnly u ms (old.put 0x70 4 (s.load (s.keyOf (BitVec.ofNat 64 old.scale)) 4))) ∧
    (let m := s.headerCmd old
    old.fault [] = none → 1 ≤ old.space → old.scale < 2 ^ (if old.space = 3 then 25 else 55) → s.asked = none →
      (if old.space = 3 then s.inPanel old.window = true ∧ old.window < 8192 ∧ s.coreDown old.window = false
        else s.walkerFree s.dieOf = true) →
      s.boxRoom m.engine = true → s.first (.engine m.engine) = true →
      ∃ u : State, exec (.tmsync ms) s = .next u ∧ u.mem = s.mem ∧ u.mine.maps = s.mine.maps ∧ m ∈ u.cmds ∧
        m.kind = .header ∧ m.state = .queued ∧ m.src = old ∧ m.core = s.at_ ∧ m.slot = s.slot ∧
        u.me = (s.waits (.tmsync ms) (.reply m.id)).me)) ∧
  (∀ (s : State) (ms : Fin 32) (e : Entry) (rest : List Entry) (w : Waiting) (m : Cmd), s.source = .entry → s.me.pend = e :: rest →
    s.me.ports = .replicate 5 none → s.me.mat = none → s.me.wait = some w → w.on = .reply m.id → s.cmd m.id = some m →
    let t := { s with cmds := s.cmds.filter (fun x => x.id != m.id) }
    (m.state = .done → ∃ u : State, exec (.tmsync ms) s = .next u ∧ u.mem = s.mem ∧ u.cmds = t.cmds ∧
      u.map ms = (s.map ms).put 0x70 4 (m.values.headD 0) ∧ (∀ q, q ≠ ms → u.map q = s.map q) ∧
      u.me.pend = rest ∧ u.me.run = .ready ∧ u.me.g = s.me.g) ∧
    (∀ st, m.state = .failed st →
      exec (.tmsync ms) s = .next (t.takeTrap 4 { cause := .xferFault, tval := m.tval, sub := st })))

/-- 10 R216 to R223, R225: MLD loads the inside elements of its tile into their lanes, in the format of MFMT, and zero into
the others; MST writes the elements of a tile, each checked against the map's bounds, and counts up the map's generation;
WLOAD fills one slot of the weight buffer, which then is valid and holds the window's format; WFREE makes one invalid. -/
def Obligations.TileMoves : Prop :=
  ∀ (s : State) (g ms d : Fin 32) (pair tr : Bool) (v : Fin 16), s.alone →
    let r := if pair then 2 else 1
    let x := s.me.reg g
    let f := s.me.tileFmt pair
    let ors := fun (fs : List Fl) => fs.foldl (fun f g => f ||| g) (0 : Fl)
    (v.val % r = 0 → (∀ q ∈ groupRegs v r, s.mayV q) → ∀ m es, s.tile ms false pair tr x = .ok (m, es) →
      es.map (fun e => e.1.lane) = ((tileOrder 16 (natK f.bits) tr x).filter (fun e => m.inside e.2)).map (fun e => e.1) ∧
      ∃ u : State, exec (.mld g pair tr ms v) s = .next u ∧ s.vGives u (ors (es.map (fun e => (s.loadElem f e.1).2))) v r ∧
        (∀ e ∈ es, laneOf f.bits (u.me.vnum v r) e.1.lane = (s.loadElem f e.1).1 % 2 ^ f.bits) ∧
        ∀ k < r * f.lanes, (∀ e ∈ es, e.1.lane ≠ k) → laneOf f.bits (u.me.vnum v r) k = 0) ∧
    (v.val % r = 0 → ∀ m es cs fl, s.tile ms true pair tr x = .ok (m, es) →
      storeTiles m f (s.me.vnum v r) es = .ok (cs, fl) →
      ∃ u : State, exec (.mst g pair tr ms v) s = .next u ∧ u.me = ({ s.me with flags := s.me.flags ||| fl } : Ctx).after 4 ∧
        cs.map (fun e => e.1) = es.map (fun e => e.1) ∧
        u.mem = cs.foldl (fun mem e => s.poke mem e.1 e.2) s.mem ∧ u.map ms = (s.map ms).bump ∧
        ∀ a, (∀ e ∈ es, ∀ i < bytesOfBits e.1.bits, a ≠ s.phys (e.1.key + i)) → Memory.get u.mem a = Memory.get s.mem a) ∧
    (v.val % r = 0 → ∀ m es a, s.tile ms true pair tr x = .ok (m, es) →
      storeTiles m f (s.me.vnum v r) es = .error (.trap { cause := .bound, tval := a }) →
      exec (.mst g pair tr ms v) s = .next (s.takeTrap 4 { cause := .bound, tval := a })) ∧
    ((s.map ms).fault (wloadOwn (s.map ms)) = none → ∀ w, s.loadSlot (s.map ms) tr x = .ok w →
      ∃ u : State, exec (.wload g tr ms d) s = .next u ∧ u.me = s.me.after 4 ∧ u.mem = s.mem ∧ s.tablesKept u ∧
        u.mine.wbuf = s.mine.wbuf.set d w ∧ w.valid = true ∧ w.scaled = (s.map ms).scaled ∧ w.sparse = (s.map ms).sparse ∧
        w.tr = tr ∧ w.fmt = BitVec.ofNat 6 (s.me.win (Fin.ofNat 16 (s.map ms).window)).code) ∧
    (∃ u : State, exec (.wfree d) s = .next u ∧ u.me = s.me.after 4 ∧ u.mem = s.mem ∧ s.tablesKept u ∧
      u.mine.wbuf = s.mine.wbuf.set d { s.mine.wbuf[d] with valid := false })

/-- 10 R226 to R231, 06 R127, R130: the matrix instructions. MMA leaves in each element of the pair the exact sum of the
accumulator and its K products, rounded once (or saturated); MCHK leaves in the first 16 lanes the checksums of the rows;
MSFIN divides each row by its sum, and a zero sum raises DZ; MZERO starts a softmax. The result is the registers' when the
instruction completes: before that they hold what they held, unless it is MMA.chk. An empty slot raises WB_EMPTY, formats or
a K that do not fit MAT_FORMAT, and MMA.chk in a faulty matrix unit UNCORRECTABLE, with nothing written. What makes a unit
faulty, and that an MMA.chk completes only in one that is not, is the model's reading (assumption log 19). -/
def Obligations.MatrixResults : Prop :=
  ∀ (s : State) (k : BitVec 2) (wb : Fin 32) (a : Fin 16) (c : Fin 8), s.alone →
    let af := s.me.tileFmt false
    let w := s.mine.wbuf[wb]
    let depth := 16 * 2 ^ k.toNat
    let isInt := s.me.mfmt.getLsbD 5
    let av := fun (r j : Nat) => decodeVal af (laneOf af.bits s.me.v[a].toNat (natK af.bits * r + j))
    let products := fun (r q : Nat) => (List.range depth).map (fun j => Val.mul (av r j) (w.value j q))
    let ors := fun (fs : List Fl) => fs.foldl (fun f g => f ||| g) (0 : Fl)
    let old := s.me.vnum (evenOf c) 2
    let oldz := s.me.z
    let kept := fun (u : State) => u.mem = s.mem ∧ u.clusters = s.clusters ∧ s.tablesKept u
    let ok := w.valid = true ∧ af.isInt = isInt ∧ isInt = decide (0x1E ≤ w.fmt.toNat) ∧ depth = min (natK af.bits) w.kn.toNat
    let elem := fun (z : Bool) (r q : Nat) =>
      let acc := if z then Val.zero false else decodeVal (if isInt then .int 32 true else fp32) (laneOf 32 old (16 * r + q))
      let ps := products r q
      let out := accCode isInt (acc :: ps.map (fun e => e.1))
      (out.1, ors (ps.map (fun e => e.2)) ||| out.2)
    (w.valid = true → ¬ok → ∀ chk z : Bool, ∀ i ∈ [Instr.mma chk z k wb a c, .mchk k wb a c],
      exec i s = .next (s.takeTrap 4 { cause := .matFormat, tval := BitVec.ofNat 64 i.word })) ∧
    (ok → s.mine.badMat = true → ∀ z : Bool, ∃ tval, exec (.mma true z k wb a c) s =
      .next (s.takeTrap 4 { cause := .uncorrectable, tval := tval, mismatch := true })) ∧
    (ok → s.mayV (evenOf c) → s.mayV (oddOf c) → ∀ chk z : Bool, (chk = true → s.mine.badMat = false) →
      ∃ (u : State) (v : Vector VReg 16), exec (.mma chk z k wb a c) s = .next u ∧ kept u ∧
        u.me.settle = ({ s.me with
          v := v, flags := s.me.flags ||| ors (pairOrder.map (fun e => (elem z e.1 e.2).2)) } : Ctx).after 4 ∧
        (chk = false → u.me.v = s.me.v ∧ u.me.flags = s.me.flags) ∧ (chk = true → u.me.mat = none) ∧
        (∀ q : Fin 16, q ≠ evenOf c → q ≠ oddOf c → v[q] = s.me.v[q]) ∧
        ∀ r < 16, ∀ q < 16, laneOf 32 (u.me.settle.vnum (evenOf c) 2) (16 * r + q) = (elem z r q).1 % 2 ^ 32) ∧
    (ok → s.mayV (evenOf c) →
      ∃ (u : State) (v : VReg) (fl : Fl), exec (.mchk k wb a c) s = .next u ∧ kept u ∧
        u.me.settle = ({ s.me with v := s.me.v.set (evenOf c) v, flags := s.me.flags ||| fl } : Ctx).after 4 ∧
        (∀ r < 16, laneOf 32 v.toNat r = (accCode isInt ((List.range depth).map (fun j =>
          (Val.mul (av r j) (exactSum ((List.range 16).map (fun q => w.value j q))).1).1))).1 % 2 ^ 32) ∧
        ∀ r, 16 ≤ r → r < 128 → laneOf 32 v.toNat r = laneOf 32 s.me.v[evenOf c].toNat r) ∧
    (w.valid = false → ∀ chk z : Bool, ∀ i ∈ [Instr.mma chk z k wb a c, .mchk k wb a c],
      exec i s = .next (s.takeTrap 4 { cause := .wbEmpty, tval := BitVec.ofNat 64 wb.val })) ∧
    (isInt = false → s.mayV (evenOf c) → s.mayV (oddOf c) →
      ∃ (u : State) (v : Vector VReg 16) (fl : Fl), exec (.msfin k c) s = .next u ∧ kept u ∧
        u.me.settle = ({ s.me with v := v, flags := s.me.flags ||| fl } : Ctx).after 4 ∧
        (∀ q : Fin 16, q ≠ evenOf c → q ≠ oddOf c → v[q] = s.me.v[q]) ∧
        (∀ r < 16, laneOf 32 oldz[zSum k].toNat r % 2 ^ 31 = 0 → fl &&& 0x08 = 0x08) ∧
        ∀ r < 16, ∀ q < 16, laneOf 32 (u.me.settle.vnum (evenOf c) 2) (16 * r + q) = (roundTo (Val.div
          (decodeVal fp32 (laneOf 32 old (16 * r + q))) (decodeVal fp32 (laneOf 32 oldz[zSum k].toNat r))).1 fp32 .rne false).1 % 2 ^ 32) ∧
    (isInt = true → ∀ i ∈ [Instr.msoft k 0 c, .msfin k c],
      exec i s = .next (s.takeTrap 4 { cause := .matFormat, tval := BitVec.ofNat 64 i.word })) ∧
    (∃ u : State, exec (.mzero k) s = .next u ∧ kept u ∧
      u.me.settle = ({ s.me with z := (oldz.set (zMax k) (BitVec.ofNat 512 (packed 32 (List.replicate 16 0xFF800000)))).set (zSum k) 0 } : Ctx).after 4)

/-- 10 R229, 06 R131: MSOFT on each row: its new maximum m' is the greatest of the row's scores and the old maximum; each
score becomes 2^(s − m') in BF16, the row sum becomes its old value times α = 2^(m − m') plus the sum of those, rounded once,
and each output becomes its old value times α, in FP32 to nearest even. Where m' is −∞, the scores become +0 and α is 1. An
odd VA raises ILLEGAL. The model's own here: 2^x is taken to 240 bits of fraction and a sticky bit before it is rounded (assumption
log 9), and where VA is the even or the odd register of VC, VA holds the scores (assumption log 21). -/
def Obligations.OnlineSoftmax : Prop :=
  ∀ (s : State) (k : BitVec 2) (a : Fin 16) (c : Fin 8), s.alone →
    (a.val % 2 = 1 → exec (.msoft k a c) s =
      .next (s.takeTrap 4 { cause := .illegal, tval := BitVec.ofNat 64 (Instr.word (.msoft k a c)) })) ∧
    (a.val % 2 = 0 → s.me.mfmt.getLsbD 5 = false → s.mayV (evenOf c) → s.mayV (oddOf c) → s.mayV a →
    let score := fun (r q : Nat) => laneOf 32 (s.me.vnum a 2) (16 * r + q)
    let outp := fun (r q : Nat) => laneOf 32 (s.me.vnum (evenOf c) 2) (16 * r + q)
    let sum := fun (r : Nat) => laneOf 32 (s.me.z[zSum k]).toNat r
    let top := fun (r : Nat) => laneOf 32 (s.me.z[zMax k]).toNat r
    let max' := fun (r : Nat) => (List.range 16).foldl (fun m q => (minMaxCode fp32 true m (score r q)).1) (top r)
    let ex := fun (f : Fmt) (r x : Nat) =>
      (roundTo (Val.exp2 (Val.sub .rne (decodeVal fp32 x) (decodeVal fp32 (max' r))).1).1 f .rne false).1
    ∃ (u : State) (fl : BitVec 6), exec (.msoft k a c) s = .next u ∧ u.mem = s.mem ∧ u.clusters = s.clusters ∧ s.tablesKept u ∧
      u.me.v = s.me.v ∧ u.me.z = s.me.z ∧
      (let t := u.me.settle
      t.flags = s.me.flags ||| fl ∧ t.g = s.me.g ∧ t.pc = (s.me.after 4).pc ∧
      (∀ q : Fin 16, q ≠ evenOf c → q ≠ oddOf c → q ≠ a → t.v[q] = s.me.v[q]) ∧
      ∀ r < 16, laneOf 32 (t.z[zMax k]).toNat r = max' r % 2 ^ 32 ∧
        (let dead := max' r = 0xFF800000
        let alpha := decodeVal fp32 (if dead then 0x3F800000 else ex fp32 r (top r))
        let ps := (List.range 16).map (fun q => if dead then 0 else ex bf16 r (score r q))
        (∀ q < 16, a ≠ evenOf c → a ≠ oddOf c →
          laneOf 32 (t.vnum (evenOf c) 2) (16 * r + q) = (roundTo (Val.mul (decodeVal fp32 (outp r q)) alpha).1 fp32 .rne false).1 % 2 ^ 32) ∧
        (∀ q < 16, laneOf 16 (t.v[a]).toNat (16 * r + q) = ps.getD q 0 % 2 ^ 16) ∧
        laneOf 32 (t.z[zSum k]).toNat r = (roundTo (exactSum ((Val.mul (decodeVal fp32 (sum r)) alpha).1 ::
          ps.map (decodeVal bf16))).1 fp32 .rne false).1 % 2 ^ 32)))

/-- 09 R180, R182, R184, R187, Table 09-3: the elementwise instructions on an integer type. Each active lane holds the low
w bits of the exact result (vadds: the sum clamped to the range, with OF), each masked lane its old code; no other flag is
raised, and no other register and no byte of memory changes. The instructions of the floating types alone raise ILLEGAL. -/
def Obligations.VectorIntegerLanes : Prop :=
  ∀ (s : State) (e : BitVec 4) (t : Fmt) (p : Fin 8) (g : Fin 32) (b a d : Fin 16), s.alone → s.mayV d → e.toNat < 12 →
    s.me.elem e.toNat = .ok t → t.isInt = true →
    let x := fun k => intOf t (laneOf t.bits s.me.v[a].toNat k)
    let y := fun k => intOf t (laneOf t.bits s.me.v[b].toNat k)
    let z := fun k => intOf t (laneOf t.bits s.me.v[d].toNat k)
    let c := (s.me.reg g).toNat
    (∀ (i : Instr) (f : Nat → Int),
      (i, f) ∈ [(Instr.vadd e p b a d, fun k => x k + y k), (.vsub e p b a d, fun k => x k - y k),
        (.vmul e p b a d, fun k => x k * y k), (.vfma e p b a d, fun k => x k * y k + z k),
        (.vmin e p b a d, fun k => if y k < x k then y k else x k), (.vmax e p b a d, fun k => if x k < y k then y k else x k),
        (.vabs e p a d, fun k => if x k < 0 then -x k else x k), (.vneg e p a d, fun k => -x k),
        (.vshl e p g a d, fun k => if c < t.bits then x k * 2 ^ c else 0),
        (.vshr e p g a d, fun k => x k / 2 ^ (min c t.bits))] →
      ∃ u : State, exec i s = .next u ∧ s.vGives u 0 d 1 ∧
        lanesAre t.bits t.lanes (s.me.pred p) u.me.v[d].toNat s.me.v[d].toNat (fun k => intCode t.bits (f k))) ∧
    (∃ u : State, exec (.vadds e p b a d) s = .next u ∧
      s.vGives u (raised t.lanes (s.me.pred p) (fun k => if x k + y k < t.intMin ∨ t.intMax < x k + y k then flOF else 0)) d 1 ∧
      lanesAre t.bits t.lanes (s.me.pred p) u.me.v[d].toNat s.me.v[d].toNat (fun k =>
        intCode t.bits (if x k + y k < t.intMin then t.intMin else if t.intMax < x k + y k then t.intMax else x k + y k))) ∧
    (∀ i ∈ [Instr.vdiv e p b a d, .vsqrt e p a d, .vrsqrt e p a d, .vrcp e p a d, .vexp2 e p a d, .vlog2 e p a d],
      exec i s = .next (s.takeTrap 4 { cause := .illegal, tval := BitVec.ofNat 64 i.word }))

/-- 09 R180, R182, R187, Table 09-3, 06 R118, R120, R123, R132: the elementwise instructions on a floating type. Each active
lane holds the exact result of its lanes rounded once in the mode of FRM, and the flags of the active lanes are ORed in;
vmin and vmax give the canonical NaN for a NaN operand and order −0 below +0; the frame is that of the integer forms. The
shifts raise ILLEGAL. For vexp2 and vlog2 the exact result is taken to 240 bits of fraction and a sticky bit, the model's
reading (assumption log 9). -/
def Obligations.VectorFloatingLanes : Prop :=
  ∀ (s : State) (e : BitVec 4) (t : Fmt) (p : Fin 8) (g : Fin 32) (b a d : Fin 16), s.alone → s.mayV d → e.toNat < 12 →
    s.me.elem e.toNat = .ok t → t.isInt = false →
    let x := fun k => decodeVal t (laneOf t.bits s.me.v[a].toNat k)
    let y := fun k => decodeVal t (laneOf t.bits s.me.v[b].toNat k)
    let z := fun k => decodeVal t (laneOf t.bits s.me.v[d].toNat k)
    let rm := Rm.ofBits s.me.frm.toNat
    (∀ (i : Instr) (f : Nat → Val × Fl) (sat : Bool),
      (i, f, sat) ∈ [(Instr.vadd e p b a d, fun k => Val.add rm (x k) (y k), false),
        (.vsub e p b a d, fun k => Val.sub rm (x k) (y k), false), (.vmul e p b a d, fun k => Val.mul (x k) (y k), false),
        (.vfma e p b a d, fun k => Val.fma rm (x k) (y k) (z k), false),
        (.vdiv e p b a d, fun k => Val.div (x k) (y k), false), (.vabs e p a d, fun k => ((x k).abs, 0), false),
        (.vneg e p a d, fun k => ((x k).negate, 0), false), (.vsqrt e p a d, fun k => (x k).sqrt, false),
        (.vrsqrt e p a d, fun k => (x k).rsqrt, false), (.vrcp e p a d, fun k => Val.div (.ofInt 1) (x k), false),
        (.vexp2 e p a d, fun k => (x k).exp2, false), (.vlog2 e p a d, fun k => (x k).log2, false),
        (.vadds e p b a d, fun k => Val.add rm (x k) (y k), true)] →
      ∃ u : State, exec i s = .next u ∧
        s.vGives u (raised t.lanes (s.me.pred p) (fun k => (f k).2 ||| (roundTo (f k).1 t rm sat).2)) d 1 ∧
        lanesAre t.bits t.lanes (s.me.pred p) u.me.v[d].toNat s.me.v[d].toNat (fun k => (roundTo (f k).1 t rm sat).1)) ∧
    (∀ (i : Instr) (first : Val → Val → Bool),
      (i, first) ∈ [(Instr.vmin e p b a d, fun m n => !n.ltTotal m), (.vmax e p b a d, fun m n => !m.ltTotal n)] →
      ∃ u : State, exec i s = .next u ∧
        s.vGives u (raised t.lanes (s.me.pred p) (fun k => if (x k).sig ∨ (y k).sig then flNV else 0)) d 1 ∧
        lanesAre t.bits t.lanes (s.me.pred p) u.me.v[d].toNat s.me.v[d].toNat (fun k =>
          if (x k).isNan ∨ (y k).isNan then t.nanCode
          else if first (x k) (y k) then laneOf t.bits s.me.v[a].toNat k else laneOf t.bits s.me.v[b].toNat k)) ∧
    (∀ i ∈ [Instr.vshl e p g a d, .vshr e p g a d],
      exec i s = .next (s.takeTrap 4 { cause := .illegal, tval := BitVec.ofNat 64 i.word }))

/-- 09 R188 to R190, R197, R198, Table 09-3: bitwise lanes, the clamp, the select, the compares and the moves. A compare
writes bit k of pD for lane k, keeps the masked bits and clears those past the lanes; it discards a write of p0. vext gives
the named lane, extended by its type, or keeps gN where that lane is masked. -/
def Obligations.VectorMovesAndCompares : Prop :=
  ∀ (s : State) (e : BitVec 4) (t : Fmt) (p pd : Fin 8) (g : Fin 32) (b a d : Fin 16), s.alone → e.toNat < 12 →
    s.me.elem e.toNat = .ok t →
    let m := s.me.pred p
    let x := fun k => laneOf t.bits s.me.v[a].toNat k
    let y := fun k => laneOf t.bits s.me.v[b].toNat k
    let c := s.me.reg g
    (s.mayV d → ∀ (i : Instr) (f : Nat → Nat),
      (i, f) ∈ [(Instr.vand e p b a d, fun k => x k &&& y k), (.vor e p b a d, fun k => x k ||| y k),
        (.vxor e p b a d, fun k => x k ^^^ y k), (.vperm e p b a d, fun k => x (y k % t.lanes)),
        (.vbcast e p g d, fun _ => c.toNat), (.vins e p g a d, fun k => if k = 0 then c.toNat else x (k - 1)),
        (.vzero e p d, fun _ => 0), (.vmov e p a d, x)] →
      ∃ u : State, exec i s = .next u ∧ s.vGives u 0 d 1 ∧ lanesAre t.bits t.lanes m u.me.v[d].toNat s.me.v[d].toNat f) ∧
    (s.mayV d → ∃ u : State, exec (.vsel e p b a d) s = .next u ∧ s.vGives u 0 d 1 ∧
      ∀ k < t.lanes, laneOf t.bits u.me.v[d].toNat k = if lane m k then x k else y k) ∧
    (s.mayV d → ∃ u : State, exec (.viota e p g d) s = .next u ∧
      let rm := Rm.ofBits s.me.frm.toNat
      let out := fun (k : Nat) => if t.isInt then (intCode t.bits (c.toInt + k), 0) else roundTo (.ofInt (c.toInt + k)) t rm false
      s.vGives u (raised t.lanes m (fun k => (out k).2)) d 1 ∧
      lanesAre t.bits t.lanes m u.me.v[d].toNat s.me.v[d].toNat (fun k => (out k).1)) ∧
    (s.mayV d → ∃ u : State, exec (.vclamp e p g a d) s = .next u ∧
      let lo := clampBound t (c.toNat % 2 ^ 32) .rup
      let hi := clampBound t (c.toNat / 2 ^ 32) .rdn
      let v := fun k => decodeVal t (x k)
      s.vGives u (raised t.lanes m (fun k => if (v k).sig then flNV else 0)) d 1 ∧
      lanesAre t.bits t.lanes m u.me.v[d].toNat s.me.v[d].toNat (fun k =>
        if (v k).isNan then t.nanCode
        else match hi.filter (fun h => Val.cmp (v k) h.1 > 0), lo.filter (fun l => Val.cmp (v k) l.1 < 0) with
          | some h, _ => h.2
          | none, some l => l.2
          | none, none => x k)) ∧
    (exec (.vext e p g a) s = .next (
      let k := c.toNat % t.lanes
      if lane m k then s.gives 4 g (if t.isInt then BitVec.ofInt 64 (intOf t (x k)) else BitVec.ofNat 64 (x k))
      else s.onMe 4 id)) ∧
    (∀ (i : Instr) (ok : Int → Int → Bool) (okv : Int → Bool) (quiet : Bool),
      (i, ok, okv, quiet) ∈ [(Instr.vcmpeq e p b a pd, fun m n => decide (m = n), fun c => decide (c = 0), true),
        (.vcmplt e p b a pd, fun m n => decide (m < n), fun c => decide (c < 0), false),
        (.vcmple e p b a pd, fun m n => decide (m ≤ n), fun c => decide (c ≤ 0), false)] →
      let v := fun k => decodeVal t (x k)
      let w := fun k => decodeVal t (y k)
      let holds := fun k => if t.isInt then ok (intOf t (x k)) (intOf t (y k))
        else !((v k).isNan || (w k).isNan) && okv (Val.cmp (v k) (w k))
      let fl := raised t.lanes m (fun k => if t.isInt then 0 else
        if (v k).sig ∨ (w k).sig ∨ (quiet = false ∧ ((v k).isNan ∨ (w k).isNan)) then flNV else 0)
      ∃ (u : State) (ps : Vector PReg 8), exec i s = .next u ∧ u.mem = s.mem ∧ s.tablesKept u ∧
        u.me = ({ s.me with flags := s.me.flags ||| fl, p := ps } : Ctx).after 4 ∧
        (∀ q : Fin 8, q ≠ pd ∨ pd = 0 → ps[q] = s.me.p[q]) ∧
        (pd ≠ 0 → ∀ k < 1024, ps[pd].getLsbD k = (decide (k < t.lanes) && if lane m k then holds k else (s.me.pred pd).getLsbD k)))

/-- 09 R181, R191 to R194, Table 09-4, 06 R121, R122: vcvt converts each active element with one rounding (between integer
types it clamps with OF), into and out of the group that the wider side is; vaddw and vmacw write the wide group of the
narrow type's ratio, clamping integers with OF; vnarrow rounds or clamps the wide group's elements into one register. -/
def Obligations.VectorWidening : Prop :=
  ∀ (s : State) (e : BitVec 4) (t : Fmt) (p : Fin 8) (b a d : Fin 16), s.alone → e.toNat < 12 →
    s.me.elem e.toNat = .ok t →
    let m := s.me.pred p
    let rm := Rm.ofBits s.me.frm.toNat
    (∀ (te : BitVec 4) (src : Fmt), te.toNat < 12 → s.me.elem te.toNat = .ok src →
      let nar := min src.bits t.bits
      let rd := t.bits / nar
      let rs := src.bits / nar
      let conv := fun k =>
        let c := laneOf src.bits (s.me.vnum a rs) k
        if src.isInt = true ∧ t.isInt = true then
          let i := intOf src c
          (intCode t.bits (if i < t.intMin then t.intMin else if t.intMax < i then t.intMax else i),
            if i < t.intMin ∨ t.intMax < i then flOF else 0)
        else roundTo (decodeVal src c) t rm false
      d.val % rd = 0 → a.val % rs = 0 → (∀ q ∈ groupRegs d rd, s.mayV q) →
      ∃ u : State, exec (.vcvt e p te a d) s = .next u ∧ s.vGives u (raised (4096 / nar) m (fun k => (conv k).2)) d rd ∧
        lanesAre t.bits (4096 / nar) m (u.me.vnum d rd) (s.me.vnum d rd) (fun k => (conv k).1)) ∧
    (∀ (w : Fmt) (r : Nat), wideOf e = some (w, r) →
      let sum := fun (mul : Bool) (k : Nat) =>
        let x := laneOf t.bits s.me.v[a].toNat k
        let y := laneOf t.bits s.me.v[b].toNat k
        let z := laneOf w.bits (s.me.vnum d r) k
        if w.isInt then
          let i := if mul then intOf w z + intOf t x * intOf t y else intOf t x + intOf t y
          (intCode w.bits (if i < w.intMin then w.intMin else if w.intMax < i then w.intMax else i),
            if i < w.intMin ∨ w.intMax < i then flOF else 0)
        else
          let v := if mul then Val.fma rm (decodeVal t x) (decodeVal t y) (decodeVal w z)
            else Val.add rm (decodeVal t x) (decodeVal t y)
          ((roundTo v.1 w rm false).1, v.2 ||| (roundTo v.1 w rm false).2)
      (d.val % r = 0 → (∀ q ∈ groupRegs d r, s.mayV q) → ∀ (i : Instr) (mul : Bool),
        (i, mul) ∈ [(Instr.vaddw e p b a d, false), (.vmacw e p b a d, true)] →
        ∃ u : State, exec i s = .next u ∧ s.vGives u (raised t.lanes m (fun k => (sum mul k).2)) d r ∧
          lanesAre w.bits t.lanes m (u.me.vnum d r) (s.me.vnum d r) (fun k => (sum mul k).1)) ∧
      (a.val % r = 0 → s.mayV d → ∀ sat : Bool,
        let out := fun k =>
          let c := laneOf w.bits (s.me.vnum a r) k
          if t.isInt then
            let i := intOf w c
            (intCode t.bits (if i < t.intMin then t.intMin else if t.intMax < i then t.intMax else i),
              if i < t.intMin ∨ t.intMax < i then flOF else 0)
          else roundTo (decodeVal w c) t rm sat
        ∃ u : State, exec (.vnarrow e p sat a d) s = .next u ∧ s.vGives u (raised t.lanes m (fun k => (out k).2)) d 1 ∧
          lanesAre t.bits t.lanes m u.me.v[d].toNat s.me.v[d].toNat (fun k => (out k).1)))

/-- 09 R195, R196, 06 R133, R134, 00 R8: vscan leaves in each active lane the sum of its segment up to it in lane order,
starting from the carry where it is enabled; vredsum leaves in lane 0 the tree sum of the active lanes, vredmax and vredmin
a greatest and a least of them (the least or greatest value of the type with none); lanes past 0 keep their codes. -/
def Obligations.VectorScansAndReductions : Prop :=
  ∀ (s : State) (e : BitVec 4) (t : Fmt) (p : Fin 8) (g : Fin 32) (a d : Fin 16), s.alone → s.mayV d → e.toNat < 12 →
    s.me.elem e.toNat = .ok t →
    let m := s.me.pred p
    let rm := Rm.ofBits s.me.frm.toNat
    let x := fun k => laneOf t.bits s.me.v[a].toNat k
    let old := fun k => laneOf t.bits s.me.v[d].toNat k
    let lanes := (List.range t.lanes).filter (fun k => lane m k)
    (∃ (u : State) (fl : Fl), exec (.vscan e p g a d) s = .next u ∧ s.vGives u fl d 1 ∧
      let c := (s.me.reg g).toNat
      let len := min (2 ^ (c % 16)) t.lanes
      let new := fun k => laneOf t.bits u.me.v[d].toNat k
      ∀ k < t.lanes,
        (lane m k = false → new k = old k) ∧
        (lane m k = true →
          match ((List.range k).filter (fun j => lane m j && decide (j / len = k / len))).getLast? with
          | some j => new k = (addCodes t rm (new j) (x k)).1 % 2 ^ t.bits
          | none => new k = if c / 16 % 2 = 1 then (addCodes t rm (old (k / len * len + len - 1)) (x k)).1 % 2 ^ t.bits else x k)) ∧
    (∀ (i : Instr) (ok : Nat → Fl → Prop),
      (i, ok) ∈ [
        (Instr.vredsum e p a d, fun (c : Nat) (fl : Fl) =>
          let r := pairwise (addCodes t rm) 10 ((List.range t.lanes).map (fun k => if lane m k then some (x k) else none))
          c = r.1.getD 0 % 2 ^ t.bits ∧ fl = r.2),
        (.vredmax e p a d, fun c fl =>
          (lanes = [] → c = t.limit false ∧ fl = 0) ∧
          (t.isInt = true → lanes ≠ [] → fl = 0 ∧ c ∈ lanes.map x ∧ ∀ k ∈ lanes, intOf t (x k) ≤ intOf t c) ∧
          (t.isInt = false → (∃ k ∈ lanes, (decodeVal t (x k)).isNan = true) →
            c = t.nanCode ∧ fl = if ∃ k ∈ lanes, (decodeVal t (x k)).sig = true then flNV else 0) ∧
          (t.isInt = false → lanes ≠ [] → (∀ k ∈ lanes, (decodeVal t (x k)).isNan = false) →
            fl = 0 ∧ c ∈ lanes.map x ∧ ∀ k ∈ lanes, (decodeVal t c).ltTotal (decodeVal t (x k)) = false)),
        (.vredmin e p a d, fun c fl =>
          (lanes = [] → c = t.limit true ∧ fl = 0) ∧
          (t.isInt = true → lanes ≠ [] → fl = 0 ∧ c ∈ lanes.map x ∧ ∀ k ∈ lanes, intOf t c ≤ intOf t (x k)) ∧
          (t.isInt = false → (∃ k ∈ lanes, (decodeVal t (x k)).isNan = true) →
            c = t.nanCode ∧ fl = if ∃ k ∈ lanes, (decodeVal t (x k)).sig = true then flNV else 0) ∧
          (t.isInt = false → lanes ≠ [] → (∀ k ∈ lanes, (decodeVal t (x k)).isNan = false) →
            fl = 0 ∧ c ∈ lanes.map x ∧ ∀ k ∈ lanes, (decodeVal t (x k)).ltTotal (decodeVal t c) = false))] →
      ∃ (u : State) (fl : Fl), exec i s = .next u ∧ s.vGives u fl d 1 ∧ ok (laneOf t.bits u.me.v[d].toNat 0) fl ∧
        ∀ k, 0 < k → k < t.lanes → laneOf t.bits u.me.v[d].toNat k = old k)

/-- 09 R199 to R203, Table 09-6, 08 R155: the vector loads and stores. With every active element checked, a load leaves in
each active lane its element, unchanged through window 0 and converted through another, and a store writes each lane to its
element in lane order and no other byte; the flags are those of the conversions; a failing element traps, with no effect.
Lane k of vld lies at gA + gB + k·n, of vlds at gA + k·gB, of vgath at gA + index·n. An index times half a byte is the
model's reading (assumption log 16). -/
def Obligations.VectorMemoryAccess : Prop :=
  ∀ (s : State) (e : BitVec 4) (t : Fmt) (p : Fin 8) (gb ga : Fin 32) (x d : Fin 16), s.alone → e.toNat < 12 →
    s.me.elem e.toNat = .ok t →
    let m := s.me.pred p
    let va := s.me.reg ga
    let vb := s.me.reg gb
    let code := fun (k : Nat) => laneOf t.bits s.me.v[d].toNat k
    let ors := fun (fs : List Fl) => fs.foldl (fun f g => f ||| g) (0 : Fl)
    (∀ (ld st : Instr) (els : M (List Elem)),
      (ld, st, els) ∈ [(Instr.vld e p gb ga d, Instr.vst e p gb ga d, s.contigElems t m va vb),
        (.vlds e p gb ga d, .vsts e p gb ga d, s.stridedElems t m va vb),
        (.vgath e p x ga d, .vscat e p x ga d, s.gatherElems t m va s.me.v[x].toNat)] →
      (∀ es, els = .ok es → es.map Elem.lane = activeLanes m t.lanes ∧
        (s.mayV d → s.soundElems es = .ok () → ∃ u : State, exec ld s = .next u ∧
          s.vGives u (ors (es.map (fun el => (s.loadElem t el).2))) d 1 ∧
          (∀ el ∈ es, laneOf t.bits u.me.v[d].toNat el.lane = (s.loadElem t el).1 % 2 ^ t.bits) ∧
          (∀ k < t.lanes, lane m k = false → laneOf t.bits u.me.v[d].toNat k = code k)) ∧
        (∃ u : State, exec st s = .next u ∧ s.tablesKept u ∧ u.clusters = s.clusters ∧
          u.me = ({ s.me with flags := s.me.flags ||| ors (es.map (fun el => (storeElem t el (code el.lane)).2)) } : Ctx).after 4 ∧
          u.mem = es.foldl (fun mem el => s.poke mem el (storeElem t el (code el.lane)).1) s.mem ∧
          ∀ a, (∀ el ∈ es, ∀ i < bytesOfBits el.bits, a ≠ s.phys (el.key + i)) → Memory.get u.mem a = Memory.get s.mem a)) ∧
      (∀ (c : Cause) (a : Word), els = .error (.trap { cause := c, tval := a }) → ∀ i ∈ [ld, st],
        exec i s = .next (s.takeTrap 4 { cause := c, tval := a }))) ∧
    (∀ (i : Instr) (adr : Nat → Word),
      let n := t.bits / 8
      (i, adr) ∈ [(Instr.vld e p gb ga d, fun k => va + vb + BitVec.ofNat 64 (k * n)),
        (.vlds e p gb ga d, fun k => va + BitVec.ofNat 64 k * vb),
        (.vgath e p x ga d, fun k => va + BitVec.ofNat 64 (laneOf t.bits s.me.v[x].toNat k * n))] →
      s.mayV d → 8 ≤ t.bits → (i = .vgath e p x ga d → winNo va = 0) →
      (i = .vld e p gb ga d → winNo (va + vb) = 0 ∧ ∀ k < t.lanes, ∀ j < t.lanes, lane m k = true → lane m j = true →
        (adr k).toNat / 2 ^ 19 = (adr j).toNat / 2 ^ 19) →
      (∀ k < t.lanes, lane m k = true → winNo (adr k) = 0 ∧ s.reaches (adr k) n ∧ s.clean (adr k) n) →
      ∃ u : State, exec i s = .next u ∧ s.vGives u 0 d 1 ∧
        lanesAre t.bits t.lanes m u.me.v[d].toNat s.me.v[d].toNat (fun k => numOf (s.bytes (s.keyOf (adr k)) n)))

/-- 12 R275, R276, Table 12-11: the local witnessed reductions over the lanes of N registers. vwmax and vwmin give a greatest
or least value and its lowest index (a NaN gives the canonical NaN and the index of the first), vwmed the value at the middle
of a stable ascending sort with its index, vwclamp the clamped value and its code, vwssum the left fold, saturating at each
step, and whether one saturated; vadj passes each lane to the output that its witness names, else 0. One register for both
results, a clamp of other than three, another kind of vadj or an output run past v15 raises ILLEGAL, and so, by the model's
reading, does a source run past v15 (assumption log 24). -/
def Obligations.LocalWitnessedReductions : Prop :=
  ∀ (s : State) (e n : BitVec 4) (t : Fmt) (w a d : Fin 16), s.alone → s.mayV d → e.toNat < 12 →
    s.me.elem e.toNat = .ok t →
    let num := n.toNat + 1
    let x := fun (j k : Nat) => laneOf t.bits (s.me.v[(Fin.ofNat 16 (a.val + j) : Fin 16)]).toNat k
    let v := fun j k => decodeVal t (x j k)
    let nan := fun j k => !t.isInt && (v j k).isNan
    let anySig := fun (k : Nat) => if t.isInt = false ∧ ∃ j < num, (v j k).sig = true then flNV else 0
    let flags := fun (f : Nat → Fl) => (List.range t.lanes).foldl (fun g k => g ||| f k) (0 : Fl)
    let outcome := fun (i : Instr) (wb : Nat) (f : Nat → Fl) (ok : Nat → Nat → Nat → Prop) =>
      ∃ (u : State) (r wr : VReg), exec i s = .next u ∧ u.mem = s.mem ∧ u.clusters = s.clusters ∧ s.tablesKept u ∧
        u.me = ({ s.me with flags := s.me.flags ||| flags f, v := (s.me.v.set d r).set w wr } : Ctx).after 4 ∧
        (∀ k < t.lanes, ok k (laneOf t.bits r.toNat k) (laneOf wb wr.toNat k)) ∧ wr.toNat < 2 ^ (wb * t.lanes)
    (w ≠ d → s.mayV w → a.val + n.toNat < 16 →
      (∀ (i : Instr) (better : Nat → Nat → Bool),
        (i, better) ∈ [(Instr.vwmax e n w a d, fun c r => sortsBefore t r c), (.vwmin e n w a d, fun c r => sortsBefore t c r)] →
        outcome i 4 anySig (fun k c j => j < num ∧
          ((∃ m < num, nan m k = true) → c = t.nanCode ∧ nan j k = true ∧ ∀ m < j, nan m k = false) ∧
          ((∀ m < num, nan m k = false) → c = x j k ∧ (∀ m < num, better (x m k) c = false) ∧ ∀ m < j, better c (x m k) = true))) ∧
      outcome (.vwmed e n w a d) 4 anySig (fun k c j => j < num ∧ c = (if nan j k then t.nanCode else x j k) ∧
        ((List.range num).filter (fun m => sortsBefore t (x m k) (x j k) ||
          (!sortsBefore t (x j k) (x m k) && decide (m < j)))).length = n.toNat / 2) ∧
      (n = 2 → outcome (.vwclamp e n w a d) 2 anySig (fun k c j =>
        if (v 0 k).isNan then c = t.nanCode ∧ j = 3
        else if (v 2 k).isNan = false ∧ Val.cmp (v 0 k) (v 2 k) > 0 then c = x 2 k ∧ j = 2
        else if (v 1 k).isNan = false ∧ Val.cmp (v 0 k) (v 1 k) < 0 then c = x 1 k ∧ j = 1
        else c = x 0 k ∧ j = 0)) ∧
      (n ≠ 2 → exec (.vwclamp e n w a d) s =
        .next (s.takeTrap 4 { cause := .illegal, tval := BitVec.ofNat 64 (Instr.word (.vwclamp e n w a d)) })) ∧
      (∃ run : Nat → Nat → Nat × Fl, (∀ k, run k 0 = (x 0 k, 0)) ∧
        (∀ k j, run k (j + 1) = laneAdds t (Rm.ofBits s.me.frm.toNat) (run k j).1 (x (j + 1) k) 0) ∧
        outcome (.vwssum e n w a d) 1 (fun k => (List.range num).foldl (fun f j => f ||| (run k j).2) 0) (fun k c j =>
          c = (run k n.toNat).1 % 2 ^ t.bits ∧ j = if ∃ m < num, (run k m).2 &&& flOF ≠ 0 then 1 else 0))) ∧
    (w = d ∨ 16 ≤ a.val + n.toNat → ∀ i ∈ [Instr.vwmax e n w a d, .vwmin e n w a d, .vwmed e n w a d, .vwclamp e n w a d, .vwssum e n w a d],
      exec i s = .next (s.takeTrap 4 { cause := .illegal, tval := BitVec.ofNat 64 i.word })) ∧
    (∀ (kd : BitVec 4) (wb : Nat), (kd, wb) ∈ [((0 : BitVec 4), 4), (1, 2), (2, 1)] → (kd ≠ 0 → n = 0) → d.val + n.toNat < 16 →
      (∀ q ∈ groupRegs d num, s.mayV q) →
      ∃ u : State, exec (.vadj e n w kd d) s = .next u ∧ s.vGives u 0 d num ∧
        ∀ j < num, ∀ k < t.lanes, laneOf t.bits (u.me.v[(Fin.ofNat 16 (d.val + j) : Fin 16)]).toNat k =
          if laneOf wb s.me.v[w].toNat k = j then laneOf t.bits s.me.v[d].toNat k else 0) ∧
    (∀ kd : BitVec 4, 2 < kd.toNat ∨ (kd ≠ 0 ∧ n ≠ 0) ∨ 16 ≤ d.val + n.toNat → exec (.vadj e n w kd d) s =
      .next (s.takeTrap 4 { cause := .illegal, tval := BitVec.ofNat 64 (Instr.word (.vadj e n w kd d)) }))
/-- 12 R264 to R266, R269, R270, 10 R221: a CRED, CBCAST or CADJ whose checks pass, with room in its engine's inbox, enters
the CLE of its die with the maps it captured and the handle's OPSEQ, which counts up; it counts its bytes at the handle's
barrier, stamps the maps' WIDs, and the context goes on. No other byte of memory changes. -/
def Obligations.CollectiveCommandsEnterTheirEngine : Prop :=
  ∀ (s : State) (mw mb ma g : Fin 32), s.alone → s.memOk → s.me.caught = none →
    ∀ (i : Instr) (op : Nat) (w : Option (Fin 32)),
      (i, op, w) ∈ [(Instr.credSum mb ma g, 0, none), (.credMax mw mb ma g, 1, if mw = 31 then none else some mw),
        (.credMin mw mb ma g, 2, if mw = 31 then none else some mw), (.credMed mw mb ma g, 3, if mw = 31 then none else some mw),
        (.credSsum mw mb ma g, 4, if mw = 31 then none else some mw), (.cbcast mb ma g, 5, none),
        (.cadj mw mb ma g, 6, some mw)] →
      ∀ m b, s.captureColl op mb ma w (s.me.reg g) = .ok m → m.bar = some b → s.boxRoom m.engine = true →
        s.first (.engine m.engine) = true →
        let q := s.phys (m.boxAddr + 0x20)
        let t := s.phys b
        let gen := ((s.map mb).wid / 16 % 2 ^ 24 + 1) % 2 ^ 24
        m.engine = .cle (Fin.ofNat 8 s.dieOf) ∧ m.dst = s.map mb ∧ m.src = s.map ma ∧ m.core = s.at_ ∧ m.slot = s.slot ∧
        ∃ u : State, exec i s = .next u ∧ ({ u.me with mon := s.me.mon } : Ctx) = s.me.after 4 ∧
          u.cmds = s.cmds ++ [{ m with id := s.names, opseq := s.load (m.boxAddr + 0x20) 4 }] ∧
          (∀ a, (a < q ∨ q + 4 ≤ a) → (a < t ∨ t + 16 ≤ a) → Memory.get u.mem a = Memory.get s.mem a) ∧
          ((q + 4 ≤ t ∨ t + 16 ≤ q) → u.load (m.boxAddr + 0x20) 4 = (s.load (m.boxAddr + 0x20) 4 + 1) % 2 ^ 32 ∧
            u.load b 16 = barExpect (s.load b 16) m.total) ∧
          (op = 6 ∨ w = none → u.map mb = (s.map mb).bump) ∧
          (∀ k, op ≠ 6 → w = some k → (u.map mb).wid = gen * 16 + op ∧ (u.map k).wid = gen * 16 + op)

/-- 12 R261 to R263, R273, Table 12-5: CVIEW writes the view into the handle and clears CHANGED; CJOIN, once every
non-retired slice of a live member has joined, writes the view, LASTAB and OPSEQ as 0 and STATE 1, and waits until then;
CLEAVE of a joined handle whose operations have ended retires the slice and writes STATE 2, and waits until then; CREJOIN of a
slice of the caller's die, whose member is not live, registers the slice, sends its JOIN to the leader (over the ring, or by the
fabric agents to another package: assumption log 46) and waits, and once its rejoin is
committed writes STATE 1; a handle in another state raises ENGINE_REJECT. -/
def Obligations.CollectiveMembership : Prop :=
  ∀ (s : State) (g : Fin 32) (x : Handle), s.alone → s.memOk → s.handle (s.me.reg g) = .ok x → s.direct x.key 64 →
    let status := x.key + 0x1C
    let kept := fun (u : State) => ({ u.me with mon := s.me.mon } : Ctx) = s.me.after 4
    let viewed := fun (u : State) (v l n : Nat) => u.load x.key 4 = v % 2 ^ 32 ∧ u.load (x.key + 4) 2 = l % 2 ^ 16 ∧
      u.load (x.key + 8) 2 = n % 2 ^ 16
    (∀ v l n t, s.readView x.desc = .ok (v, l, n, t) →
      (x.st = 1 ∨ x.st = 3 ∨ x.st = 4 →
        ∃ u : State, exec (.cview g) s = .next u ∧ kept u ∧ viewed u v l n ∧ u.load status 4 = x.status - x.status / 16 % 2 * 16 ∧
          s.memoryKept u (s.phys x.key) 64) ∧
      (x.st = 0 → s.sliceHere x = true → s.inScope x = true → s.mayJoin x = true →
        let joined := t.setGroup (x.grp.putJoin { s.joinOf x with joining := true })
        (joined.holds s.at_ s.slot (.joined x.grp.num) = true →
          ∃ u : State, exec (.cjoin g) s = .next u ∧ kept u ∧ viewed u v l n ∧ u.load status 4 = x.status / 32 * 32 + 1 ∧
            u.load (x.key + 0x18) 4 = 0 ∧ u.load (x.key + 0x20) 4 = 0 ∧ s.memoryKept u (s.phys x.key) 64) ∧
        (joined.holds s.at_ s.slot (.joined x.grp.num) = false →
          exec (.cjoin g) s = .next ((s.setGroup (x.grp.putJoin { s.joinOf x with joining := true })).waits (.cjoin g)
            (.joined x.grp.num)))) ∧
      (∀ j, x.st = 4 → x.slice < x.grp.slices → s.dieLive s.dieOf = true →
        x.grp.joins.find? (fun j => j.slice == x.slice && s.ownJoin x j && (j.rejoining || x.st == 4)) = some j →
        (j.rejoining = false →
          ∃ u : State, exec (.crejoin g) s = .next u ∧ kept u ∧ viewed u v l n ∧ u.load status 4 = x.status / 32 * 32 + 1 ∧
            u.load (x.key + 0x20) 4 = j.rejoinAt % 2 ^ 32 ∧ s.memoryKept u (s.phys x.key) 64) ∧
        (j.rejoining = true → exec (.crejoin g) s = .next (s.waits (.crejoin g) (.rejoined x.grp.num x.slice)))) ∧
      (∀ e, x.st = 0 ∨ x.st = 3 ∨ x.st = 4 → x.slice < x.grp.slices → s.dieLive s.dieOf = true →
        x.grp.joins.find? (fun j => j.slice == x.slice && s.ownJoin x j && (j.rejoining || x.st == 4)) = none →
        s.member s.dieOf ∉ x.grp.live → x.grp.slice[x.slice]? = some e → e.1 = s.member s.dieOf →
        let asked := s.setGroup (x.grp.putJoin { s.joinOf x with rejoining := true })
        exec (.crejoin g) s = .next ((asked.tell (s.member s.dieOf) [leaderOf x.grp.live]
          (fun _ => Due.joinReceive x.grp.num x.slice)).waits (.crejoin g) (.rejoined x.grp.num x.slice)))) ∧
    (x.st = 1 → s.holds s.at_ s.slot (.left x.grp.num x.slice) = true → s.walkerFree s.dieOf = true →
      ∃ u : State, exec (.cleave g) s = .next u ∧ kept u ∧ u.load status 4 % 16 = 2 ∧
        ∀ h ∈ u.groups, h.num = x.grp.num → ∀ e, h.slice[x.slice]? = some e → e.2 = true) ∧
    (x.st = 1 → s.holds s.at_ s.slot (.left x.grp.num x.slice) = false →
      exec (.cleave g) s = .next (s.waits (.cleave g) (.left x.grp.num x.slice))) ∧
    (∀ i : Instr, (i, x.st) ∈ ([(Instr.cleave g, 0), (.cview g, 0), (.cjoin g, 1), (.crejoin g, 1), (.cleave g, 2),
        (.cview g, 2), (.cjoin g, 2), (.crejoin g, 2)] : List (Instr × Nat)) →
      exec i s = .next (s.takeTrap 4 { cause := .engineReject, tval := s.me.reg g }))

/-- 00 R7, 02 R39, 03 R59, 08 R177, 17 R315: when the condition of a context's Wait holds and its core chooses it, WAIT_END
is the issue of its oldest unfinished instruction (or of the instruction at its pc), and the instruction completes, waits on
or traps by its own rules; LOCK_RETRY is the same for a lock bit, MWAIT_TIMEOUT for a monitor's time, COMMAND_ENQUEUE for
a captured command whose engine inbox has room. While the lock bit is held by another, LOCK_RETRY changes nothing. 06 R127,
17 R317, 03 R54, 08 R176: MATRIX_COMPLETE writes the result's registers and ORs its flags, YIELD_EXPIRE ends a yield,
COMPLETION_POST moves the oldest word held for a completion queue with fewer than 16 entries into it and is an event for the
context's monitor; each changes that context alone. That unfinished instructions go on in their order is the model's choice
(assumption log 2). -/
def Obligations.ContextEvents : Prop :=
  (∀ (s : State) (c : CoreId) (k : Slot) (w : Waiting), (s.ctx c.val k).wait = some w →
    let x := s.ctx c.val k
    let t : State := { s.aged c.val (s.eligible (issueNow execInstr) c.val) k with
      actor := Fin.ofNat 8192 c.val, slot := k, source := .pc, turn := c.val + 1 }
    (s.chosen c.val = some k → s.holds c.val k w.on = true →
      ∀ (i : Instr) (v : State), (x.pend = [] ∧ t.nextAtPc = .ok i ∧ v = t) ∨
          (∃ e rest, x.pend = e :: rest ∧ e.instr = some i ∧ v = { t with source := .entry }) →
        ∃ u : State, exec i v = .next u ∧ ∀ ev : Instr, ev = .waitEnd c k ∨ (ev = .lockRetry c k ∧ ∃ r q, w.on = .lock r q) ∨
            (ev = .mwaitTimeout c k ∧ ∃ l, w.on = .monitor (some l) ∧ l ≤ s.cycle) ∨
            (ev = .commandEnqueue c k ∧ ∃ m, x.caught = some m ∧ s.boxRoom m.engine = true) →
          exec ev s = .next u) ∧
    ((∃ r q, w.on = .lock r q) → s.holds c.val k w.on = false → exec (.lockRetry c k) s = .next s)) ∧
  (∀ (s : State) (c : CoreId) (k : Slot),
    let x := s.ctx c.val k
    (∀ m, x.mat = some m → exec (.matrixComplete c k) s = .next (s.setCtx c.val k { x with
      v := m.vs.foldl (fun v e => v.set e.1 e.2) x.v, z := m.zs.foldl (fun z e => z.set e.1 e.2) x.z
      flags := x.flags ||| m.flags, mat := none })) ∧
    (x.yieldUntil ≠ 0 → x.yieldUntil ≤ s.cycle →
      exec (.yieldExpire c k) s = .next (s.setCtx c.val k { x with yieldUntil := 0 })) ∧
    (∀ w rest, x.compHeld = w :: rest → x.compq.length < 16 →
      exec (.completionPost c k) s = .next (s.setCtx c.val k { x with
        compq := x.compq ++ [w], compHeld := rest, posts := x.posts + 1
        mon := x.mon.map (fun (y : Mon) => { y with posted := true }) })))

/-- 03 R47 to R53, 17 R302, R308: MESSAGE_ADMIT refuses the message at the head of a core's offers with the reason's status
in a completion word for the context that sent it, or in that of the engine's command that composed it, leaves one that lacks only inbox space offered, or admits it; admitted to an empty
inbox, with a Dormant slot of its slot set, it starts an activation there at its class's ENTRY with the header in g5 and g6,
its length in g4 and the payload in the slot's inbox region; a panel that does not dispatch keeps it in the inbox. That
undefined registers hold free values at the start is the model's form for them (assumption log 3). -/
def Obligations.MessageAdmission : Prop :=
  ∀ (s : State) (c : CoreId) (m : Msg) (rest : List Msg), (s.core c.val).offers = m :: rest → m.launch = none →
    m.cmd = none →
    let k := s.core c.val
    (∀ st d i w, s.refuses c.val m = some st → m.back = some (d, i, w) → ∃ u : State, exec (.messageAdmit c) s = .next u ∧
      (u.core c.val).offers = rest ∧ (u.core c.val).admits = k.admits ∧ u.mem = s.mem ∧
      (u.ctx d i).compHeld = (s.ctx d i).compHeld ++ [w ||| BitVec.ofNat 64 (st * 2 ^ 56)]) ∧
    (∀ st sl, s.refuses c.val m = some st → m.back = none → m.srcSlot = some sl → ∃ u : State, exec (.messageAdmit c) s = .next u ∧
      (u.core c.val).offers = rest ∧ (u.core c.val).admits = k.admits ∧ u.mem = s.mem ∧
      (u.ctx m.src (Fin.ofNat 8 sl)).compHeld =
        (s.ctx m.src (Fin.ofNat 8 sl)).compHeld ++ [compWord st 0 (m.h0.toNat % 2 ^ 28)]) ∧
    (s.refuses c.val m = none → k.room m.payload.length = false → exec (.messageAdmit c) s = .next s) ∧
    (s.refuses c.val m = none → k.room m.payload.length = true →
      (∃ u : State, exec (.messageAdmit c) s = .next u ∧ (u.core c.val).offers = rest ∧ (u.core c.val).admits = k.admits + 1) ∧
      (∀ p, s.panelAt c.val = some p → p.dispatches = false → ∃ u : State, exec (.messageAdmit c) s = .next u ∧
        (u.core c.val).inbox = k.inbox ++ [{ m with at_ := s.cycle, back := none }] ∧ u.mem = s.mem) ∧
      (∀ p sl, s.panelAt c.val = some p → p.dispatches = true → k.inbox = [] → k.slotFor m = some sl →
        ∃ u : State, exec (.messageAdmit c) s = .next u ∧
          let y := u.ctx c.val sl
          let r := k.routine[hdrClass m.h0]
          y.run = .ready ∧ y.mode = false ∧ y.pc = BitVec.ofNat 64 (fld r.toNat 0 25) ∧ y.pend = [] ∧
            y.g[(0 : Fin 32)] = 0 ∧ y.g[(3 : Fin 32)] = BitVec.ofNat 64 (c.val % 64 * 2 ^ 19 + 0x70000 + 0x1000 * sl.val) ∧
            y.g[(4 : Fin 32)] = BitVec.ofNat 64 (hdrLen m.h0) ∧ y.g[(5 : Fin 32)] = m.h0 ∧ y.g[(6 : Fin 32)] = m.h1 ∧
            y.flags = 0 ∧ y.frm = 0 ∧ y.mfmt = 0x1C ∧ y.f8sel = 0x03 ∧ (u.core c.val).inbox = [] ∧
            u.mem = (s.putBytes none (regionBase c.val + 0x70000 + 0x1000 * sl.val) m.payload).mem))

/-- 03 R69, 17 R307: a starving cluster asks the next victim, which ships the STEALOK records among its youngest floor(n / 2),
oldest first, and keeps the rest; with nothing to ship, or with the victim down, which changes nothing of it, the thief asks
again later; donated records enter the thief's tail while there is room. What happens to records that do not fit the thief's queue is the model's reading (assumption log 25). -/
def Obligations.Donation : Prop :=
  ∀ (s : State) (cl v : ClusterId),
    let x := s.cluster cl.val
    (s.starving cl.val = true → ∀ n, s.nextVictim cl.val = some n → ∃ u : State, exec (.stealRequest cl) s = .next u ∧
      u.cluster cl.val = { x with victim := some n, asking := true } ∧ u.mem = s.mem ∧ u.cores = s.cores) ∧
    (x.asking = true → x.victim = some v.val → s.coreDown (v.val * 64) = true → exec (.stealServe cl v) s =
      .next (s.setCluster cl.val { x with asking := false, starveAt := some s.cycle })) ∧
    (x.asking = true → x.victim = some v.val → s.coreDown (v.val * 64) = false → (s.cluster v.val).tqSize = 0 →
      (s.cluster v.val).tasks.length ≤ 32 →
      let all := (s.cluster v.val).tasks
      let stay := all.take (all.length - all.length / 2)
      let young := all.drop (all.length - all.length / 2)
      let ship := young.filter (fun r => r.getLsbD 0)
      ∃ u : State, exec (.stealServe cl v) s = .next u ∧ u.mem = s.mem ∧ u.cores = s.cores ∧ (u.cluster cl.val).asking = false ∧
        (ship = [] → (u.cluster cl.val).starveAt = some s.cycle ∧ (u.cluster v.val).tasks = all) ∧
        (ship ≠ [] → (u.cluster cl.val).donated = some ship ∧
          (u.cluster v.val).tasks = stay ++ young.filter (fun r => !r.getLsbD 0))) ∧
    (∀ rs, x.donated = some rs → s.coreDown (cl.val * 64) = false → x.tqSize = 0 → x.tasks.length < 32 →
      let n := 32 - x.tasks.length
      ∃ u : State, exec (.donationAppend cl) s = .next u ∧ u.mem = s.mem ∧ u.cores = s.cores ∧
        (u.cluster cl.val).tasks = x.tasks ++ rs.take n ∧
        (u.cluster cl.val).donated = if rs.length ≤ n then none else some (rs.drop n))

/-- 03 R59, 11 R247, R253, 18 R351: ENGINE_COMMAND_START of a copy command captures its sectors, or the page it has to walk
first, without a write; SECTOR_WRITE writes one sector and credits its bytes at the command's barrier, or abandons the
command with the STATUS of the fault; PAGE_WALK, once the walker has taken it up, caches the translation and the work goes on,
or the command is abandoned with XLATE. A message of an easel core only leaves its inbox (assumption log 12). The model's own here: a page is walked before
the sectors that follow, and LINK for data out of reach (assumption logs 20, 18). -/
def Obligations.EngineCommandEvents : Prop :=
  ∀ (s : State) (e : Engine),
    (∀ m, s.nextCmd e = some m → m.kind ∈ [CmdKind.copy, .fetch, .store, .tier] →
      let t := s.leaveBox m
      (∀ w, t.planOf m = .error w → ∃ u : State, exec (.engineCommandStart e) s = .next u ∧ u.mem = s.mem ∧ u.cores = s.cores ∧
        u.cmd m.id = some { m with state := .running, pages := [w] }) ∧
      (∀ r, t.planOf m = .ok r → r.pieces ≠ [] → r.fail = none →
        ∃ u : State, exec (.engineCommandStart e) s = .next u ∧ u.mem = s.mem ∧ u.cores = s.cores ∧
          let secs := sectorsOf (if m.dst.space = 3 then some m.dst.window else none) r.pieces
          u.cmd m.id = some { m with
            state := .running, pages := [], walked := r.used, srcRead := true, fail := none, sectors := secs, nsec := secs.length } ∧
          ∀ x ∈ secs, sectorEnd m.engine x = none → Due.sectorWrite m.id x.n ∈ u.agenda)) ∧
    (∀ d k, e = .easel d k → s.nextCmd e = none → (s.die d.val).easelBox[k] ≠ [] →
      ∃ u : State, exec (.engineCommandStart e) s = .next u ∧ u.mem = s.mem ∧ u.cores = s.cores ∧
        (u.die d.val).easelBox[k] = ((s.die d.val).easelBox[k]).drop 1) ∧
    (∀ (id n : Nat) (m : Cmd) (x : Sector), s.cmd id = some m → m.state = .running →
      m.sectors.find? (fun (y : Sector) => y.n == n) = some x →
      let left := m.sectors.filter (fun (y : Sector) => y.n != n)
      (s.sectorFault m.toPanel x = none → left ≠ [] → x.flags = 0 → m.bar = none →
        ∃ u : State, exec (.sectorWrite id n) s = .next u ∧ u.mem = (s.writeSector x).mem ∧
          u.cmd id = some { m with got := m.got + x.credit, sectors := left }) ∧
      (s.sectorFault m.toPanel x = none → left = [] → x.flags = 0 → m.bar = none → m.fail = none →
        m.kind ∈ [CmdKind.copy, .fetch, .store, .tier] →
        ∃ u : State, exec (.sectorWrite id n) s = .next u ∧ u.mem = (s.writeSector x).mem ∧
          u.cmd id = some { m with got := m.got + x.credit, sectors := [], state := .done, srcRead := true } ∧
          (u.ctx m.core m.slot).compHeld = (s.ctx m.core m.slot).compHeld ++
            (if bitOf (boxFlags m.box) 2 then [m.word 0] else [])) ∧
      (∀ st, s.sectorFault m.toPanel x = some st → m.bar = none → m.kind ∈ [CmdKind.copy, .fetch, .store, .tier] →
        ∃ u : State, exec (.sectorWrite id n) s = .next u ∧ u.mem = s.mem ∧
          u.cmd id = some { m with state := .failed st, sectors := [], pages := [], srcRead := true, got := 2 * m.total } ∧
          (u.ctx m.core m.slot).compHeld = (s.ctx m.core m.slot).compHeld ++ [m.word st]) ∧
      (∀ st k, s.sectorFault m.toPanel x = some st → m.bar = some k → m.kind ∈ [CmdKind.copy, .fetch, .store, .tier] →
        ∃ u : State, exec (.sectorWrite id n) s = .next u ∧
          u.mem = (s.store none k 16 (barCredit (barError (s.load k 16) st) (m.total - m.got / 2) 0)).mem)) ∧
    (∀ (id : Nat) (m : Cmd) (va : Nat) (w : Bool) (rest : List (Nat × Bool)), s.cmd id = some m → m.state = .running →
      m.pages = (va, w) :: rest → s.walking id = true →
      (∀ x t, s.translate m.core m.ptbase m.asid va w = .ok (x, t) →
        exec (.pageWalk id) s = .next ((t.endWalk m).advance { m with pages := [], walked := m.walked ++ [x] })) ∧
      (∀ k, s.translate m.core m.ptbase m.asid va w = .error k → m.bar = none → ∃ u : State, exec (.pageWalk id) s = .next u ∧
        u.mem = s.mem ∧ (m.kind ∈ [CmdKind.copy, .fetch, .store, .tier] →
          (u.ctx m.core m.slot).compHeld = (s.ctx m.core m.slot).compHeld ++ [m.word 0x10])))

/-- 12 R267, R271, R279, R282, 03 R53: MIGRATE_COMPLETE sends the message to the target core as a packet; its admission ends the
command, zeroes a retired source and posts DONE, its refusal posts the reason's status; ATELIER_ROUND_START
samples the panel, pairs rank i with rank L − 1 − i and quiesces both cores of each pair; PAIR_QUIESCED begins the copy;
PAIR_COPY_DONE exchanges the loser's buffers and both cores go on; a CLE starts an operation under the group's view, and a
partial is combined, or discarded at the CLE that receives it, and counted there in DISCARDS, if its view is older than that
CLE's. The model's own readings here: ties on every level of a tree, and
corners that the rules leave open (assumption logs 33, 29). -/
def Obligations.PopulationAndCollectiveEvents : Prop :=
  (∀ (s : State) (id : Nat) (m : Cmd), s.cmd id = some m → m.kind = .migrate → m.state = .running → m.sectors = [] →
    m.srcRead = true → m.sent = false → ∃ (u : State) (k : Packet), exec (.migrateComplete id) s = .next u ∧ u.mem = s.mem ∧ u.cores = s.cores ∧
      u.packets = s.packets ++ [k] ∧ k.src = agentOf m.engine ∧ k.dst = m.target ∧ k.body = .message (s.migMsg m) ∧
      k.injected = false ∧ k.fabric = s.away m ∧ u.cmd id = some { m with sent := true }) ∧
  (∀ (s : State) (c : CoreId) (msg : Msg) (rest : List Msg) (id : Nat) (m : Cmd), (s.core c.val).offers = msg :: rest →
    msg.cmd = some id → s.cmd id = some m →
    let ended := { m with state := .done, srcRead := true }
    let posted (u : State) (w : Word) := (u.ctx m.core m.slot).compHeld = (s.ctx m.core m.slot).compHeld ++ [w]
    (∀ st, s.refuses c.val msg = some st → ∃ u : State, exec (.messageAdmit c) s = .next u ∧ u.mem = s.mem ∧
      u.cmd id = some ended ∧ posted u (m.word (BitVec.ofNat 8 st))) ∧
    (s.refuses c.val msg = none → (s.core c.val).room msg.payload.length = true →
      ∃ u : State, exec (.messageAdmit c) s = .next u ∧ (u.core c.val).admits = (s.core c.val).admits + 1 ∧
        u.cmd id = some ended ∧ posted u (m.word 0) ∧ ∀ p, s.panelAt c.val = some p → p.dispatches = false →
          u.mem = if bitOf (m.mig 0x04 4) 1 then (s.zeroSource m).mem else s.mem)) ∧
  (∀ (s : State) (m : Cmd) (p : Panel), s.round = none → s.atelierHead = some m → m.kind = .popcmd →
    s.panel m.panel = some p →
    let pairs := pairsOf (s.ranked p (rec64 m.box 0x04 4)) (rec64 m.box 0x02 2) (rec64 m.box 0x14 4)
    (pairs ≠ [] → ∃ u : State, exec .atelierRoundStart s = .next u ∧ u.mem = s.mem ∧
      u.round = some { cmd := m.id, pairs := pairs, firstSeq := p.lineage } ∧
      ∀ q ∈ pairs, (u.core q.winner).atq = 0xFF ∧ (u.core q.loser).atq = 0xFF) ∧
    (pairs = [] → ∃ u : State, exec .atelierRoundStart s = .next u ∧ u.mem = s.mem ∧ u.round = none)) ∧
  (∀ (s : State) (i : Nat) (m : Cmd) (r : Round) (p : Pair), s.pairAt i = some (m, r, p) →
    (p.quiesced = false → s.isReady (.pairQuiesced i) = true → s.coreDown p.loser = false → s.coreDown p.winner = false →
      ∀ k q, s.pairEntry m p = some (k, q) → ∃ (u : State) (c : Cmd), exec (.pairQuiesced i) s = .next u ∧ u.mem = s.mem ∧
        u.round = some { r with pairs := r.pairs.set i { p with quiesced := true } } ∧ u.cmds = s.cmds ++ [c] ∧
        c.kind = .pair i ∧ c.engine = .cme (Fin.ofNat 8 (p.winner / 1024)) ∧ c.source = p.winner ∧ c.target = p.loser ∧
        c.box = pairBox m p) ∧
    (∀ c k q, s.pairCmd i = some c → c.state = .done → s.isReady (.pairCopyDone i) = true → s.pairEntry m p = some (k, q) →
      ∃ u : State, exec (.pairCopyDone i) s = .next u ∧ (u.core p.winner).atq = 0 ∧ (u.core p.loser).atq = 0 ∧
        (u.cluster (p.loser / 64)).pub[k] = some { q with gen := q.gen + 1 })) ∧
  (∀ (s : State) (grp : Nat) (g : Group) (o : CollOp), s.group_ grp = some g → g.ops = [o] → o.ended = false →
    (g.hold = none → o.started = false → (∃ i ∈ s.presentSlices g g.live o.opseq, i ∉ o.arrived) →
      exec (.cleOperationStart grp) s = .next (s.setGroup { g with
        ops := [{ o with started := true, view := g.view, live := g.live }] })) ∧
    (∀ part : Partial, part.opseq = o.opseq → part.leaf = none → o.started = false →
      let die := s.memberDie (leaderOf g.live)
      (viewOlder part.view (s.viewAt die g) = false → viewOlder part.view g.view = false → part.slice ∉ o.arrived →
        exec (.clePartialReceive grp part) s = .next (s.setGroup { g with ops := [{ o with arrived := o.arrived ++ [part.slice] }] })) ∧
      (viewOlder part.view (s.viewAt die g) = true →
        (g.joins = [] → exec (.clePartialReceive grp part) s = .next s) ∧
        (∀ j d r, die = some d → g.joins = [j] → j.joining = false → j.rejoining = false → j.leftFrom = none →
          g.slice[j.slice]? = some (s.member d.val, r) → exec (.clePartialReceive grp part) s =
            .next (s.store none (j.handle + 0x18) 4 (s.load (j.handle + 0x18) 4 + 1))))))

/-- 20 R386 to R389, 19 R359, 12 R258, R259, R272, R273: heartbeats are sent every 4 µs to every other die, and by the fabric
agents to the members of the packages that a circuit reaches, and noted; 20 µs of
silence make a member suspected, and the lowest trusted member of a majority proposes the next view without it; a member of
that view acknowledges and is bound for 40 µs, or refuses while another's proposal binds it; the proposer commits when all have
acknowledged; a commit is taken over by each die; a proposal not acknowledged is abandoned; 1 ms without a majority abandons
the operations with NO_QUORUM, also where a member of another package leads the rest; a join of a re-admitted die is noted, and after the operations in flight the view that adds it
is committed. A message between dies comes about when it is the first of its source on the ring. The model's own readings
here: the end of a suspicion, COMMITSEQ, when NO_QUORUM is told again, and how the fabric agents carry notes (assumption logs
34, 38, 56, 46). -/
def Obligations.ViewAgreement : Prop :=
  ∀ (s : State) (die : Fin 8), s.dieLive die.val = true →
    let x := s.die die.val
    let me := s.member die.val
    let off (e : Due) : State := { s with ring := s.ring.eraseP (fun r => decide (r.2 = e)) }
    let comes (e : Due) := e ∈ ringHeads [] s.ring
    let follows (live : List Nat) (not_ : List Nat) := ∃ m ∈ live, m ∉ x.suspects ∧ m ∉ not_ ∧ m < me
    let open_ := s.farMembers.filter (fun m => (s.circuitTo (m / 8)).isSome)
    (x.lastBeat + 6400 ≤ s.cycle →
      exec (.heartbeatSend die) s = .next { s.setDie die.val { x with lastBeat := s.cycle } with
        ring := s.ring ++ ((List.finRange 8).filter (fun d => d != die)).map (fun d => (me, Due.heartbeatReceive d me))
        abroad := s.abroad ++ open_.map (fun m => (m / 8, Abroad.note (.heartbeatReceive (Fin.ofNat 8 m) me))) }) ∧
    (∀ mem, mem < 4096 → mem ≠ me → comes (.heartbeatReceive die mem) → exec (.heartbeatReceive die mem) s =
      .next ((off (.heartbeatReceive die mem)).setDie die.val { x with heard := SMap.set x.heard mem s.cycle })) ∧
    (∀ mem, mem ∉ x.suspects → mem ≠ me → SMap.get x.heard 0 mem + 32000 ≤ s.cycle →
      let t := s.setDie die.val { x with suspects := x.suspects ++ [mem] }
      ((∀ y ∈ x.members, follows y.live [mem] ∧ t.cutOff die.val y = false) → (∃ y ∈ x.members, mem ∈ y.live) →
        exec (.suspectTimeout die mem) s = .next t) ∧
      (∀ y g, x.members = [y] → s.group_ y.grp = some g → mem ∈ y.live → follows y.live [mem] → t.cutOff die.val y = true →
        g.stuckAt = none → g.told = false → exec (.suspectTimeout die mem) s = .next { t.setGroup { g with stuckAt := some s.cycle } with
          timers := s.timers ++ [(s.cycle + 1600000, Due.quorumTimeout g.num)] }) ∧
      (∀ y g, x.members = [y] → s.group_ y.grp = some g → mem ∈ y.live → me ∈ y.live → y.bound = none → y.proposing = none →
        let rest := y.live.filter (fun m => !(x.suspects ++ [mem]).contains m)
        let pr : Proposal := { view := nextView y.view, members := rest, proposer := me, fromSeq := 0 }
        (∀ m ∈ rest, me ≤ m) → (∃ m ∈ rest, m ≠ me) →
        ∃ u : State, exec (.suspectTimeout die mem) s = .next u ∧ u.mem = s.mem ∧ u.memberOf die.val y.grp = some { y with
          proposing := some { prop := pr, acks := [me], sentAt := s.cycle, abandoned := false, refused := false }
          bound := some (pr, s.cycle + 64000) })) ∧
    (∀ grp y, s.memberOf die.val grp = some y →
      (∀ pr : Proposal, comes (.viewProposalReceive die grp pr) →
        (pr.view ≠ nextView y.view → exec (.viewProposalReceive die grp pr) s = .next (off (.viewProposalReceive die grp pr))) ∧
        (pr.view = nextView y.view → y.bound = none → pr.proposer ≤ leaderOf (s.trusted die.val y) →
          ∃ u : State, exec (.viewProposalReceive die grp pr) s = .next u ∧ u.mem = s.mem ∧
            u.memberOf die.val grp = some { y with bound := some (pr, s.cycle + 64000) } ∧
            (∀ d, s.memberDie pr.proposer = some d → (me, Due.viewAckReceive d grp me pr.view) ∈ u.ring) ∧
            (s.farMember pr.proposer = true → (s.circuitTo (pr.proposer / 8)).isSome = true →
              (pr.proposer / 8, Abroad.note (.viewAckReceive (Fin.ofNat 8 pr.proposer) grp me pr.view)) ∈ u.abroad)) ∧
        (∀ q t, pr.view = nextView y.view → y.bound = some (q, t) → q.proposer ≠ pr.proposer →
          ∃ u : State, exec (.viewProposalReceive die grp pr) s = .next u ∧ u.dies = s.dies ∧ u.mem = s.mem ∧
            ∀ d, s.memberDie pr.proposer = some d → (me, Due.viewRefusalReceive d grp q.proposer pr.view) ∈ u.ring)) ∧
      (∀ p, y.proposing = some p →
        (∀ mem, mem ∈ p.prop.members → mem ∉ p.acks → comes (.viewAckReceive die grp mem p.prop.view) →
          ((∃ m ∈ p.prop.members, m ≠ mem ∧ m ∉ p.acks) → exec (.viewAckReceive die grp mem p.prop.view) s =
            .next ((off (.viewAckReceive die grp mem p.prop.view)).setMember die.val
              { y with proposing := some { p with acks := p.acks ++ [mem] } })) ∧
          (∀ g, s.group_ grp = some g → g.ops = [] → (∀ m ∈ p.prop.members, m = mem ∨ m ∈ p.acks) → p.abandoned = false →
            y.live.length < 2 * p.prop.members.length → s.cycle ≤ p.sentAt + 32000 → p.prop.view = nextView g.view →
            ∃ u : State, exec (.viewAckReceive die grp mem p.prop.view) s = .next u ∧ u.group_ grp = some { g with
              view := p.prop.view, live := p.prop.members, commitSeq := 0, stuckAt := none, told := false } ∧
            ∀ m ∈ g.live, ∀ d, s.memberDie m = some d → (p.prop.proposer, Due.commitReceive d grp { p.prop with fromSeq := 0 }) ∈ u.ring)) ∧
        (∀ held, held < me → comes (.viewRefusalReceive die grp held p.prop.view) →
          exec (.viewRefusalReceive die grp held p.prop.view) s = .next ((off (.viewRefusalReceive die grp held p.prop.view)).setMember
            die.val { y with proposing := some { p with abandoned := true, refused := true } })) ∧
        (p.sentAt + 32000 ≤ s.cycle → s.cycle < p.sentAt + 64000 → ∃ u : State, exec (.proposalTimeout die grp) s = .next u ∧
          u.memberOf die.val grp = some { y with proposing := some { p with abandoned := true } }) ∧
        (p.sentAt + 64000 ≤ s.cycle → p.refused = true → (∀ z ∈ x.members, follows z.live [] ∧ s.cutOff die.val z = false) →
          exec (.proposalTimeout die grp) s = .next (s.setMember die.val { y with proposing := none, bound := none }))) ∧
      (∀ q t, y.bound = some (q, t) → t ≤ s.cycle → follows y.live [] → s.cutOff die.val y = false →
        exec (.ackBindingExpire die grp) s = .next (s.setMember die.val { y with bound := none })) ∧
      (∀ (pr : Proposal) g, comes (.commitReceive die grp pr) → s.group_ grp = some g → g.view = pr.view →
        viewOlder y.view pr.view = true → (∀ m ∈ s.cmds, m.ended = true) → (∀ m ∈ pr.members, m ∉ x.suspects) →
        ∃ u : State, exec (.commitReceive die grp pr) s = .next u ∧
          u.memberOf die.val grp = some { y with view := pr.view, live := pr.members, bound := none, proposing := none } ∧
          (g.joins = [] → leaderOf (g.live.filter (fun m => !s.farMember m)) ≠ me → u.mem = s.mem))) ∧
    (∀ grp g, s.group_ grp = some g →
      (∀ t, g.stuckAt = some t → t + 1600000 ≤ s.cycle → s.openOps g = [] → ∃ u : State, exec (.quorumTimeout grp) s = .next u ∧
        u.mem = s.mem ∧ u.group_ grp = some { g with stuckAt := none, told := true } ∧
        (∀ j, s.jobs.find? (fun j => j.num == g.job) = some j → j.open_ = true → u.reports = s.reports ++ [{
          job := g.job, op := 0x16, status := 0x1D, tag := 0, panel := 0, arg0 := BitVec.ofNat 64 grp
          arg1 := BitVec.ofNat 64 g.view, payload := [] }])) ∧
      (∀ slice mem ret, slice < g.slices → g.slice[slice]? = some (mem, ret) → comes (.joinReceive grp slice) →
        ((∃ d, s.memberDie mem = some d ∧ s.dieLive d.val = false) →
          exec (.joinReceive grp slice) s = .next (off (.joinReceive grp slice))) ∧
        ((∀ d, s.memberDie mem = some d → s.dieLive d.val = true) →
          (mem ∈ g.live → slice ∉ g.away →
            exec (.joinReceive grp slice) s = .next ((off (.joinReceive grp slice)).setGroup { g with away := g.away ++ [slice] })) ∧
          (mem ∉ g.live → slice ∉ g.joinsHeard → g.hold = none → ∃ u : State, exec (.joinReceive grp slice) s = .next u ∧
            u.group_ grp = some { g with joinsHeard := g.joinsHeard ++ [slice], hold := some (s.nextSeq g) }))) ∧
      (∀ q, g.hold = some q → s.isReady (.rejoinCommit grp) = true → (∀ m ∈ g.live, m < 4096) →
        ∃ (u : State) (g' : Group), exec (.rejoinCommit grp) s = .next u ∧ u.group_ grp = some g' ∧ g'.hold = none ∧ g'.view = nextView g.view ∧
          g'.live = addMembers g.live (g.joinsHeard.filterMap (fun i => (g.slice[i]?).map (·.1))) ∧ g'.commitSeq = q))

/-- 20 R379 to R385, Table 20-1: a corrected error adds 1 to its object's score and an uncorrectable one 64, saturating; at
256 the object becomes test due, with a THRESHOLD record; each halving halves every score; a test starts where it may run, or
after 10 s the SRS collects the panel for it; a pass leaves the score 128, a failure retires the cluster, disables the link
in both directions or loses the die; a fatal fault goes out on the ring, and a silent die, or one whose report is heard, is lost
with its contexts, with a DIE_LOST record; the loss of supply clears its memories, and its return
starts it at its ROM with reset cores. The model's own here: who watches the master, what goes with a supply, the kill of
a swapped panel by an error of its shadow storage, and that an error of a matrix unit, whose read is a later MMA.CHK, only
marks the unit faulty (assumption logs 49, 57, 62, 19). -/
def Obligations.HealthEvents : Prop :=
  ∀ s : State,
    (s.power = true → ∀ o : ScoreObj,
      let x := s.scoreOf o
      (x.due = true ∨ x.value.toNat + 1 < 256 → exec (.correctedError o) s =
        .next (s.setScore o { x with value := BitVec.ofNat 16 (min 65535 (x.value.toNat + 1)) })) ∧
      (x.due = false → 256 ≤ x.value.toNat + 1 → ∃ u : State, exec (.correctedError o) s = .next u ∧ u.mem = s.mem ∧
        u.scoreOf o = { x with value := BitVec.ofNat 16 (min 65535 (x.value.toNat + 1)), due := true, dueAt := s.cycle } ∧
        (∀ c, o = .core c → ∃ r, (u.die (c.val / 1024)).records.getLast? = some r ∧ r.kind = 1 ∧ r.object = c.val ∧
          r.score = min 65535 (x.value.toNat + 1)))) ∧
    (s.power = true →
      (∀ c b off, ∃ u : State, exec (.uncorrectableError (.bank c b off)) s = .next u ∧ u.mem = s.mem ∧
        (regionBase c.val + off % 2 ^ 19) / 32 ∈ u.poison ∧
        (u.scoreOf (.bank c b)).value.toNat = min 65535 ((s.scoreOf (.bank c b)).value.toNat + 64)) ∧
      (∀ pa, ∃ u : State, exec (.uncorrectableError (.scrub pa)) s = .next u ∧ u.mem = s.mem ∧
        (deviceBase + pa % 2 ^ 39) / 32 ∈ u.poison) ∧
      (∀ l lseq, ∃ u : State, exec (.uncorrectableError (.retryEntry l lseq)) s = .next u ∧ u.mem = s.mem ∧
        ∀ r ∈ (u.link l).retry, r.lseq = lseq → r.void = true) ∧
      (∀ c, ∃ u : State, exec (.uncorrectableError (.sendStore c)) s = .next u ∧ u.mem = s.mem ∧
        (u.scoreOf (.core c)).value.toNat = min 65535 ((s.scoreOf (.core c)).value.toNat + 64)) ∧
      (∀ c, exec (.uncorrectableError (.matrix c)) s = .next (s.setCore c.val { s.core c.val with badMat := true })) ∧
      (∀ (c : CoreId) p, s.panelAt c.val = some p → p.resident = true ∨ p.state = 4 →
        ∃ (u : State) (q : Panel), exec (.uncorrectableError (.unowned c)) s = .next u ∧ u.panel p.num = some q ∧ q.state = 6) ∧
      (∀ (c : CoreId), (∀ p, s.panelAt c.val = some p → p.resident = false ∧ p.state ≠ 4) →
        ∃ u : State, exec (.uncorrectableError (.unowned c)) s = .next u ∧ u.mem = s.mem ∧ u.panels = s.panels)) ∧
    (s.cycle % (1600 * 2 ^ 20) = 0 → s.lastHalf < s.cycle / (1600 * 2 ^ 20) → ∃ u : State, exec .scoreHalving s = .next u ∧ u.mem = s.mem ∧
      u.lastHalf = s.cycle / (1600 * 2 ^ 20) ∧ ∀ o, (u.scoreOf o).value.toNat = (s.scoreOf o).value.toNat / 2 ∧
        (u.scoreOf o).due = (s.scoreOf o).due) ∧
    (∀ o : ScoreObj, let x := s.scoreOf o
      (x.due = true → x.testing = false → s.testable o = true → ∃ u : State, exec (.targetedTestStart o) s = .next u ∧ u.mem = s.mem ∧
        u.scoreOf o = { x with testing := true } ∧ (∀ l, o = .link l → (u.link l).retraining = true)) ∧
      (∀ c p, x.due = true → x.testing = false → objCore o = some c → s.panelAt c = some p → p.holdable = true → s.coreDown c = false →
        x.dueAt + 16000000000 ≤ s.cycle → ∃ (u : State) (q : Panel) (cl : Collect), exec (.testHoldTimeout o) s = .next u ∧ u.mem = s.mem ∧
          u.panel p.num = some q ∧ q.collect = some cl ∧ cl.why = .test ∧
          ∀ e, p.has e = true → ∀ k, (u.ctx e k).run.waits = false) ∧
      (x.testing = true → ∃ u : State, exec (.targetedTestComplete o true) s = .next u ∧
        u.scoreOf o = { x with value := 128, due := false, testing := false, passed := true }) ∧
      (x.testing = true → ∃ u : State, exec (.targetedTestComplete o false) s = .next u ∧
        (∀ c, o = .core c → (u.cluster (c.val / 64)).retired = true) ∧
        (∀ c b, o = .bank c b → (u.cluster (c.val / 64)).retired = true) ∧
        (∀ d up, o = .link (.threeD d up) → (u.die d.val).stage = .lost) ∧
        (∀ l, o = .link l → (∀ d up, l ≠ .threeD d up) →
          (u.link l).disabled = true ∧ (u.link (linkBack l)).disabled = true))) ∧
    (∀ die : Fin 8,
      (s.dieLive die.val = true → exec (.fatalFaultReport die) s =
        .next { s with ring := s.ring ++ [(s.member die.val, Due.fatalReport die)] }) ∧
      (∀ r, s.undeclared die.val = true → r = runDue (.fatalReport die) s ∨ (r = exec (.heartbeatLossTimeout die) s ∧
          ∃ w < 8, s.watches w die.val = true ∧ SMap.get (s.die w).heard 0 (s.member die.val) + 160000 ≤ s.cycle) →
        ∃ u : State, r = .next u ∧ (u.die die.val).stage = .lost ∧
          (∀ c k, c / 1024 = die.val → (u.ctx c k).run = .dormant) ∧
          ∀ w, s.declarer die.val = some w → ∃ r ∈ (u.die w).records, r.kind = 7 ∧ r.object = die.val) ∧
      ((s.die die.val).stage ≠ .off → ∃ u : State, exec (.dieSupplyLoss die) s = .next u ∧ (u.die die.val).records = [] ∧
        (∀ a, (die.val * 2 ^ 29 ≤ a ∧ a < (die.val + 1) * 2 ^ 29) ∨
            (deviceBase + die.val * 2 ^ 36 ≤ a ∧ a < deviceBase + (die.val + 1) * 2 ^ 36) → Memory.get u.mem a = 0) ∧
        (∀ a, (a < die.val * 2 ^ 29 ∨ (die.val + 1) * 2 ^ 29 ≤ a) ∧ (a < deviceBase + die.val * 2 ^ 36 ∨
            deviceBase + (die.val + 1) * 2 ^ 36 ≤ a) → Memory.get u.mem a = Memory.get s.mem a)) ∧
      ((s.die die.val).stage = .lost → s.power = true → ∃ u : State, exec (.dieSupplyReturn die) s = .next u ∧ u.mem = s.mem ∧
        (u.die die.val).stage = .rom ∧ (u.die die.val).seq = (s.die die.val).seq ∧ ∀ c, c / 1024 = die.val →
          u.core c = { Core.reset with score := (s.core c).score, banks := (s.core c).banks }))

/-- 20 R393, R394, 17 R323 to R326: an ageing fit sets the months left, and 0 months step a cluster's clock down; the voltage
loop sets a ceiling that ageing limits; droop, equalisation and scrubbing set their figures, and a stretch ends with the next
interval; the activity forecast counts the
contexts and messages of a core and its busy cycles, and the cluster's clock is chosen from the demand, to take effect one
interval later. The model's own here: readings as arguments, the scrub period's return to 24 h, and the clock one interval
later (assumption logs 15, 50, 53). -/
def Obligations.AdaptiveLoops : Prop :=
  ∀ s : State, s.power = true →
    (∀ (margin : Nat) (drift : Int), let n := if drift ≤ 0 then 65535 else min 65535 (margin / drift.toNat)
      (∀ cl : ClusterId, let x := s.cluster cl.val
        let clock := if n = 0 then stepDown x.aged else x.aged
        ∃ u : State, exec (.ageingFit (.cluster cl) margin drift) s = .next u ∧ u.mem = s.mem ∧ u.cores = s.cores ∧
          u.cluster cl.val = { x with endOfLife := n, aged := clock, ceiling := min x.ceiling clock }) ∧
      (∀ l, ∃ u : State, exec (.ageingFit (.link l) margin drift) s = .next u ∧ u.mem = s.mem ∧ u.cores = s.cores ∧
        (u.link l).endOfLife = n) ∧
      (∀ d : Fin 8, ∃ u : State, exec (.ageingFit (.stack d) margin drift) s = .next u ∧ u.mem = s.mem ∧ u.cores = s.cores ∧
        (u.die d.val).stackEol = n)) ∧
    (∀ (cl : ClusterId), let x := s.cluster cl.val
      (∀ (k : Fin 4) (mv mhz : Nat), [2100, 1900, 1700, 1600][k]? = some mhz → exec (.vfLoop cl k mv) s =
        .next (s.setCluster cl.val { x with ceiling := min mhz x.aged, millivolt := mv })) ∧
      (∀ n, n ≤ 50 → exec (.droop cl n) s = .next (s.setCluster cl.val { x with stretch := n })) ∧
      exec (.clockChange cl) s = .next (s.setCluster cl.val { x with
        clock := x.clockNext, clockNext := x.clockChosen, stretch := 0 })) ∧
    (∀ (l : LinkId) (n : Nat) (below : Bool), (∀ d up, l ≠ .threeD d up) →
      ∃ u : State, exec (.equalisationLoop l n below) s = .next u ∧ u.mem = s.mem ∧ u.cores = s.cores ∧ (u.link l).setting = n ∧
        (below = true → (u.link l).retraining = true) ∧ (below = false → (u.link l).retraining = (s.link l).retraining)) ∧
    (∀ (die : Fin 8) (rate : Nat), let x := s.die die.val
      exec (.scrubLoop die rate) s =
        .next (s.setDie die.val { x with scrubHours := if 1 < rate then max 1 (x.scrubHours / 2) else 24 })) ∧
    (∀ c : CoreId, let k := s.core c.val
      let clock := (s.cluster (c.val / 64)).clock
      let load := (k.ctxs.toList.filter (fun (x : Ctx) => x.run != .dormant)).length + k.inbox.length
      ∃ u : State, exec (.actfcstUpdate c) s = .next u ∧ u.mem = s.mem ∧ (u.core c.val).busyVec = 0 ∧ (u.core c.val).busyMat = 0 ∧
        (u.core c.val).actfcst.toNat / 2 ^ 12 % 2 ^ 4 = min 15 load ∧
        (∀ p, s.panelAt c.val = some p → p.dispatches = true →
          (u.core c.val).actfcst.toNat % 2 ^ 6 = min 63 (64 * k.busyMat / clock) ∧
          (u.core c.val).actfcst.toNat / 2 ^ 6 % 2 ^ 6 = min 63 (64 * k.busyVec / clock)) ∧
        (u.cluster (c.val / 64)).clockChosen =
          min (clockFor (u.demand (c.val / 64))) (s.cluster (c.val / 64)).ceiling)

/-- 19 R356 to R367, R376: a packet sets out with a reassembly slot and its resend timer, on the circuit, the y-first or the
detour path, or on a fibre; one that no circuit reaches is given up; a flit is held once, and a whole packet is delivered in
PSN order: a message is offered to its core or enters its engine's inbox, sectors are then written, a share reaches the CLE and
results land; a UCIe flit is accepted with a good CRC and the expected LSEQ, and leaves the retry buffer with the ACK; one
accepted before is acknowledged again, another discarded with a NAK, and a void one loses its flits; three NAKs within 1 µs or a
loss of lock start a retrain, after which the sender replays; three failed retrains within 100 µs make every source with the link
on its path resend; an acknowledged packet leaves the send store, and a fabric packet's acknowledgement ends what it carried; an
unacknowledged one, delivered or not, is sent again with the same PSN up to 8 attempts within 1 ms, and then its message is
treated as refused or its command abandoned with LINK; circuits come up and are torn down; a packet from another package enters
the mesh, once, and is acknowledged over the fabric, one between two others goes out again; a CXL port going down abandons the
commands it caught; a router gives every flit it holds a port, in rank order. The model's own here: which agents' writes are
packets, the flits of one packet as one retry entry, a fabric acknowledgement as the admission, the detour, when a resend counts
from, the route of a resend die by die, and the status of a message given up (assumption logs 10, 46, 52, 59, 48, 67, 79). -/
def Obligations.LinksAndPackets : Prop :=
  (∀ (s : State) (pk : Nat) (p : Packet), s.packet pk = some p →
    let pair := s.packets.filter (fun (q : Packet) => q.id == pk || (q.src == p.src && q.dst == p.dst && q.fabric.isNone))
    let gone (i : Instr) := pair = [p] →
      (∀ m k, p.body = .message m → m.cmd = none → m.back = none → m.srcSlot = some k → ∃ u : State, exec i s = .next u ∧
        u.mem = s.mem ∧ (∀ q ∈ u.packets, q.id ≠ pk) ∧ (u.ctx m.src (Fin.ofNat 8 k)).compHeld =
          (s.ctx m.src (Fin.ofNat 8 k)).compHeld ++ [compWord 3 0 (m.h0.toNat % 2 ^ 28)]) ∧
      (∀ m c ns, p.body = .sectors m ns → s.cmd m = some c → c.ended = false → (∀ n, c.kind ≠ .pair n) → c.kind ≠ .header → ∃ (u : State) (c' : Cmd),
        exec i s = .next u ∧ (∀ q ∈ u.packets, q.id ≠ pk) ∧ u.cmd m = some c' ∧ c'.state = .failed 0x13 ∧
          (u.ctx c.core c.slot).compHeld = (s.ctx c.core c.slot).compHeld ++ [c.word 0x13])
    (p.injected = false → s.isReady (.packetInject pk) = true → p.src < 2 ^ 14 →
      (s.unreached p = false → ∃ u : State, exec (.packetInject pk) s = .next u ∧
        u.mem = s.mem ∧ u.cores = s.cores ∧ (s.cycle + 51200, Due.e2eResendTimeout pk) ∈ u.timers ∧
        (p.fabric = none → ∀ f, f < p.flits → f ∉ p.held → Due.flitEject pk f ∈ u.agenda) ∧
        u.packet pk = some { p with
          injected := true, path := s.outPath p, route := s.linksOf p (s.outPath p), attempts := p.attempts + 1, sentAt := s.cycle
          firstAt := s.cycle }) ∧
      (s.unreached p = true → p.delivered = false → gone (.packetInject pk))) ∧
    (∀ f, p.injected = true → f < p.flits → p.fabric = none →
      let held := { p with held := p.held ++ [f] }
      (p.delivered = true ∨ f ∈ p.held → exec (.flitEject pk f) s = .next s) ∧
      (p.delivered = false → f ∉ p.held →
        (p.held.length + 1 ≠ p.flits → pair = [p] → exec (.flitEject pk f) s = .next (s.setPacket held)) ∧
        (∀ q rest, p.src < 2 ^ 14 → pair = q :: rest → q.id ≠ pk → q.delivered = false → q.held.length ≠ q.flits →
          exec (.flitEject pk f) s = .next (s.setPacket held)) ∧
        (p.held.length + 1 = p.flits → pair = [p] → p.src < 2 ^ 14 → ∃ u : State, exec (.flitEject pk f) s = .next u ∧
          u.packet pk = some { held with delivered := true } ∧ Due.e2eAckReceive pk ∈ u.agenda ∧
          (∀ m, p.body = .message m → u.mem = s.mem ∧ (u.core p.dst).offers = (s.core p.dst).offers ++ [m]) ∧
          (∀ c ns, p.body = .sectors c ns → u.mem = s.mem ∧ u.cores = s.cores ∧ ∀ n ∈ ns, Due.sectorWrite c n ∈ u.agenda) ∧
          (∀ c g x, p.body = .leaf c g (some x) → u.mem = s.mem ∧ u.cores = s.cores ∧
            Due.clePartialReceive (some (Fin.ofNat 8 (p.dst / 1024))) g x ∈ u.agenda) ∧
          (∀ m e q, p.body = .order m e → s.panel m.panel = some q → q.state ≠ 6 → u.mem = s.mem ∧ u.cores = s.cores ∧
            (∀ d k, e = .easel d k → (u.die d.val).easelBox[k] = (s.die d.val).easelBox[k] ++ [m]) ∧
            ((∀ d k, e ≠ .easel d k) → ∃ c : Cmd, u.cmds = s.cmds ++ [c] ∧ c.kind = .send (hdrKind m.h0) ∧ c.engine = e ∧
              c.tval = m.h0 ∧ c.core = m.src ∧ c.values = m.payload.map BitVec.toNat)) ∧
          (∀ c m codes wits fl rw, p.body = .result c true → s.cmd c = some m → m.outcome = some (codes, wits, fl, rw) →
            m.ended = false → m.state ≠ .parked →
            let t := ((s.setPacket held).setPacket { held with delivered := true }).landColl m { codes := codes, wits := wits } fl rw
            u.mem = t.mem ∧ u.cmds = t.cmds)) ∧
        (p.held.length + 1 = p.flits → pair = [p] → 2 ^ 14 ≤ p.src →
          let e := SMap.get s.rxPsns 0 (pairKey p.src p.dst none)
          (p.psn ≠ e → exec (.flitEject pk f) s = .next (s.setPacket held)) ∧
          (∀ m, p.psn = e → p.body = .message m → ∃ u : State, exec (.flitEject pk f) s = .next u ∧ u.mem = s.mem ∧
            (u.core p.dst).offers = (s.core p.dst).offers ++ [m] ∧ (∀ q ∈ u.packets, q.id ≠ pk) ∧
            u.abroad = s.abroad ++ [(p.src / 2 ^ 14 - 1, Abroad.ack (p.src % 2 ^ 14) p.dst p.psn)] ∧
            u.rxPsns = SMap.set s.rxPsns (pairKey p.src p.dst none) (p.psn + 1))))) ∧
    (p.delivered = true → p.fabric = none → exec (.e2eAckReceive pk) s = .next
      { s.untime (.e2eResendTimeout pk) with packets := s.packets.filter (fun (q : Packet) => q.id != pk) }) ∧
    (p.fabric.isSome = true → p.injected = true → p.src < 2 ^ 14 → s.crossed p = true →
      (∀ m id c, p.body = .message m → m.cmd = some id → s.cmd id = some c → ∃ u : State, exec (.e2eAckReceive pk) s = .next u ∧
        (∀ q ∈ u.packets, q.id ≠ pk) ∧ u.cmd id = some { c with state := .done, srcRead := true } ∧
        (u.ctx c.core c.slot).compHeld = (s.ctx c.core c.slot).compHeld ++ [c.word 0]) ∧
      (∀ m c ns, p.body = .sectors m ns → s.cmd m = some c → c.ended = false → (∃ x ∈ c.sectors, x.n ∉ ns) →
        ∃ u : State, exec (.e2eAckReceive pk) s = .next u ∧ u.mem = s.mem ∧ u.cores = s.cores ∧ (∀ q ∈ u.packets, q.id ≠ pk) ∧
          u.cmd m = some { c with
            got := c.got + ((c.sectors.filter (fun (x : Sector) => ns.contains x.n)).map (·.credit)).sum
            sectors := c.sectors.filter (fun (x : Sector) => !ns.contains x.n) }) ∧
      (∀ c g x, p.body = .leaf c g (some x) → ∃ u : State, exec (.e2eAckReceive pk) s = .next u ∧ u.mem = s.mem ∧ u.cores = s.cores ∧
        (∀ q ∈ u.packets, q.id ≠ pk) ∧ Due.clePartialReceive none g x ∈ u.agenda)) ∧
    (p.injected = true → s.maySend p = true → ∀ i : Instr, (i = .e2eNakReceive pk ∧ p.delivered = false) ∨
        (i = .e2eResendTimeout pk ∧ (p.sentAt + 51200 ≤ s.cycle ∨ s.stuckOn p = true)) →
      (p.attempts < 8 → s.cycle < p.firstAt + 1600000 → s.unreached p = false → ∃ u : State, exec i s = .next u ∧ u.mem = s.mem ∧
        u.cores = s.cores ∧ u.packet pk = some { p with
          path := s.resendPath p, route := s.linksOf p (s.resendPath p), attempts := p.attempts + 1, sentAt := s.cycle }) ∧
      (8 ≤ p.attempts ∨ p.firstAt + 1600000 ≤ s.cycle ∨ s.unreached p = true → p.delivered = false → gone i))) ∧
  (∀ (s : State) (l : LinkId), let x := s.link l
    let left := x.retry.filter (fun (q : Retry) => !q.accepted)
    (∀ r, x.retraining = false → x.disabled = false → x.retry.find? (fun (q : Retry) => q.lseq == x.expect && !q.accepted) = some r →
      let taken := s.setLink l { x with
        expect := x.expect + 1
        retry := x.retry.map (fun (q : Retry) => if q.lseq = x.expect then { q with accepted := true } else q) }
      (r.void = false → exec (.ucieFlitReceive l x.expect true) s = .next (taken.acking l)) ∧
      (r.void = true → exec (.ucieFlitReceive l x.expect true) s = .next (State.acking { taken with
        packets := s.packets.map (fun (p : Packet) =>
          if p.id = r.pk then { p with lost := p.lost ++ r.flits.map (fun (f : Nat) => (r.attempt, f)) } else p) } l))) ∧
    runDue (.linkAck l) s = .next (s.setLink l { x with retry := left }) ∧
    (∀ lseq, x.retraining = false → x.disabled = false → x.behind lseq = true →
      exec (.ucieFlitReceive l lseq true) s = .next (s.acking l)) ∧
    (∀ lseq good, x.retraining = false → x.disabled = false → good = false ∨ (lseq ≠ x.expect ∧ x.behind lseq = false) →
      ∃ u : State, exec (.ucieFlitReceive l lseq good) s = .next u ∧ u.mem = s.mem ∧ (u.link l).expect = x.expect ∧
        (u.link l).retry = x.retry ∧ Due.nakReceive l ∈ u.agenda ∧
        (u.link l).score.value.toNat = min 65535 (x.score.value.toNat + 1)) ∧
    (x.retraining = false → x.disabled = false →
      let recent := x.naks.filter (fun (t : Nat) => decide (s.cycle ≤ t + 1600))
      (recent.length < 2 → ∃ u : State, exec (.nakReceive l) s = .next u ∧ u.mem = s.mem ∧
        u.link l = { x with naks := recent ++ [s.cycle], retry := left } ∧ ∀ r ∈ left, Due.ucieFlitReceive l r.lseq ∈ u.agenda) ∧
      (2 ≤ recent.length → ∃ u : State, exec (.nakReceive l) s = .next u ∧ u.mem = s.mem ∧ (u.link l).retraining = true ∧
        (u.link l).retry = left ∧ Due.retrainComplete l ∈ u.agenda)) ∧
    (x.disabled = false → x.retraining = false → ∃ u : State, exec (.linkLockLoss l) s = .next u ∧ u.mem = s.mem ∧
      u.link l = { x with retraining := true, naks := [] } ∧ Due.retrainComplete l ∈ u.agenda) ∧
    (x.disabled = false → x.retraining = true →
      let lost := x.trains.filter (fun (t : Nat) => decide (s.cycle ≤ t + 160000))
      let failed := s.setLink l { x with trains := lost ++ [s.cycle] }
      (lost.length < 2 → exec (.linkLockLoss l) s = .next failed) ∧
      (2 ≤ lost.length → ∃ a, exec (.linkLockLoss l) s = .next { failed with agenda := s.agenda ++ a } ∧
        ∀ p ∈ s.packets, p.injected = true → l ∈ p.route → Due.e2eResendTimeout p.id ∈ a)) ∧
    (x.retraining = true → ∃ u : State, exec (.retrainComplete l) s = .next u ∧ u.mem = s.mem ∧
      u.link l = { x with retraining := false, naks := [] } ∧ ∀ r ∈ x.retry, Due.ucieFlitReceive l r.lseq ∈ u.agenda)) ∧
  (∀ (s : State) (idx : Fin 256), let e := SMap.get s.circuits 0 idx.val
    (circState e = 1 → ∃ e' : BitVec 128, e'.toNat % 4 = 2 ∧ e'.toNat / 4 = e.toNat / 4 ∧
      exec (.circuitUp idx) s = .next { s with circuits := SMap.set s.circuits idx.val e' }) ∧
    (circState e = 3 → ∃ e' : BitVec 128, e'.toNat % 4 = 0 ∧ e'.toNat / 4 = e.toNat / 4 ∧
      exec (.circuitTornDown idx) s = .next { s with circuits := SMap.set s.circuits idx.val e' })) ∧
  (∀ (s : State) (fp : FabricPacket), s.portsOpen = true →
    (fp.dstPkg = s.pkgid.toNat →
      let src := farAgent fp.srcPkg fp.src
      let dst := hdrDest fp.h0
      let old := 2 ^ 15 ≤ (fp.psn - SMap.get s.rxPsns 0 (pairKey src dst none)).toNat
      let here := s.packets.find? (fun (q : Packet) => q.src == src && q.dst == dst && q.psn == fp.psn && q.fabric.isNone)
      (old → exec (.fabricForward fp) s = .next { s with abroad := s.abroad ++ [(src / 2 ^ 14 - 1, Abroad.ack (src % 2 ^ 14) dst fp.psn)] }) ∧
      (∀ q, ¬old → here = some q → s.packet q.id = some q →
        (q.injected = false ∨ s.roomOn q 6 = false → exec (.fabricForward fp) s = .next s) ∧
        (q.injected = true → s.roomOn q 6 = true → ∃ u : State, exec (.fabricForward fp) s = .next u ∧ u.mem = s.mem ∧ u.cores = s.cores ∧
          u.packet q.id = some { q with path := 6, route := s.linksOf q 6, attempts := q.attempts + 1, sentAt := s.cycle })) ∧
      (¬old → here = none → ∃ q : Packet, exec (.fabricForward fp) s = .next { s with
          packets := s.packets ++ [q], names := s.names + 1, agenda := s.agenda ++ [Due.packetInject s.names] } ∧ q.id = s.names ∧
        q.src = src ∧ q.dst = dst ∧ q.psn = fp.psn ∧ q.data = fp.payload ∧ q.injected = false ∧ q.delivered = false ∧
        q.fabric = none ∧
        (hdrKind fp.h0 = 0 → ∃ m, q.body = .message m ∧ m.h0 = fp.h0 ∧ m.h1 = fp.h1 ∧ m.payload = fp.payload ∧
          m.panel = fp.panel ∧ m.cross = true) ∧
        (hdrKind fp.h0 ≠ 0 → q.body = .write fp.panel))) ∧
    (fp.dstPkg ≠ s.pkgid.toNat →
      ((s.circuitTo fp.dstPkg).isSome = true →
        (fp.srcPkg = s.pkgid.toNat → exec (.fabricForward fp) s = .next s) ∧
        (fp.srcPkg ≠ s.pkgid.toNat → ∃ q : Packet, exec (.fabricForward fp) s = .next { s with
            packets := s.packets ++ [q], names := s.names + 1, agenda := s.agenda ++ [Due.packetInject s.names] } ∧ q.id = s.names ∧
          q.src = farAgent fp.srcPkg fp.src ∧ q.psn = fp.psn ∧ q.data = fp.payload ∧ q.injected = false ∧
          q.fabric = some (fp.dstPkg, fp.srcPkg))) ∧
      (∀ p c m, s.circuitTo fp.dstPkg = none → p.src < 2 ^ 14 → p.delivered = false → s.pairOf p.src p.dst = [] → s.cmd c = some m → m.ended = false →
        s.packets.filter (fun (p : Packet) => p.fabric.any (fun (e : Nat × Nat) => e.1 == fp.dstPkg) && p.injected) = [p] →
        (∃ ns, p.body = .sectors c ns) ∨ (∃ w, p.body = .message w ∧ w.cmd = some c) → (∀ n, m.kind ≠ .pair n) → m.kind ≠ .header →
        ∃ (u : State) (m' : Cmd), exec (.fabricForward fp) s = .next u ∧ (∀ q ∈ u.packets, q.id ≠ p.id) ∧ u.cmd c = some m' ∧
          m'.state = .failed 0x13 ∧
          (u.ctx m.core m.slot).compHeld = (s.ctx m.core m.slot).compHeld ++ [m.word 0x13]))) ∧
  (∀ (s : State) (port : Fin 8), s.power = true → port.val ∉ s.portsDown → ∃ u : State, exec (.cxlPortDown port) s = .next u ∧
    u.portsDown = s.portsDown ++ [port.val] ∧ ∀ m ∈ u.cmds, m.through port.val = false) ∧
  (∀ (x y : Nat) (ports : List RouterPort) (fs : List Flit), ports.Nodup →
    let out := routeCycle x y ports fs
    (∀ e ∈ out, e.1 ∈ fs ∧ e.2 ∈ ports ∧ (e.2 = .eject → e.1.x = x ∧ e.1.y = y)) ∧ (out.map (·.2)).Nodup ∧
    (fs.length ≤ (ports.filter (· != .eject)).length → out.length = fs.length ∧ ∀ f ∈ fs, ∃ q, (f, q) ∈ out) ∧
    (∀ f ∈ fs, (∀ g ∈ fs, g ≠ f → f.before g = true) → f.productive x y ∈ ports → (f, f.productive x y) ∈ out))

/-- 17 R318 to R322, 18 R347, R348, 20 R395, R396, 17 R313: within 100 µs an engine or a page walker acknowledges a stop, behind
what its die has sent on the ring, by parking the panel's commands, and the last one makes the panel HELD and answers HOLD; past 100 µs the panel runs on and PREEMPT_TIMEOUT is
answered; a save that meets nothing commits its image and leaves the panel SAVED, one that stops leaves it held with SAVECUR,
and the issuer of a SAVEP goes on; a restore puts the image back or kills the panel, and one of RESTP runs on at once; a
checkpoint copies the stack and the scratch of every live die and writes COMMIT, or nothing, and the panels it held run again; a
launch ends with LAUNCH_DONE. The model's own here: open parts of an image as data, ARG0 of PREEMPT_TIMEOUT, the answer to a save
that stops, when gD is written, the OP of a failed restore, and a checkpoint's SEQ (assumption logs 11, 31, 32, 61, 66, 51). -/
def Obligations.HoldsSavesAndCheckpoints : Prop :=
  (∀ (s : State) (n : Nat) (p : Panel), s.panel n = some p →
    (∀ c, p.collect = some c →
      (∀ e, e ∈ c.waiting → s.stoppedAt n e = true → e = .atelier ∨ s.ringClear (agentDie (agentOf e)) = true →
        s.cycle < c.startAt + 160000 →
        ((∃ x ∈ c.waiting, x ≠ e) → exec (.preemptAck n e) s =
          .next ((s.park (s.toPark n e)).setPanel { p with
            parked := p.parked ++ s.toPark n e
            collect := some { c with waiting := c.waiting.filter (fun x => decide (x ≠ e)) } })) ∧
        (∀ rq, (∀ x ∈ c.waiting, x = e) → c.why = .host rq → p.waiting = [] →
          ∃ (u : State) (q : Panel), exec (.preemptAck n e) s = .next u ∧ u.mem = s.mem ∧ u.replies = s.replies ++ [replyTo 0x07 rq 0] ∧
            u.panel n = some q ∧ q.state = 3 ∧ q.hostHeld = true ∧ q.collect = none ∧ q.parked = p.parked ++ s.toPark n e)) ∧
      (∀ rq, c.startAt + 160000 ≤ s.cycle → c.why = .host rq → p.waiting = [] →
        ∃ (u : State) (q : Panel) (r : Reply), exec (.preemptTimeout n) s = .next u ∧ u.replies = s.replies ++ [r] ∧ r.op = 0x07 ∧ r.status = 0x16 ∧
          r.tag = rq.tag ∧ u.panel n = some q ∧ q.state = p.state ∧ q.collect = none ∧
          q.parked = if c.from_ = 3 then c.before else [])) ∧
    (∀ v, s.savingAt n false = some (p, v) →
      (s.saveStopAt p v (imageLen p p.parked.length) = none → ∃ (u : State) (q : Panel) (x : Saved), exec (.saveComplete n) s = .next u ∧
        u.panel n = some q ∧ q.state = 5 ∧ q.savecur = 0 ∧ q.issuer = none ∧
        x ∈ u.saved ∧ x.va = v.va ∧ x.panel = n ∧ x.committed = true ∧
        u.replies = s.replies ++ (v.rq.map (fun rq => replyTo 0x0B rq 0)).toList) ∧
      (∀ o r, s.saveStopAt p v (imageLen p p.parked.length) = some (o, r) → o < 2 ^ 40 → r < 4 →
        let cur := BitVec.ofNat 64 (2 ^ 63 + r * 2 ^ 61 + o)
        ∃ (u : State) (q : Panel), exec (.saveStop n (BitVec.ofNat 2 r) (BitVec.ofNat 40 o)) s = .next u ∧ u.panel n = some q ∧ q.state = 3 ∧
          q.savecur = cur ∧ q.issuer = v.issuer ∧ (∀ c k, v.issuer = some (c, k) → (u.ctx c k).run = .ready) ∧
          u.replies = s.replies ++ (v.rq.map (fun rq => { replyTo 0x0B rq 0x1A with arg0 := cur })).toList)) ∧
    (∀ v, s.savingAt n true = some (p, v) →
      (∀ rq, v.issuer = none → v.rq = some rq →
        (p.state = 5 → s.overlapped p = true → exec (.restoreComplete n) s =
          .next ((s.setPanel { p with saving := none }).answer 0x0C rq 0x10)) ∧
        (¬(p.state = 5 ∧ s.overlapped p = true) → s.restoreImage p v = none →
          ∃ (u : State) (q : Panel), exec (.restoreComplete n) s = .next u ∧ u.panel n = some q ∧ q.state = 6 ∧
            u.replies.getLast? = some (replyTo 0x0C rq 0x17)) ∧
        (∀ img, ¬(p.state = 5 ∧ s.overlapped p = true) → s.restoreImage p v = some img →
          ∃ (u : State) (q : Panel), exec (.restoreComplete n) s = .next u ∧ u.panel n = some q ∧ q.state = 3 ∧ q.bars = img.bars ∧
            u.replies = s.replies ++ [replyTo 0x0C rq 0])) ∧
      (∀ i, v.issuer = some i → p.state ≠ 5 →
        (s.restoreImage p v = none → ∃ (u : State) (q : Panel), exec (.restoreComplete n) s = .next u ∧ u.panel n = some q ∧ q.state = 6) ∧
        (∀ img, s.restoreImage p v = some img → ∃ (u : State) (q : Panel), exec (.restoreComplete n) s = .next u ∧ u.panel n = some q ∧
          q.state = 2 ∧ q.bars = img.bars ∧ q.savecur = 0))) ∧
    (∀ l, p.launch = some l → l.left = 0 → p.launches = [] → exec (.launchDone n) s =
      .next ((s.setPanel { p with launch := none }).send { replyTo 0x04 l.rq 0x01 with arg0 := BitVec.ofNat 64 l.refused }))) ∧
  (∀ (s : State) c, s.checkpoint = some c → s.memOk →
    let told (st : Nat) := ∃ u : State, exec .checkpointComplete s = .next u ∧ u.checkpoint = none ∧
      u.replies.getLast? = some (replyTo 0x15 c.rq st) ∧
      (c.mine = [] → (∀ p ∈ s.panels, p.testHold = false) → exec .checkpointComplete s = .next (State.answer { s with checkpoint := none } 0x15 c.rq st)) ∧
      ∀ n p, c.mine = [n] → s.panel n = some p → p.state = 3 → p.collect = none → p.saving = none → p.aside = none →
        ∃ q, u.panel n = some q ∧ q.state = if p.cores.any s.coreDown then 7 else 2
    (c.timedOut = true → told 0x16) ∧
    (c.timedOut = false → c.failed = true → told 0x1B) ∧
    (c.timedOut = false → c.failed = false → c.holding = [] → c.seq < 2 ^ 32 → c.mine = [] → (∀ p ∈ s.panels, p.testHold = false) →
      (∀ i < 9, ∃ k port, s.segment (c.seg + i) = some (k, port) ∧ s.portServes port = true) →
      (∀ i < 9, ∀ j < 9, i ≠ j → (s.segment (c.seg + i)).map (·.1) ≠ (s.segment (c.seg + j)).map (·.1)) →
      ∀ k port, s.segment c.seg = some (k, port) → ∃ u : State, exec .checkpointComplete s = .next u ∧
        Memory.read u.mem (k + 0xFF8) 8 = 1 + c.seq * 2 ^ 32 ∧ u.checkpoint = none ∧
        u.replies = s.replies ++ [replyTo 0x15 c.rq 0] ∧
        ∀ d < 8, s.dieLive d = true →
          (∀ kd pd, s.segment (c.seg + 1 + d) = some (kd, pd) → ∀ o < 2 ^ 36,
            Memory.get u.mem (kd + o) = Memory.get s.mem (deviceBase + d * 2 ^ 36 + o)) ∧
          ((∀ a, s.phys a = a) → ∀ o < 2 ^ 29,
            Memory.get u.mem (k + 2 ^ 32 + d * 2 ^ 29 + o) = Memory.get s.mem (d * 2 ^ 29 + o))))

/-- 19 R367 to R371, R378, Table 19-4, 20 R384: power-good starts every die's ROM; its stage is measured; the heard die with
the lowest UID becomes master and one not heard is absent; the master has the image and sends it over the ring to every other
die heard, later to a die that comes back; each verifies it, and serves once the SRS starts, or is absent; the master reports each die's state to the board controller; the first package id written is kept; a reset returns the package to its reset values but for
retired clusters; an emergency kill kills every panel. The model's own here: cryptography as opaque functions, the firmware
image's layout, and what outlives a reset (assumption logs 14, 47, 63). -/
def Obligations.BringUpAndReset : Prop :=
  ∀ s : State,
    (s.power = false → ∃ u : State, exec .powerGood s = .next u ∧ u.power = true ∧ u.mem = s.mem ∧ ∀ d : Fin 8, (u.die d.val).stage = .rom) ∧
    (∀ die : Fin 8, (s.die die.val).stage = .rom → ∃ u : State, exec (.romStageDone die) s = .next u ∧ u.mem = s.mem ∧
      (u.die die.val).stage = .heard ∧ (∀ m, s.master = some m → (s.member m.val, Due.imageReceive die) ∈ u.ring) ∧
      (u.die die.val).measure = bytesOf 64 (Config.digest64 ((s.die die.val).measure ++ Config.romImage)).toNat) ∧
    (s.power = true → s.linksUp = false → exec .linkTrainingDone s = .next { s with linksUp := true }) ∧
    (s.linksUp = true → s.master = none → (∃ d : Fin 8, (s.die d.val).stage = .heard) →
      ∃ (u : State) (m : Fin 8), exec .masterElection s = .next u ∧ u.master = some m ∧ (s.die m.val).stage = .heard ∧
        ∀ d : Fin 8, ((s.die d.val).stage = .heard → (Config.uid m).toNat ≤ (Config.uid d).toNat ∧ (u.die d.val).stage = .heard) ∧
          ((s.die d.val).stage ≠ .heard → (u.die d.val).stage = .absent)) ∧
    (∀ image m, s.master = some m → s.srs = false → (∃ d : Fin 8, (s.die d.val).stage = .heard) →
      ∃ u : State, exec (.firmwareDistribute image) s = .next u ∧ u.firmware = image ∧
        (u.die m.val).stage = (if (s.die m.val).stage = .heard then .imaged else (s.die m.val).stage) ∧
        ∀ d : Fin 8, d ≠ m → (u.die d.val).stage = (s.die d.val).stage ∧
          ((s.die d.val).stage = .heard → (s.member m.val, Due.imageReceive d) ∈ u.ring)) ∧
    (∀ die : Fin 8, runDue (.imageReceive die) s = .next (if (s.die die.val).stage = .heard then
      s.setDie die.val { s.die die.val with stage := .imaged } else s)) ∧
    (∀ die : Fin 8, (s.die die.val).stage = .imaged → s.firmware ≠ [] →
      (accepts die s.firmware = true → ∃ u : State, exec (.firmwareVerify die) s = .next u ∧ u.mem = s.mem ∧
        (u.die die.val).stage = if s.srs then .live else .verified) ∧
      (accepts die s.firmware = false → s.srs = false → ∃ u : State, exec (.firmwareVerify die) s = .next u ∧
        u.mem = s.mem ∧ (u.die die.val).stage = .absent ∧ (s.master ≠ some die → u.master = s.master) ∧
        (s.master = some die → (∀ m, u.master = some m → m ≠ die ∧ (s.die m.val).stage ∈ [.heard, .imaged, .verified] ∧
            ∀ d : Fin 8, d ≠ die → (s.die d.val).stage ∈ [.heard, .imaged, .verified] → (Config.uid m).toNat ≤ (Config.uid d).toNat) ∧
          ∀ d : Fin 8, d ≠ die → (s.die d.val).stage ∈ [.heard, .imaged, .verified] → (u.die d.val).stage = .heard)) ∧
      (accepts die s.firmware = false → s.srs = true → exec (.firmwareVerify die) s =
        .next (s.setDie die.val { s.die die.val with stage := .rom }))) ∧
    (∀ m, s.srs = false → s.master = some m → (s.die m.val).stage = .verified →
      (∀ d : Fin 8, (s.die d.val).stage ≠ .imaged ∧ (s.die d.val).stage ≠ .heard) →
      ∃ u : State, exec .srsStart s = .next u ∧ u.srs = true ∧ u.portsOpen = s.pkgidSet ∧ u.mem = s.mem ∧
        u.board = (List.range 8).map (fun d => stageCode (u.die d).stage) ∧ ∀ d : Fin 8, (s.die d.val).stage = .verified → (u.die d.val).stage = .live) ∧
    (∀ id, exec (.packageIdWrite id) s =
      .next (if s.pkgidSet then s else { s with pkgid := id, pkgidSet := true, portsOpen := s.srs })) ∧
    (∃ u : State, exec .resetRequest s = .next u ∧ u.power = false ∧ u.mem = [] ∧ u.cores = [] ∧ u.panels = [] ∧ u.groups = [] ∧
      u.cmds = [] ∧ u.cycle = 0 ∧ u.pkgidSet = false ∧ u.srs = false ∧ u.master = none ∧
      (∀ d, u.die d = .reset) ∧ ∀ cl, (s.cluster cl).retired = true → (u.cluster cl).retired = true) ∧
    (∃ u : State, exec .emergencyKill s = .next u ∧ ∀ p ∈ s.panels, ∃ q, u.panel p.num = some q ∧ q.state = 6)

/-- 19 R372 to R375, R405, Tables 19-5, 19-6, 17 R310, R311, R313, R318, R320, 18 R344 to R348: a request about a panel is
refused with REQ_BAD for its header, PANEL_BAD where there is no such panel, NOTOWNER for another job's; else it loads an
image, launches, reads or writes in accesses of 32 bytes, holds, resumes, swaps, saves, restores, kills or releases the panel,
tells its state, makes a group or maps a page, in the states that allow it, and is refused as BUSY or PANEL_BAD in others. The
model's own here: statuses that no rule names, the place of page tables, GROUP_CREATE's fields, the numbers given out, and
arguments' unnamed bits (assumption logs 37, 42, 43, 54, 55, 60, 76, 77). -/
def Obligations.PanelRequests : Prop :=
  (∀ (s : State) (rq : Req) (img : RoutineImage), s.heard rq = true → s.bulkFree rq = true →
    (∀ (i : Instr) (op : Nat) (ok : Bool),
      (i, op, ok) ∈ [(.panelRelease rq, 0x02, Req.sound rq (some 0)), (.imageLoad rq img, 0x03, rq.len == rq.payload.length),
        (.launch rq, 0x04, Req.sound rq none && decide (64 ≤ rq.len) && rq.len == 64 + blk rq.payload 0x0A 2), (.read rq, 0x05, true),
        (.write rq, 0x06, Req.sound rq none), (.hold rq, 0x07, Req.sound rq (some 0)), (.resumeRequest rq, 0x08, Req.sound rq (some 0)),
        (.swapOut rq, 0x09, Req.sound rq (some 0)), (.swapIn rq, 0x0A, Req.sound rq (some 0)), (.save rq, 0x0B, Req.sound rq (some 64)),
        (.restore rq, 0x0C, Req.sound rq (some 64)), (.kill rq, 0x0D, Req.sound rq (some 0)), (.groupCreate rq, 0x0E, Req.sound rq none),
        (.state rq, 0x12, Req.sound rq (some 0)), (.map rq, 0x17, Req.sound rq (some 0))] →
      (rq.status ≠ 0 ∨ rq.reserved ≠ 0 ∨ ok = false → exec i s = .next (s.answer op rq 0x18)) ∧
      (rq.status = 0 → rq.reserved = 0 → ok = true → s.panel rq.panel = none → exec i s = .next (s.answer op rq 0x10)) ∧
      (rq.status = 0 → rq.reserved = 0 → ok = true → ∀ p, s.panel rq.panel = some p → p.job ≠ rq.job →
        exec i s = .next (s.answer op rq 0x19))) ∧
    (rq.status = 0 → rq.reserved = 0 → ∀ p, s.panel rq.panel = some p → p.job = rq.job →
      let done (u : State) (op st : Nat) := u.replies = s.replies ++ [replyTo op rq 0] ∧
        ∃ q, u.panel rq.panel = some q ∧ q.state = st
      let plain := Req.sound rq (some 0) = true
      (plain → p.state = 6 → ∃ u : State, exec (.panelRelease rq) s = .next u ∧ u.replies = s.replies ++ [replyTo 0x02 rq 0] ∧
        u.panel rq.panel = none ∧ u.mem = s.mem) ∧
      (plain → p.state ≠ 6 → exec (.panelRelease rq) s = .next (s.answer 0x02 rq 0x10)) ∧
      (rq.len = rq.payload.length → p.state = 1 ∨ p.state = 2 ∨ p.state = 7 →
        (p.state ≠ 1 → s.idle p = false → exec (.imageLoad rq img) s = .next (s.answer 0x03 rq 0x1C)) ∧
        (p.state = 1 ∨ s.idle p = true →
          (imageFits img = false → exec (.imageLoad rq img) s = .next (s.answer 0x03 rq 0x18)) ∧
          (imageFits img = true → ∃ (u : State) (q : Panel), exec (.imageLoad rq img) s = .next u ∧
            u.replies = s.replies ++ [{ replyTo 0x03 rq 0 with arg0 := BitVec.ofNat 64 s.names }] ∧
            u.panel rq.panel = some q ∧ q.image = some s.names ∧ q.state = (if p.state = 1 then 2 else p.state) ∧
            (p.state = 1 → ∀ c ∈ p.cores, s.coreDown c = false →
              (u.core c).tvec = BitVec.ofNat 64 (c % 64 * 2 ^ 19 + 0x7A000) ∧
              (u.core c).ptbase = p.ptbase ∧ (u.core c).asid = p.asid)))) ∧
      (rq.len = rq.payload.length → 3 ≤ p.state → p.state ≤ 6 → exec (.imageLoad rq img) s = .next (s.answer 0x03 rq 0x10)) ∧
      (Req.sound rq none = true → 64 ≤ rq.len → rq.len = 64 + blk rq.payload 0x0A 2 →
        (p.launch ≠ none → exec (.launch rq) s = .next (s.setPanel { p with launches := p.launches ++ [rq] })) ∧
        (∀ st, p.launch = none → s.launchFault { p with launches := [] } rq.payload = some st → ∃ u : State, exec (.launch rq) s = .next u ∧
          u.replies = s.replies ++ [replyTo 0x04 rq st] ∧ u.mem = s.mem ∧ u.packets = s.packets) ∧
        (p.launch = none → s.launchFault { p with launches := [] } rq.payload = none →
          let n := blk rq.payload 0x10 4 * blk rq.payload 0x14 4 * blk rq.payload 0x18 4
          ∃ (u : State) (q : Panel), exec (.launch rq) s = .next u ∧ u.mem = s.mem ∧ u.packets.length = s.packets.length + n ∧
            u.panel rq.panel = some q ∧ q.launch = some { rq := rq, left := n, refused := 0 })) ∧
      (∀ (i : Instr) (op : Nat) (w : Bool), (i, op, w) ∈ [(Instr.read rq, 0x05, false), (.write rq, 0x06, true)] →
        (w = true → Req.sound rq none = true) →
        (∀ st, s.hostKeys p rq w = .error st → exec i s = .next (s.answer op rq st)) ∧
        (∀ ks, s.hostKeys p rq w = .ok ks → 0 < rq.len → exec i s = .next { s.setPanel { p with
          bulk := some { rq := rq, write := w } } with agenda := s.agenda ++ [Due.bulkAccess rq.panel] }) ∧
        (∀ ks, s.hostKeys p rq w = .ok ks → rq.len = 0 →
          exec i s = .next ((s.setPanel { p with bulk := none }).answer op rq 0))) ∧
      (plain → p.collect = none → p.state = 2 ∨ p.state = 7 → ∃ (u : State) (q : Panel) (c : Collect), exec (.hold rq) s = .next u ∧ u.mem = s.mem ∧
        u.panel rq.panel = some q ∧ q.collect = some c ∧ c.why = .host rq ∧ c.startAt = s.cycle ∧
        Due.preemptTimeout rq.panel ∈ u.timers.map (·.2) ∧ (∀ e ∈ c.waiting, Due.preemptAck rq.panel e ∈ u.agenda) ∧
        ∀ e, p.has e = true → ∀ k, (u.ctx e k).run ≠ .ready ∧ (u.ctx e k).run ≠ .blocked) ∧
      (plain → p.collect = none →
        (p.state = 3 → ∃ (u : State) (q : Panel), exec (.hold rq) s = .next u ∧ u.mem = s.mem ∧ u.cores = s.cores ∧
          u.replies = s.replies ++ [replyTo 0x07 rq 0] ∧ u.panel rq.panel = some q ∧ q.hostHeld = true ∧ q.testHold = false) ∧
        (p.state ∉ [2, 3, 7] → exec (.hold rq) s = .next (s.answer 0x07 rq 0x10))) ∧
      (plain → p.collect ≠ none → exec (.hold rq) s = .next (s.setPanel { p with waiting := p.waiting ++ [rq] })) ∧
      (plain → s.engaged p = false →
        (p.state = 3 → ∃ u : State, exec (.resumeRequest rq) s = .next u ∧ done u 0x08 (if p.cores.any s.coreDown then 7 else 2)) ∧
        (p.state = 3 → ∃ u : State, exec (.swapOut rq) s = .next u ∧ done u 0x09 4) ∧
        (p.state = 4 → ∃ u : State, exec (.swapIn rq) s = .next u ∧ done u 0x0A 3 ∧ u.mem = s.mem)) ∧
      (plain → s.engaged p = true →
        (p.state = 3 → exec (.resumeRequest rq) s = .next (s.answer 0x08 rq 0x1C) ∧
          exec (.swapOut rq) s = .next (s.answer 0x09 rq 0x1C)) ∧
        (p.state = 4 → exec (.swapIn rq) s = .next (s.answer 0x0A rq 0x1C))) ∧
      (plain → (p.state ≠ 3 → exec (.resumeRequest rq) s = .next (s.answer 0x08 rq 0x10) ∧
          exec (.swapOut rq) s = .next (s.answer 0x09 rq 0x10)) ∧
        (p.state ≠ 4 → exec (.swapIn rq) s = .next (s.answer 0x0A rq 0x10))) ∧
      (Req.sound rq (some 64) = true →
        let b := BitVec.ofNat 512 (numOf rq.payload)
        (saveDescOk b = false → exec (.save rq) s = .next (s.answer 0x0B rq 0x18) ∧
          exec (.restore rq) s = .next (s.answer 0x0C rq 0x18)) ∧
        (saveDescOk b = true → (p.state ≠ 3 → p.state ≠ 4 → exec (.save rq) s = .next (s.answer 0x0B rq 0x10)) ∧
          (p.state ≠ 5 → exec (.restore rq) s = .next (s.answer 0x0C rq 0x10)) ∧
          (s.engaged p = true → (p.state = 3 ∨ p.state = 4 → exec (.save rq) s = .next (s.answer 0x0B rq 0x1C)) ∧
            (p.state = 5 → exec (.restore rq) s = .next (s.answer 0x0C rq 0x1C))) ∧
          (s.engaged p = false → p.state = 5 → s.overlapped p = true → exec (.restore rq) s = .next (s.answer 0x0C rq 0x10)))) ∧
      (Req.sound rq (some 64) = true → saveDescOk (BitVec.ofNat 512 (numOf rq.payload)) = true → s.engaged p = false →
        (p.state = 3 ∨ p.state = 4 → ∃ (u : State) (q : Panel) (v : Saving), exec (.save rq) s = .next u ∧ u.panel rq.panel = some q ∧ q.state = 4 ∧
          q.saving = some v ∧ v.rq = some rq ∧ v.restore = false ∧ u.replies = s.replies) ∧
        (∀ h t, p.state = 5 → s.overlapped p = false →
          s.readVa (coreAt p.x0 p.y0) p.ptbase p.asid (rec64 (BitVec.ofNat 512 (numOf rq.payload)) 0 8) 0x1000 = .ok (h, t) →
          (t.shapeFault p h = none → ∃ (u : State) (q : Panel) (v : Saving), exec (.restore rq) s = .next u ∧ u.mem = t.mem ∧
            u.panel rq.panel = some q ∧ q.saving = some v ∧ v.rq = some rq ∧ v.restore = true ∧
            Due.restoreComplete rq.panel ∈ u.agenda) ∧
          (t.shapeFault p h ≠ none → exec (.restore rq) s = .next (t.answer 0x0C rq 0x17)))) ∧
      (plain → ∃ (u : State) (q : Panel), exec (.kill rq) s = .next u ∧ u.panel rq.panel = some q ∧ q.state = 6 ∧
        u.replies.getLast? = some (replyTo 0x0D rq 0)) ∧
      (plain → exec (.state rq) s = .next (s.send { replyTo 0x12 rq 0 with
        arg0 := BitVec.ofNat 64 p.state, arg1 := BitVec.ofNat 64 (b2n (s.idle p)) })) ∧
      (Req.sound rq none = true → groupOk rq (groupOf rq s.names p) = false →
        exec (.groupCreate rq) s = .next (s.answer 0x0E rq 0x18)) ∧
      (Req.sound rq none = true → groupOk rq (groupOf rq s.names p) = true →
        (∃ k < (groupOf rq s.names p).bytes.length, ∀ e, s.walk p.ptbase p.asid (rq.arg0.toNat + k) false ≠ .ok e) →
        exec (.groupCreate rq) s = .next (s.answer 0x0E rq 0x1A)) ∧
      (Req.sound rq none = true → groupOk rq (groupOf rq s.names p) = true →
        (∀ k < (groupOf rq s.names p).bytes.length, ∃ e, s.walk p.ptbase p.asid (rq.arg0.toNat + k) false = .ok e) →
        ∃ u : State, exec (.groupCreate rq) s = .next u ∧ u.groups = s.groups ++ [groupOf rq s.names p] ∧
          u.replies = s.replies ++ [{ replyTo 0x0E rq 0 with arg0 := BitVec.ofNat 64 s.names }]) ∧
      (plain →
        let va := rq.arg0.toNat
        let b := rq.arg1.toNat
        let code := fld b 4 2
        let pa := fld b 13 34 * 2 ^ 13
        let size := 2 ^ (15 + 10 * code)
        let clean := fld b 0 2 = 0 ∧ fld b 6 7 = 0 ∧ b < 2 ^ 47
        let fits := va < 2 ^ 55 ∧ code ≠ 3 ∧ va % size = 0 ∧ pa % size = 0 ∧ malformed pa = false
        let leaf := if fld b 2 2 = 0 then 0 else pa + 4 * fld b 2 2 + 3
        (¬clean → exec (.map rq) s = .next (s.answer 0x17 rq 0x18)) ∧
        (clean → ¬fits → exec (.map rq) s = .next (s.answer 0x17 rq 0x1A)) ∧
        (∀ st, clean → fits → s.putLeaf (coreAt p.x0 p.y0 / 1024) va leaf p (3 - code) 0 p.root = .error st →
          exec (.map rq) s = .next (s.answer 0x17 rq st)) ∧
        (∀ t q, clean → fits → s.putLeaf (coreAt p.x0 p.y0 / 1024) va leaf p (3 - code) 0 p.root = .ok (t, q) →
          ∃ u : State, exec (.map rq) s = .next u ∧ u.mem = t.mem ∧ Due.mapDone va rq ∈ u.agenda)))) ∧
  (∀ (s : State) (va : Nat) (rq : Req), runDue (.mapDone va rq) s = .next (s.answer 0x17 rq 0)) ∧
  (∀ (s : State) (n : Nat) (p : Panel) (b : Bulk), s.panel n = some p → p.bulk = some b →
    let op := if b.write then 0x06 else 0x05
    let next (t : State) (b : Bulk) : State := if 32 * b.made < b.rq.len then
        { t.setPanel { p with bulk := some b } with agenda := t.agenda ++ [Due.bulkAccess p.num] }
      else (t.setPanel { p with bulk := none }).send { replyTo op b.rq 0 with payload := b.got }
    let here : Req := { b.rq with arg0 := b.rq.arg0 + BitVec.ofNat 64 (32 * b.made), len := 32 }
    (∀ st, s.hostKeys p here b.write = .error st → runDue (.bulkAccess n) s =
      .next ((s.setPanel { p with bulk := none }).answer op b.rq st)) ∧
    (∀ ks, s.hostKeys p here b.write = .ok ks → b.write = false → runDue (.bulkAccess n) s =
      .next (next { s with fresh := s.fresh + 1 } { b with made := b.made + 1, got := b.got ++ ks.map s.hostByte })) ∧
    (∀ k ks, s.hostKeys p here b.write = .ok (k :: ks) → b.write = true →
      let bs := (b.rq.payload.drop (32 * b.made)).take 32
      runDue (.bulkAccess n) s = .next (next (if k < deviceBase then s.putBytes none k bs else { s with
        mem := ((k :: ks).zip bs).foldl (fun m (e : Nat × Byte) => Memory.set m e.1 e.2) s.mem })
          { b with made := b.made + 1 })))

/-- 19 R364, R371 to R374, R376, Table 19-5, 17 R303, 20 R392, R396, 11 R251: a panel is created over a free rectangle of
live cores with its scratch zero; patterns, tier segments and circuits are set; health figures and the attestation report are
told; a checkpoint begins; a REPORT request, and one with an unknown OP, is refused; connections open for a job at a live die's
port, with its kept reports, and close. The model's own here: the place of page tables, SPT_LOAD's fields, layouts of HEALTH and
ATTEST, a checkpoint's SEQ, numbers given out, STATE of a CIRCUIT, arguments' unnamed bits, and where an unknown OP stands
(assumption logs 42, 44, 45, 51, 60, 64, 76, 78). -/
def Obligations.PackageRequests : Prop :=
  (∀ (s : State) (rq : Req), s.heard rq = true →
    let plain := Req.sound rq (some 0) = true
    let a := rq.arg0.toNat
    let b := rq.arg1.toNat
    (∀ (i : Instr) (op : Nat) (len : Nat), (i, op, len) ∈ [(.panelCreate rq, 0x01, 0), (.sptLoad rq, 0x0F, 256),
        (.tierMap rq, 0x10, 0), (.circuit rq, 0x11, 16), (.health rq, 0x13, 0), (.attest rq, 0x14, 32), (.checkpoint rq, 0x15, 0)] →
      Req.sound rq (some len) = false → exec i s = .next (s.answer op rq 0x18)) ∧
    (plain → s.freeTable (coreAt (fld a 0 8) (fld a 8 8) / 1024) = none → exec (.panelCreate rq) s = .next (s.answer 0x01 rq 0x10)) ∧
    (plain → s.freeTable (coreAt (fld a 0 8) (fld a 8 8) / 1024) ≠ none → fld a 40 24 ≠ 0 →
      exec (.panelCreate rq) s = .next (s.answer 0x01 rq 0x18)) ∧
    (plain → ∀ root, s.freeTable (coreAt (fld a 0 8) (fld a 8 8) / 1024) = some root → fld a 40 24 = 0 →
      let p := newPanel rq s.names root s.freeAsid
      (s.panelFits p = false → exec (.panelCreate rq) s = .next (s.answer 0x01 rq 0x10)) ∧
      (s.panelFits p = true → ∃ u : State, exec (.panelCreate rq) s = .next u ∧ u.panels = s.panels ++ [p] ∧ p.state = 1 ∧
        p.job = rq.job ∧ u.replies = s.replies ++ [{ replyTo 0x01 rq 0 with panel := s.names }] ∧
        (∀ c ∈ p.cores, ∀ k, regionBase c ≤ k → k < regionBase (c + 1) → Memory.get u.mem k = 0) ∧
        ∀ c ∈ p.cores, (u.core c).panelId = BitVec.ofNat 32 s.names ∧ ∀ k, (u.ctx c k).run = .dormant)) ∧
    (Req.sound rq (some 256) = true → fld a 6 2 = 0 → a < 2 ^ 11 → s.dieLive (fld a 8 3) = true →
      ∃ u : State, exec (.sptLoad rq) s = .next u ∧ u.mem = s.mem ∧ u.replies = s.replies ++ [replyTo 0x0F rq 0] ∧
        SMap.get (u.die (fld a 8 3)).spt 0 (fld a 0 6) = BitVec.ofNat 2048 (numOf rq.payload)) ∧
    (Req.sound rq (some 256) = true →
      (fld a 6 2 ≠ 0 ∨ 2 ^ 11 ≤ a → exec (.sptLoad rq) s = .next (s.answer 0x0F rq 0x18)) ∧
      (fld a 6 2 = 0 → a < 2 ^ 11 → s.dieLive (fld a 8 3) = false → exec (.sptLoad rq) s = .next (s.answer 0x0F rq 0x1B))) ∧
    (plain → 16 ≤ a ∨ 2 ^ 48 ≤ b ∨ fld b 3 33 ≠ 0 → exec (.tierMap rq) s = .next (s.answer 0x10 rq 0x18)) ∧
    (plain → a < 16 → b < 2 ^ 48 → fld b 3 33 = 0 → ∃ u : State, exec (.tierMap rq) s = .next u ∧ u.mem = s.mem ∧
      SMap.get u.tiers (0, 0) a = (fld b 0 3, fld b 36 12) ∧ u.replies = s.replies ++ [replyTo 0x10 rq 0]) ∧
    (Req.sound rq (some 16) = true → a < 256 →
      let e := BitVec.ofNat 128 (numOf rq.payload)
      let old := SMap.get s.circuits 0 a
      (circuitOk e = false → exec (.circuit rq) s = .next (s.answer 0x11 rq 0x18)) ∧
      (circuitOk e = true → circState e = 1 ∨ circState e = 2 → ∃ (u : State) (n : BitVec 128), exec (.circuit rq) s = .next u ∧ u.mem = s.mem ∧
        u.circuits = SMap.set s.circuits a n ∧ n.toNat % 4 = 1 ∧ n.toNat / 4 = e.toNat / 4 ∧
        Due.circuitUp (Fin.ofNat 256 a) ∈ u.agenda ∧ u.replies = s.replies ++ [replyTo 0x11 rq 0]) ∧
      (circuitOk e = true → circState e = 0 ∨ circState e = 3 →
        (circState old = 0 → exec (.circuit rq) s = .next (s.answer 0x11 rq 0)) ∧
        (circState old ≠ 0 → ∃ (u : State) (n : BitVec 128), exec (.circuit rq) s = .next u ∧ u.mem = s.mem ∧ u.circuits = SMap.set s.circuits a n ∧
          n.toNat % 4 = 3 ∧ n.toNat / 4 = old.toNat / 4 ∧ Due.circuitTornDown (Fin.ofNat 256 a) ∈ u.agenda ∧
          u.replies = s.replies ++ [replyTo 0x11 rq 0]))) ∧
    (Req.sound rq (some 16) = true → 256 ≤ a → exec (.circuit rq) s = .next (s.answer 0x11 rq 0x1A)) ∧
    (plain →
      let source := fld a 8 4
      let told (bs : List Byte) := exec (.health rq) s = .next (s.send { replyTo 0x13 rq 0 with payload := bs })
      (fld a 0 8 = 0 → told ((List.range 8).flatMap s.identity)) ∧
      (fld a 0 8 = 1 → source ≤ 8 → told (s.scores source)) ∧
      (fld a 0 8 = 2 → source ≤ 8 → told (((if source = 8 then s.photonic else (s.die source).records).filter
        (fun (r : HealthRec) => decide (b ≤ r.seq))).flatMap HealthRec.bytes)) ∧
      (fld a 0 8 = 3 → told s.ageing) ∧
      (fld a 0 8 = 1 ∨ fld a 0 8 = 2 → 8 < source → exec (.health rq) s = .next (s.answer 0x13 rq 0x1A)) ∧
      (3 < fld a 0 8 → exec (.health rq) s = .next (s.answer 0x13 rq 0x18))) ∧
    (Req.sound rq (some 32) = true → ∃ (u : State) (r : Reply), exec (.attest rq) s = .next u ∧ u.mem = s.mem ∧ u.replies = s.replies ++ [r] ∧
      r.op = 0x14 ∧ r.status = 0 ∧ ∃ body, r.payload = rq.payload ++ bytesOf 2 s.pkgid.toNat ++ body ∧
        ∃ report, r.payload = report ++ Config.slhSign (Config.identitySeed (s.master.getD 0)) report) ∧
    (plain →
      let seg := fld a 0 4
      (8 ≤ seg ∨ (∃ i < 9, s.segment (seg + i) = none) → exec (.checkpoint rq) s = .next (s.answer 0x15 rq 0x1A)) ∧
      (seg < 8 → (∀ i < 9, s.segment (seg + i) ≠ none) → s.checkpoint ≠ none →
        exec (.checkpoint rq) s = .next (s.answer 0x15 rq 0x1C)) ∧
      (seg < 8 → (∀ i < 9, s.segment (seg + i) ≠ none) → s.checkpoint = none → ∃ (u : State) (c : Check), exec (.checkpoint rq) s = .next u ∧
        u.mem = s.mem ∧ u.checkpoint = some c ∧ c.rq = rq ∧ c.seg = seg ∧ c.cycle = s.cycle ∧ u.checkSeq = c.seq + 1 ∧
        ∀ p, s.panel p.num = some p → p.holdable = true → ∃ q, u.panel p.num = some q ∧ q.collect ≠ none)) ∧
    exec (.report rq) s = .next (s.answer (if 1 ≤ rq.op ∧ rq.op ≤ 0x17 then 0x16 else rq.op) rq 0x18)) ∧
  (∀ (s : State) (job : Nat),
    (s.portsOpen = true →
      (∀ port : Fin 8, s.dieLive port.val = true →
        (∀ j, s.jobs.find? (fun (j : Job) => j.num == job) = some j → ∃ u : State,
          exec (.jobConnect job (.reliableOrdered port)) s = .next u ∧ u.reports = s.reports ++ j.kept ∧
          u.jobs.find? (fun (j : Job) => j.num == job) = some { num := job, port := port.val, open_ := true, kept := [] }) ∧
        (s.jobs.find? (fun (j : Job) => j.num == job) = none → exec (.jobConnect job (.reliableOrdered port)) s =
          .next { s with jobs := s.jobs ++ [{ num := job, port := port.val, open_ := true, kept := [] }] })) ∧
      exec (.jobConnect job .reliableUnordered) s = .next s ∧ exec (.jobConnect job .other) s = .next s) ∧
    ((∃ j ∈ s.jobs, j.num = job ∧ j.open_ = true) → ∃ u : State, exec (.connectionClose job) s = .next u ∧ u.mem = s.mem ∧
      ∀ j ∈ u.jobs, j.num = job → j.open_ = false))

/-- 04 R91 to R93, 05 R108, 07 R153: a c.rep whose target passes its checks runs it from the prefix, the first repetition
with the encoded fields; a repetition of an ADD steps the fields that the mask names by its number, and after the last one
the pc is past the pair; a target that may not repeat raises ILLEGAL, a stepped field past its file REPEAT_RANGE. -/
def Obligations.RepeatForms : Prop :=
  (∀ (s : State) (m : BitVec 4) (n : BitVec 6) (i : Instr), s.alone → s.fetch (s.me.pc + 2) = .ok i →
    let stop (c : Cause) := exec (.cRep m n) s =
      .next (s.takeTrap 2 { cause := c, tval := BitVec.ofNat 64 (Instr.word (.cRep m n)) })
    (i.repCheck m (n.toNat + 1) = none → exec (.cRep m n) s = .next (s.setMe { s.me with
      rep := some { n := n.toNat + 1, mask := m, idx := 0 }, run := .ready, wait := none })) ∧
    (∀ b a d : Fin 32, i = .add false b a d → m = 1 →
      (d.val + n.toNat ≤ 31 → i.repCheck m (n.toNat + 1) = none) ∧ (31 < d.val + n.toNat → stop .repeatRange)) ∧
    (i.len = 2 → stop .illegal) ∧
    (∀ (off : BitVec 12) (b a d : Fin 32) (imm : BitVec 20),
      i ∈ [Instr.beq off b a, .bgeu off b a, .jal imm d, .endh, .eret, .trap a, .mfc 0 d] → stop .illegal)) ∧
  (∀ (s : State) (r : Rep) (b a d : Fin 32) (w : Bool), s.me.rep = some r → s.fetch (s.me.pc + 2) = .ok (.add w b a d) →
    let at_ (k : Nat) (x : Fin 32) := if r.mask.getLsbD k then Fin.ofNat 32 (x.val + r.idx) else x
    s.nextAtPc = .ok (.add w (at_ 2 b) (at_ 1 a) (at_ 0 d)) ∧
    (r.idx + 1 < r.n → (s.me.after 4).pc = s.me.pc ∧ (s.me.after 4).rep = some { r with idx := r.idx + 1 }) ∧
    (r.n ≤ r.idx + 1 → (s.me.after 4).pc = s.me.pc + 6 ∧ (s.me.after 4).rep = none))

/-- 19 R369, Table 19-4, 17 Table 17-12, 03 R42: after package reset no die runs and nothing is loaded; memory keeps its
canonical form and reads zero (assumption log 5); every context is Dormant, in U mode, with MFMT 0x1C, F8SEL 3 and FLAGS 0;
RXCTX is 0xC0. With no input a step leaves memory, power and the panels as they are, whatever it picks, and moves CYCLE on by one
and the delay it picks, to 1,600 at most. Of the values that no rule gives memory's zero and how far CYCLE moves in a step
are stated here, the model's choices (assumption logs 5, 8). -/
def Obligations.ResetState : Prop :=
  State.reset.memOk ∧ (∀ a, Memory.get State.reset.mem a = 0) ∧ State.reset.power = false ∧ State.reset.panels = [] ∧
  State.reset.pkgidSet = false ∧ State.reset.master = none ∧ (∀ d, (State.reset.die d).stage = .off) ∧
  (∀ c, (State.reset.core c).rxctx = 0xC0 ∧ (State.reset.core c).fitness = 0 ∧ (State.reset.core c).inbox = [] ∧
    (State.reset.core c).swq = 0 ∧ ∀ k, let x := State.reset.ctx c k
      x.run = .dormant ∧ x.mode = false ∧ x.mfmt = 0x1C ∧ x.f8sel = 3 ∧ x.flags = 0 ∧ x.frm = 0 ∧ x.pend = [] ∧
        x.mon = none ∧ x.ports = .replicate 5 none) ∧
  (∀ c i, State.reset.vword c i = { ver := 0, cur := 0, prev := 0, plive := false }) ∧
  (∀ l : List Choice, ∃ t, step { State.reset with choices := l } = .next t ∧ t.mem = [] ∧ t.power = false ∧ t.panels = [] ∧
    t.cycle = min (1 + (l.headD { pick := 0, delay := 0 }).delay) 1600)

/-- 05 R98, R106, R107, 95: with no event due and no input, a step lets time pass, picks a context by 17 R315 and runs
exactly one instruction, never a pair (assumption log 86), the one that the bytes at its pc decode to, or the repetition that stands there; bytes that decode to nothing
raise ILLEGAL with them as TVAL, an S-only instruction in U mode PRIV, after older results have completed, where a younger
word may issue (14 R294, 18 R329), and are held where not; the head of a replay
queue whose Wait is over runs before the word at the pc, and a spent repeat waits for its queue. What is due at an instant of
the clock comes about first, then the due event that the choice picks, or the first input that can be served: an input waits for
those before it of its connection and panel (19 R373), passes others that wait, and time passes where all wait. Which event or core a step picks, the cycles
of a step, the order of events and the walkers of requests are the model's choices (assumption logs 7, 8, 88). -/
def Obligations.StepRunsDecodedInstruction : Prop :=
  (∀ (s : State) (core : Nat) (k : Slot),
    let s0 := State.outside { s with choices := s.choices.drop 1 } s.choice
    let s1 := s0.pass s.choice
    let going := s1.eligible (issueNow exec) core
    s.urgent = [] → s0.due = [] → s0.inputs = [] → s1.nextCore (issueNow exec) s.choice.pick = some core →
    s1.best core going = some k →
      let t : State := { s1.aged core going k with actor := Fin.ofNat 8192 core, slot := k, source := .pc, turn := core + 1 }
      let pc := t.me.pc
      let traps (c : Cause) (v : Word) := step s =
        .next (if t.me.pend ≠ [] ∧ t.me.shut none = true then t.hold else t.settle.takeTrap 4 { cause := c, tval := v })
      (t.replays = false → t.me.spent = false →
        (∀ i, t.nextAtPc = .ok i → step s = exec i t) ∧
        (∀ c v, t.nextAtPc = .error (c, v) → traps c v) ∧
        (∀ r i, t.me.rep = some r → t.fetch (pc + 2) = .ok i → step s = exec (i.repAt r.mask r.idx) t) ∧
        (t.me.rep = none → t.fetchFault pc = none → t.sound (t.keyOf pc) 2 = true →
          let h := t.load (t.keyOf pc) 2
          (h % 2 = 0 →
            (∀ i, decode16 h = .ok i → step s = exec i t) ∧
            (∀ e, decode16 h = .error e → traps .illegal (BitVec.ofNat 64 h))) ∧
          (h % 2 = 1 → t.fetchFault (pc + 2) = none → (pc.toNat + 2) % 2 ^ 19 ≠ 0 → t.sound (t.keyOf (pc + 2)) 2 = true →
            let w := h + 65536 * t.load (t.keyOf (pc + 2)) 2
            (∀ i, decode32 w = .ok i → i.sOnly = false ∨ t.me.mode = true → step s = exec i t) ∧
            (∀ i, decode32 w = .ok i → i.sOnly = true → t.me.mode = false → traps .priv (BitVec.ofNat 64 w)) ∧
            (∀ e, decode32 w = .error e → traps .illegal (BitVec.ofNat 64 w))))) ∧
      (t.me.pend = [] → t.replays = false ∧ t.me.spent = false) ∧
      (t.replays = false → t.me.spent = true → step s = .next t.hold) ∧
      (∀ e rest i, t.me.pend = e :: rest → t.waitsNot t.at_ t.slot = true → e.instr = some i →
        step s = exec i { t with source := .entry })) ∧
  (∀ (s : State) (e : Due) (rest : List Due), s.urgent = e :: rest →
    step s = orDropped { s with urgent := rest } (runDue e { s with urgent := rest })) ∧
  (∀ (s : State), s.urgent = [] →
    let s0 := State.outside { s with choices := s.choices.drop 1 } s.choice
    (∀ e, s0.due[s.choice.pick]? = some e →
      step s = orDropped (s0.take e) (runDue e ((s0.take e).pass s.choice))) ∧
    (∀ before i rest, s0.inputs = before ++ i :: rest → s.choice.pick = s0.due.length → (∀ j ∈ before, s0.inputWaits j = true) →
      (∀ rq, panelRequest i = some rq → s0.bulkFree rq = true ∧
        ∀ j ∈ before, ∀ other, panelRequest j = some other → other.job = rq.job → other.panel ≠ rq.panel) →
      s0.walkFor i = true → s0.ringFor i = true →
      let u : State := { s0 with inputs := before ++ rest }
      step s = orDropped u (exec i (u.pass s.choice))) ∧
    (s0.inputs ≠ [] → s.choice.pick = s0.due.length → (∀ i ∈ s0.inputs, s0.inputWaits i = true) →
      step s = .next (s0.pass s.choice)))

/-- 05 R98, R102, R103: for every well-formed instruction of the table, with every operand, decoding its encoding gives
it back with its length. 05 R98, R103, R105: what decodes is a well-formed instruction of the table, and its bytes are
exactly its encoding: every other encoding is refused. -/
def Obligations.EncodeDecodeRoundTrip : Prop :=
  (∀ i : Instr, i.isInstr = true → i.wf = true → decode (encode i) = .ok (i, i.len)) ∧
  (∀ (bs : List Byte) (i : Instr) (n : Nat), decode bs = .ok (i, n) →
    i.isInstr = true ∧ i.wf = true ∧ n = i.len ∧ bs.take n = encode i)

/-- Assumption logs 5 and 6: whatever a step does (an instruction, an event or an input), memory keeps its canonical form:
keys strictly rising and no byte listed that reads as an unlisted one. -/
def Obligations.MemoryKeptByEveryStep : Prop :=
  ∀ s t : State, s.memOk → step s = .next t → t.memOk

/-- 05 R98, R109, Table 05-5, and the worked words of chapters 04, 07 to 12 and 18: each word is the instruction that the
chapter gives for it, and the malformed ones are refused. -/
def Obligations.WorkedDecodes : Prop :=
  (∀ (w : Nat) (i : Instr), (w, i) ∈ [(0x00083383, Instr.add false 4 3 7), (0xFFFE7385, .addi 0x7FFF 7 7),
      (0x02069411, .slli true 3 9 8), (0xFFC20397, .bne 0xFFC 0 7), (0x00090099, .jal 0x90 1), (0x12345393, .lui 0x12345 7),
      (0x00D6339D, .ldd 0 3 true 3 7), (0x0464339F, .stw 2 1 true 3 7), (0x689033A1, .amoadd 1 2 true 8 3 7),
      (0x001033A3, .ldv 8 3 7), (0x10000025, .fence 2), (0x001074A7, .send 8 7 9), (0x400624A9, .copy 8 3 2 9),
      (0x4000302B, .tmld 8 3), (0x0812942D, .mma false true 1 5 2 4), (0x019109AF, .vadd 6 2 2 1 3),
      (0x0084AA31, .vscan 2 0 9 5 4), (0x282942B3, .vlds 8 1 9 8 5), (0x031E0335, .vwmax 6 3 12 0 6),
      (0x098A4437, .credMax 6 5 4 8), (0x00408039, .popcmd 8), (0x00487079, .mtc 4 7), (0x0080007B, .eret)] →
    decodeTableWord 32 w = some i) ∧
  (∀ (w : Nat) (i : Instr), (w, i) ∈ [(0xE9C8, Instr.cAddi 0x1D 7), (0x0026, .cNop), (0x0024, .cEndh), (0x50E2, .cRep 5 3)] →
    decodeTableWord 16 w = some i) ∧
  (∀ w ∈ [0x07083383, 0x000E339D, 0xFFCC0397, 0x031109AF, 0x081294AD, 0x008000FB, 0xFFFFFFFF, 0x00000001],
    decodeTableWord 32 w = none) ∧
  (∀ w ∈ [0x0066, 0xFFFE, 0x0000], decodeTableWord 16 w = none)
end

