-- ==== Sys2Proof/Laws/Maps.lean ====
section
/-!
SUPPORT. The sparse maps of cores and clusters, and reading back what was set: a core, a context, a cluster, a die.
-/

namespace Sys2Proof.Machine

@[simp] theorem SMap.get_set_self {α : Type} (m : List (Nat × α)) (d v : α) (k : Nat) :
    SMap.get (SMap.set m k v) d k = v := by
  induction m with
  | nil => simp [SMap.set, SMap.get]
  | cons e rest ih =>
    simp only [SMap.set]
    split
    · rename_i h
      simp [SMap.get, ih, Nat.ne_of_lt h]
    · split <;> simp [SMap.get]

theorem SMap.get_set_ne {α : Type} (m : List (Nat × α)) (d v : α) {k j : Nat} (h : j ≠ k) :
    SMap.get (SMap.set m k v) d j = SMap.get m d j := by
  induction m with
  | nil => simp [SMap.set, SMap.get, Ne.symm h]
  | cons e rest ih =>
    simp only [SMap.set]
    split
    · simp [SMap.get, ih]
    · split
      · rename_i h'
        simp [SMap.get, h', Ne.symm h]
      · simp [SMap.get, Ne.symm h]

theorem SMap.get_set {α : Type} (m : List (Nat × α)) (d v : α) (k j : Nat) :
    SMap.get (SMap.set m k v) d j = if j = k then v else SMap.get m d j := by
  split
  · rename_i h; subst h; simp
  · rename_i h; exact SMap.get_set_ne m d v h

@[simp] theorem SMap.set_set {α : Type} (m : List (Nat × α)) (k : Nat) (v w : α) :
    SMap.set (SMap.set m k v) k w = SMap.set m k w := by
  induction m with
  | nil => simp [SMap.set]
  | cons e rest ih =>
    simp only [SMap.set]
    split
    · rename_i h; simp [SMap.set, h, ih]
    · split <;> simp [SMap.set]

@[simp] theorem State.core_setCore (s : State) (c : Nat) (k : Core) : (s.setCore c k).core c = k := by
  simp [State.core, State.setCore]

theorem State.core_setCore_ne (s : State) {c d : Nat} (k : Core) (h : d ≠ c) : (s.setCore c k).core d = s.core d := by
  simp [State.core, State.setCore, SMap.get_set_ne _ _ _ h]

@[simp] theorem State.setCore_setCore (s : State) (c : Nat) (k l : Core) : (s.setCore c k).setCore c l = s.setCore c l := by
  simp [State.setCore]

@[simp] theorem State.cluster_setCluster (s : State) (c : Nat) (k : Cluster) : (s.setCluster c k).cluster c = k := by
  simp [State.cluster, State.setCluster]

theorem State.cluster_setCluster_ne (s : State) {c d : Nat} (k : Cluster) (h : d ≠ c) :
    (s.setCluster c k).cluster d = s.cluster d := by
  simp [State.cluster, State.setCluster, SMap.get_set_ne _ _ _ h]

@[simp] theorem State.core_setCluster (s : State) (c d : Nat) (k : Cluster) : (s.setCluster c k).core d = s.core d := rfl
@[simp] theorem State.cluster_setCore (s : State) (c d : Nat) (k : Core) : (s.setCore c k).cluster d = s.cluster d := rfl
@[simp] theorem State.cluster_setCtx (s : State) (c d : Nat) (k : Fin 8) (x : Ctx) :
    (s.setCtx c k x).cluster d = s.cluster d := rfl
@[simp] theorem State.cluster_setMe (s : State) (d : Nat) (x : Ctx) : (s.setMe x).cluster d = s.cluster d := rfl

@[simp] theorem State.ctx_setCtx (s : State) (c : Nat) (k : Fin 8) (x : Ctx) : (s.setCtx c k x).ctx c k = x := by
  simp [State.ctx, State.setCtx]

theorem State.ctx_setCtx_ne (s : State) (c : Nat) {k j : Fin 8} (x : Ctx) (h : j ≠ k) :
    (s.setCtx c k x).ctx c j = s.ctx c j := by
  have : k.val ≠ j.val := fun e => h (Fin.ext e.symm)
  simp [State.ctx, State.setCtx, this]

theorem State.ctx_setCtx_core (s : State) {c d : Nat} (k j : Fin 8) (x : Ctx) (h : d ≠ c) :
    (s.setCtx c k x).ctx d j = s.ctx d j := by
  simp [State.ctx, State.setCtx, State.core_setCore_ne _ _ h]

@[simp] theorem State.setCtx_setCtx (s : State) (c : Nat) (k : Fin 8) (x y : Ctx) :
    (s.setCtx c k x).setCtx c k y = s.setCtx c k y := by
  simp [State.setCtx, Vector.set_set]

@[simp] theorem State.me_setMe (s : State) (x : Ctx) : (s.setMe x).me = x := State.ctx_setCtx ..

@[simp] theorem State.setMe_setMe (s : State) (x y : Ctx) : (s.setMe x).setMe y = s.setMe y := State.setCtx_setCtx ..

@[simp] theorem State.mine_setMine (s : State) (x : Core) : (s.setMine x).mine = x := State.core_setCore ..

@[simp] theorem State.die_setDie (s : State) (d : Nat) (x : Die) : (s.setDie d x).die d = x := by
  simp [State.die, State.setDie]

end Sys2Proof.Machine
end

