-- ==== Sys2Proof/Laws/State.lean ====
section
/-!
SUPPORT. One lemma for each field of State and each update of it: an update of one table leaves every other field.
-/

namespace Sys2Proof.Machine

@[simp] theorem State.setCore_mem (s : State) (c : Nat) (k : Core) : (s.setCore c k).mem = s.mem := rfl
@[simp] theorem State.setCore_poison (s : State) (c : Nat) (k : Core) : (s.setCore c k).poison = s.poison := rfl
@[simp] theorem State.setCore_clusters (s : State) (c : Nat) (k : Core) : (s.setCore c k).clusters = s.clusters := rfl
@[simp] theorem State.setCore_dies (s : State) (c : Nat) (k : Core) : (s.setCore c k).dies = s.dies := rfl
@[simp] theorem State.setCore_panels (s : State) (c : Nat) (k : Core) : (s.setCore c k).panels = s.panels := rfl
@[simp] theorem State.setCore_cycle (s : State) (c : Nat) (k : Core) : (s.setCore c k).cycle = s.cycle := rfl
@[simp] theorem State.setCore_pkgid (s : State) (c : Nat) (k : Core) : (s.setCore c k).pkgid = s.pkgid := rfl
@[simp] theorem State.setCore_pkgidSet (s : State) (c : Nat) (k : Core) : (s.setCore c k).pkgidSet = s.pkgidSet := rfl
@[simp] theorem State.setCore_power (s : State) (c : Nat) (k : Core) : (s.setCore c k).power = s.power := rfl
@[simp] theorem State.setCore_master (s : State) (c : Nat) (k : Core) : (s.setCore c k).master = s.master := rfl
@[simp] theorem State.setCore_linksUp (s : State) (c : Nat) (k : Core) : (s.setCore c k).linksUp = s.linksUp := rfl
@[simp] theorem State.setCore_srs (s : State) (c : Nat) (k : Core) : (s.setCore c k).srs = s.srs := rfl
@[simp] theorem State.setCore_portsOpen (s : State) (c : Nat) (k : Core) : (s.setCore c k).portsOpen = s.portsOpen := rfl
@[simp] theorem State.setCore_firmware (s : State) (c : Nat) (k : Core) : (s.setCore c k).firmware = s.firmware := rfl
@[simp] theorem State.setCore_groups (s : State) (c : Nat) (k : Core) : (s.setCore c k).groups = s.groups := rfl
@[simp] theorem State.setCore_cmds (s : State) (c : Nat) (k : Core) : (s.setCore c k).cmds = s.cmds := rfl
@[simp] theorem State.setCore_packets (s : State) (c : Nat) (k : Core) : (s.setCore c k).packets = s.packets := rfl
@[simp] theorem State.setCore_psns (s : State) (c : Nat) (k : Core) : (s.setCore c k).psns = s.psns := rfl
@[simp] theorem State.setCore_links (s : State) (c : Nat) (k : Core) : (s.setCore c k).links = s.links := rfl
@[simp] theorem State.setCore_circuits (s : State) (c : Nat) (k : Core) : (s.setCore c k).circuits = s.circuits := rfl
@[simp] theorem State.setCore_circuitAt (s : State) (c : Nat) (k : Core) : (s.setCore c k).circuitAt = s.circuitAt := rfl
@[simp] theorem State.setCore_tiers (s : State) (c : Nat) (k : Core) : (s.setCore c k).tiers = s.tiers := rfl
@[simp] theorem State.setCore_portsDown (s : State) (c : Nat) (k : Core) : (s.setCore c k).portsDown = s.portsDown := rfl
@[simp] theorem State.setCore_atelierBox (s : State) (c : Nat) (k : Core) : (s.setCore c k).atelierBox = s.atelierBox := rfl
@[simp] theorem State.setCore_round (s : State) (c : Nat) (k : Core) : (s.setCore c k).round = s.round := rfl
@[simp] theorem State.setCore_jobs (s : State) (c : Nat) (k : Core) : (s.setCore c k).jobs = s.jobs := rfl
@[simp] theorem State.setCore_replies (s : State) (c : Nat) (k : Core) : (s.setCore c k).replies = s.replies := rfl
@[simp] theorem State.setCore_reports (s : State) (c : Nat) (k : Core) : (s.setCore c k).reports = s.reports := rfl
@[simp] theorem State.setCore_abroad (s : State) (c : Nat) (k : Core) : (s.setCore c k).abroad = s.abroad := rfl
@[simp] theorem State.setCore_images (s : State) (c : Nat) (k : Core) : (s.setCore c k).images = s.images := rfl
@[simp] theorem State.setCore_saved (s : State) (c : Nat) (k : Core) : (s.setCore c k).saved = s.saved := rfl
@[simp] theorem State.setCore_checkpoint (s : State) (c : Nat) (k : Core) : (s.setCore c k).checkpoint = s.checkpoint := rfl
@[simp] theorem State.setCore_checkSeq (s : State) (c : Nat) (k : Core) : (s.setCore c k).checkSeq = s.checkSeq := rfl
@[simp] theorem State.setCore_photonic (s : State) (c : Nat) (k : Core) : (s.setCore c k).photonic = s.photonic := rfl
@[simp] theorem State.setCore_photonicSeq (s : State) (c : Nat) (k : Core) : (s.setCore c k).photonicSeq = s.photonicSeq := rfl
@[simp] theorem State.setCore_lastHalf (s : State) (c : Nat) (k : Core) : (s.setCore c k).lastHalf = s.lastHalf := rfl
@[simp] theorem State.setCore_names (s : State) (c : Nat) (k : Core) : (s.setCore c k).names = s.names := rfl
@[simp] theorem State.setCore_actor (s : State) (c : Nat) (k : Core) : (s.setCore c k).actor = s.actor := rfl
@[simp] theorem State.setCore_slot (s : State) (c : Nat) (k : Core) : (s.setCore c k).slot = s.slot := rfl
@[simp] theorem State.setCore_source (s : State) (c : Nat) (k : Core) : (s.setCore c k).source = s.source := rfl
@[simp] theorem State.setCore_turn (s : State) (c : Nat) (k : Core) : (s.setCore c k).turn = s.turn := rfl
@[simp] theorem State.setCore_tick (s : State) (c : Nat) (k : Core) : (s.setCore c k).tick = s.tick := rfl
@[simp] theorem State.setCore_fresh (s : State) (c : Nat) (k : Core) : (s.setCore c k).fresh = s.fresh := rfl
@[simp] theorem State.setCore_choices (s : State) (c : Nat) (k : Core) : (s.setCore c k).choices = s.choices := rfl
@[simp] theorem State.setCore_agenda (s : State) (c : Nat) (k : Core) : (s.setCore c k).agenda = s.agenda := rfl
@[simp] theorem State.setCore_timers (s : State) (c : Nat) (k : Core) : (s.setCore c k).timers = s.timers := rfl
@[simp] theorem State.setCore_inputs (s : State) (c : Nat) (k : Core) : (s.setCore c k).inputs = s.inputs := rfl
@[simp] theorem State.setCore_ring (s : State) (c : Nat) (k : Core) : (s.setCore c k).ring = s.ring := rfl
@[simp] theorem State.setCore_urgent (s : State) (c : Nat) (k : Core) : (s.setCore c k).urgent = s.urgent := rfl
@[simp] theorem State.setCore_rxPsns (s : State) (c : Nat) (k : Core) : (s.setCore c k).rxPsns = s.rxPsns := rfl
@[simp] theorem State.setCore_board (s : State) (c : Nat) (k : Core) : (s.setCore c k).board = s.board := rfl

@[simp] theorem State.setCtx_mem (s : State) (c : Nat) (k : Fin 8) (x : Ctx) : (s.setCtx c k x).mem = s.mem := rfl
@[simp] theorem State.setCtx_poison (s : State) (c : Nat) (k : Fin 8) (x : Ctx) : (s.setCtx c k x).poison = s.poison := rfl
@[simp] theorem State.setCtx_clusters (s : State) (c : Nat) (k : Fin 8) (x : Ctx) : (s.setCtx c k x).clusters = s.clusters := rfl
@[simp] theorem State.setCtx_dies (s : State) (c : Nat) (k : Fin 8) (x : Ctx) : (s.setCtx c k x).dies = s.dies := rfl
@[simp] theorem State.setCtx_panels (s : State) (c : Nat) (k : Fin 8) (x : Ctx) : (s.setCtx c k x).panels = s.panels := rfl
@[simp] theorem State.setCtx_cycle (s : State) (c : Nat) (k : Fin 8) (x : Ctx) : (s.setCtx c k x).cycle = s.cycle := rfl
@[simp] theorem State.setCtx_pkgid (s : State) (c : Nat) (k : Fin 8) (x : Ctx) : (s.setCtx c k x).pkgid = s.pkgid := rfl
@[simp] theorem State.setCtx_pkgidSet (s : State) (c : Nat) (k : Fin 8) (x : Ctx) : (s.setCtx c k x).pkgidSet = s.pkgidSet := rfl
@[simp] theorem State.setCtx_power (s : State) (c : Nat) (k : Fin 8) (x : Ctx) : (s.setCtx c k x).power = s.power := rfl
@[simp] theorem State.setCtx_master (s : State) (c : Nat) (k : Fin 8) (x : Ctx) : (s.setCtx c k x).master = s.master := rfl
@[simp] theorem State.setCtx_linksUp (s : State) (c : Nat) (k : Fin 8) (x : Ctx) : (s.setCtx c k x).linksUp = s.linksUp := rfl
@[simp] theorem State.setCtx_srs (s : State) (c : Nat) (k : Fin 8) (x : Ctx) : (s.setCtx c k x).srs = s.srs := rfl
@[simp] theorem State.setCtx_portsOpen (s : State) (c : Nat) (k : Fin 8) (x : Ctx) : (s.setCtx c k x).portsOpen = s.portsOpen := rfl
@[simp] theorem State.setCtx_firmware (s : State) (c : Nat) (k : Fin 8) (x : Ctx) : (s.setCtx c k x).firmware = s.firmware := rfl
@[simp] theorem State.setCtx_groups (s : State) (c : Nat) (k : Fin 8) (x : Ctx) : (s.setCtx c k x).groups = s.groups := rfl
@[simp] theorem State.setCtx_cmds (s : State) (c : Nat) (k : Fin 8) (x : Ctx) : (s.setCtx c k x).cmds = s.cmds := rfl
@[simp] theorem State.setCtx_packets (s : State) (c : Nat) (k : Fin 8) (x : Ctx) : (s.setCtx c k x).packets = s.packets := rfl
@[simp] theorem State.setCtx_psns (s : State) (c : Nat) (k : Fin 8) (x : Ctx) : (s.setCtx c k x).psns = s.psns := rfl
@[simp] theorem State.setCtx_links (s : State) (c : Nat) (k : Fin 8) (x : Ctx) : (s.setCtx c k x).links = s.links := rfl
@[simp] theorem State.setCtx_circuits (s : State) (c : Nat) (k : Fin 8) (x : Ctx) : (s.setCtx c k x).circuits = s.circuits := rfl
@[simp] theorem State.setCtx_circuitAt (s : State) (c : Nat) (k : Fin 8) (x : Ctx) : (s.setCtx c k x).circuitAt = s.circuitAt := rfl
@[simp] theorem State.setCtx_tiers (s : State) (c : Nat) (k : Fin 8) (x : Ctx) : (s.setCtx c k x).tiers = s.tiers := rfl
@[simp] theorem State.setCtx_portsDown (s : State) (c : Nat) (k : Fin 8) (x : Ctx) : (s.setCtx c k x).portsDown = s.portsDown := rfl
@[simp] theorem State.setCtx_atelierBox (s : State) (c : Nat) (k : Fin 8) (x : Ctx) : (s.setCtx c k x).atelierBox = s.atelierBox := rfl
@[simp] theorem State.setCtx_round (s : State) (c : Nat) (k : Fin 8) (x : Ctx) : (s.setCtx c k x).round = s.round := rfl
@[simp] theorem State.setCtx_jobs (s : State) (c : Nat) (k : Fin 8) (x : Ctx) : (s.setCtx c k x).jobs = s.jobs := rfl
@[simp] theorem State.setCtx_replies (s : State) (c : Nat) (k : Fin 8) (x : Ctx) : (s.setCtx c k x).replies = s.replies := rfl
@[simp] theorem State.setCtx_reports (s : State) (c : Nat) (k : Fin 8) (x : Ctx) : (s.setCtx c k x).reports = s.reports := rfl
@[simp] theorem State.setCtx_abroad (s : State) (c : Nat) (k : Fin 8) (x : Ctx) : (s.setCtx c k x).abroad = s.abroad := rfl
@[simp] theorem State.setCtx_images (s : State) (c : Nat) (k : Fin 8) (x : Ctx) : (s.setCtx c k x).images = s.images := rfl
@[simp] theorem State.setCtx_saved (s : State) (c : Nat) (k : Fin 8) (x : Ctx) : (s.setCtx c k x).saved = s.saved := rfl
@[simp] theorem State.setCtx_checkpoint (s : State) (c : Nat) (k : Fin 8) (x : Ctx) : (s.setCtx c k x).checkpoint = s.checkpoint := rfl
@[simp] theorem State.setCtx_checkSeq (s : State) (c : Nat) (k : Fin 8) (x : Ctx) : (s.setCtx c k x).checkSeq = s.checkSeq := rfl
@[simp] theorem State.setCtx_photonic (s : State) (c : Nat) (k : Fin 8) (x : Ctx) : (s.setCtx c k x).photonic = s.photonic := rfl
@[simp] theorem State.setCtx_photonicSeq (s : State) (c : Nat) (k : Fin 8) (x : Ctx) : (s.setCtx c k x).photonicSeq = s.photonicSeq := rfl
@[simp] theorem State.setCtx_lastHalf (s : State) (c : Nat) (k : Fin 8) (x : Ctx) : (s.setCtx c k x).lastHalf = s.lastHalf := rfl
@[simp] theorem State.setCtx_names (s : State) (c : Nat) (k : Fin 8) (x : Ctx) : (s.setCtx c k x).names = s.names := rfl
@[simp] theorem State.setCtx_actor (s : State) (c : Nat) (k : Fin 8) (x : Ctx) : (s.setCtx c k x).actor = s.actor := rfl
@[simp] theorem State.setCtx_slot (s : State) (c : Nat) (k : Fin 8) (x : Ctx) : (s.setCtx c k x).slot = s.slot := rfl
@[simp] theorem State.setCtx_source (s : State) (c : Nat) (k : Fin 8) (x : Ctx) : (s.setCtx c k x).source = s.source := rfl
@[simp] theorem State.setCtx_turn (s : State) (c : Nat) (k : Fin 8) (x : Ctx) : (s.setCtx c k x).turn = s.turn := rfl
@[simp] theorem State.setCtx_tick (s : State) (c : Nat) (k : Fin 8) (x : Ctx) : (s.setCtx c k x).tick = s.tick := rfl
@[simp] theorem State.setCtx_fresh (s : State) (c : Nat) (k : Fin 8) (x : Ctx) : (s.setCtx c k x).fresh = s.fresh := rfl
@[simp] theorem State.setCtx_choices (s : State) (c : Nat) (k : Fin 8) (x : Ctx) : (s.setCtx c k x).choices = s.choices := rfl
@[simp] theorem State.setCtx_agenda (s : State) (c : Nat) (k : Fin 8) (x : Ctx) : (s.setCtx c k x).agenda = s.agenda := rfl
@[simp] theorem State.setCtx_timers (s : State) (c : Nat) (k : Fin 8) (x : Ctx) : (s.setCtx c k x).timers = s.timers := rfl
@[simp] theorem State.setCtx_inputs (s : State) (c : Nat) (k : Fin 8) (x : Ctx) : (s.setCtx c k x).inputs = s.inputs := rfl
@[simp] theorem State.setCtx_ring (s : State) (c : Nat) (k : Fin 8) (x : Ctx) : (s.setCtx c k x).ring = s.ring := rfl
@[simp] theorem State.setCtx_urgent (s : State) (c : Nat) (k : Fin 8) (x : Ctx) : (s.setCtx c k x).urgent = s.urgent := rfl
@[simp] theorem State.setCtx_rxPsns (s : State) (c : Nat) (k : Fin 8) (x : Ctx) : (s.setCtx c k x).rxPsns = s.rxPsns := rfl
@[simp] theorem State.setCtx_board (s : State) (c : Nat) (k : Fin 8) (x : Ctx) : (s.setCtx c k x).board = s.board := rfl

@[simp] theorem State.setMe_mem (s : State) (x : Ctx) : (s.setMe x).mem = s.mem := rfl
@[simp] theorem State.setMe_poison (s : State) (x : Ctx) : (s.setMe x).poison = s.poison := rfl
@[simp] theorem State.setMe_clusters (s : State) (x : Ctx) : (s.setMe x).clusters = s.clusters := rfl
@[simp] theorem State.setMe_dies (s : State) (x : Ctx) : (s.setMe x).dies = s.dies := rfl
@[simp] theorem State.setMe_panels (s : State) (x : Ctx) : (s.setMe x).panels = s.panels := rfl
@[simp] theorem State.setMe_cycle (s : State) (x : Ctx) : (s.setMe x).cycle = s.cycle := rfl
@[simp] theorem State.setMe_pkgid (s : State) (x : Ctx) : (s.setMe x).pkgid = s.pkgid := rfl
@[simp] theorem State.setMe_pkgidSet (s : State) (x : Ctx) : (s.setMe x).pkgidSet = s.pkgidSet := rfl
@[simp] theorem State.setMe_power (s : State) (x : Ctx) : (s.setMe x).power = s.power := rfl
@[simp] theorem State.setMe_master (s : State) (x : Ctx) : (s.setMe x).master = s.master := rfl
@[simp] theorem State.setMe_linksUp (s : State) (x : Ctx) : (s.setMe x).linksUp = s.linksUp := rfl
@[simp] theorem State.setMe_srs (s : State) (x : Ctx) : (s.setMe x).srs = s.srs := rfl
@[simp] theorem State.setMe_portsOpen (s : State) (x : Ctx) : (s.setMe x).portsOpen = s.portsOpen := rfl
@[simp] theorem State.setMe_firmware (s : State) (x : Ctx) : (s.setMe x).firmware = s.firmware := rfl
@[simp] theorem State.setMe_groups (s : State) (x : Ctx) : (s.setMe x).groups = s.groups := rfl
@[simp] theorem State.setMe_cmds (s : State) (x : Ctx) : (s.setMe x).cmds = s.cmds := rfl
@[simp] theorem State.setMe_packets (s : State) (x : Ctx) : (s.setMe x).packets = s.packets := rfl
@[simp] theorem State.setMe_psns (s : State) (x : Ctx) : (s.setMe x).psns = s.psns := rfl
@[simp] theorem State.setMe_links (s : State) (x : Ctx) : (s.setMe x).links = s.links := rfl
@[simp] theorem State.setMe_circuits (s : State) (x : Ctx) : (s.setMe x).circuits = s.circuits := rfl
@[simp] theorem State.setMe_circuitAt (s : State) (x : Ctx) : (s.setMe x).circuitAt = s.circuitAt := rfl
@[simp] theorem State.setMe_tiers (s : State) (x : Ctx) : (s.setMe x).tiers = s.tiers := rfl
@[simp] theorem State.setMe_portsDown (s : State) (x : Ctx) : (s.setMe x).portsDown = s.portsDown := rfl
@[simp] theorem State.setMe_atelierBox (s : State) (x : Ctx) : (s.setMe x).atelierBox = s.atelierBox := rfl
@[simp] theorem State.setMe_round (s : State) (x : Ctx) : (s.setMe x).round = s.round := rfl
@[simp] theorem State.setMe_jobs (s : State) (x : Ctx) : (s.setMe x).jobs = s.jobs := rfl
@[simp] theorem State.setMe_replies (s : State) (x : Ctx) : (s.setMe x).replies = s.replies := rfl
@[simp] theorem State.setMe_reports (s : State) (x : Ctx) : (s.setMe x).reports = s.reports := rfl
@[simp] theorem State.setMe_abroad (s : State) (x : Ctx) : (s.setMe x).abroad = s.abroad := rfl
@[simp] theorem State.setMe_images (s : State) (x : Ctx) : (s.setMe x).images = s.images := rfl
@[simp] theorem State.setMe_saved (s : State) (x : Ctx) : (s.setMe x).saved = s.saved := rfl
@[simp] theorem State.setMe_checkpoint (s : State) (x : Ctx) : (s.setMe x).checkpoint = s.checkpoint := rfl
@[simp] theorem State.setMe_checkSeq (s : State) (x : Ctx) : (s.setMe x).checkSeq = s.checkSeq := rfl
@[simp] theorem State.setMe_photonic (s : State) (x : Ctx) : (s.setMe x).photonic = s.photonic := rfl
@[simp] theorem State.setMe_photonicSeq (s : State) (x : Ctx) : (s.setMe x).photonicSeq = s.photonicSeq := rfl
@[simp] theorem State.setMe_lastHalf (s : State) (x : Ctx) : (s.setMe x).lastHalf = s.lastHalf := rfl
@[simp] theorem State.setMe_names (s : State) (x : Ctx) : (s.setMe x).names = s.names := rfl
@[simp] theorem State.setMe_actor (s : State) (x : Ctx) : (s.setMe x).actor = s.actor := rfl
@[simp] theorem State.setMe_slot (s : State) (x : Ctx) : (s.setMe x).slot = s.slot := rfl
@[simp] theorem State.setMe_source (s : State) (x : Ctx) : (s.setMe x).source = s.source := rfl
@[simp] theorem State.setMe_turn (s : State) (x : Ctx) : (s.setMe x).turn = s.turn := rfl
@[simp] theorem State.setMe_tick (s : State) (x : Ctx) : (s.setMe x).tick = s.tick := rfl
@[simp] theorem State.setMe_fresh (s : State) (x : Ctx) : (s.setMe x).fresh = s.fresh := rfl
@[simp] theorem State.setMe_choices (s : State) (x : Ctx) : (s.setMe x).choices = s.choices := rfl
@[simp] theorem State.setMe_agenda (s : State) (x : Ctx) : (s.setMe x).agenda = s.agenda := rfl
@[simp] theorem State.setMe_timers (s : State) (x : Ctx) : (s.setMe x).timers = s.timers := rfl
@[simp] theorem State.setMe_inputs (s : State) (x : Ctx) : (s.setMe x).inputs = s.inputs := rfl
@[simp] theorem State.setMe_ring (s : State) (x : Ctx) : (s.setMe x).ring = s.ring := rfl
@[simp] theorem State.setMe_urgent (s : State) (x : Ctx) : (s.setMe x).urgent = s.urgent := rfl
@[simp] theorem State.setMe_rxPsns (s : State) (x : Ctx) : (s.setMe x).rxPsns = s.rxPsns := rfl
@[simp] theorem State.setMe_board (s : State) (x : Ctx) : (s.setMe x).board = s.board := rfl

@[simp] theorem State.setMine_mem (s : State) (x : Core) : (s.setMine x).mem = s.mem := rfl
@[simp] theorem State.setMine_poison (s : State) (x : Core) : (s.setMine x).poison = s.poison := rfl
@[simp] theorem State.setMine_clusters (s : State) (x : Core) : (s.setMine x).clusters = s.clusters := rfl
@[simp] theorem State.setMine_dies (s : State) (x : Core) : (s.setMine x).dies = s.dies := rfl
@[simp] theorem State.setMine_panels (s : State) (x : Core) : (s.setMine x).panels = s.panels := rfl
@[simp] theorem State.setMine_cycle (s : State) (x : Core) : (s.setMine x).cycle = s.cycle := rfl
@[simp] theorem State.setMine_pkgid (s : State) (x : Core) : (s.setMine x).pkgid = s.pkgid := rfl
@[simp] theorem State.setMine_pkgidSet (s : State) (x : Core) : (s.setMine x).pkgidSet = s.pkgidSet := rfl
@[simp] theorem State.setMine_power (s : State) (x : Core) : (s.setMine x).power = s.power := rfl
@[simp] theorem State.setMine_master (s : State) (x : Core) : (s.setMine x).master = s.master := rfl
@[simp] theorem State.setMine_linksUp (s : State) (x : Core) : (s.setMine x).linksUp = s.linksUp := rfl
@[simp] theorem State.setMine_srs (s : State) (x : Core) : (s.setMine x).srs = s.srs := rfl
@[simp] theorem State.setMine_portsOpen (s : State) (x : Core) : (s.setMine x).portsOpen = s.portsOpen := rfl
@[simp] theorem State.setMine_firmware (s : State) (x : Core) : (s.setMine x).firmware = s.firmware := rfl
@[simp] theorem State.setMine_groups (s : State) (x : Core) : (s.setMine x).groups = s.groups := rfl
@[simp] theorem State.setMine_cmds (s : State) (x : Core) : (s.setMine x).cmds = s.cmds := rfl
@[simp] theorem State.setMine_packets (s : State) (x : Core) : (s.setMine x).packets = s.packets := rfl
@[simp] theorem State.setMine_psns (s : State) (x : Core) : (s.setMine x).psns = s.psns := rfl
@[simp] theorem State.setMine_links (s : State) (x : Core) : (s.setMine x).links = s.links := rfl
@[simp] theorem State.setMine_circuits (s : State) (x : Core) : (s.setMine x).circuits = s.circuits := rfl
@[simp] theorem State.setMine_circuitAt (s : State) (x : Core) : (s.setMine x).circuitAt = s.circuitAt := rfl
@[simp] theorem State.setMine_tiers (s : State) (x : Core) : (s.setMine x).tiers = s.tiers := rfl
@[simp] theorem State.setMine_portsDown (s : State) (x : Core) : (s.setMine x).portsDown = s.portsDown := rfl
@[simp] theorem State.setMine_atelierBox (s : State) (x : Core) : (s.setMine x).atelierBox = s.atelierBox := rfl
@[simp] theorem State.setMine_round (s : State) (x : Core) : (s.setMine x).round = s.round := rfl
@[simp] theorem State.setMine_jobs (s : State) (x : Core) : (s.setMine x).jobs = s.jobs := rfl
@[simp] theorem State.setMine_replies (s : State) (x : Core) : (s.setMine x).replies = s.replies := rfl
@[simp] theorem State.setMine_reports (s : State) (x : Core) : (s.setMine x).reports = s.reports := rfl
@[simp] theorem State.setMine_abroad (s : State) (x : Core) : (s.setMine x).abroad = s.abroad := rfl
@[simp] theorem State.setMine_images (s : State) (x : Core) : (s.setMine x).images = s.images := rfl
@[simp] theorem State.setMine_saved (s : State) (x : Core) : (s.setMine x).saved = s.saved := rfl
@[simp] theorem State.setMine_checkpoint (s : State) (x : Core) : (s.setMine x).checkpoint = s.checkpoint := rfl
@[simp] theorem State.setMine_checkSeq (s : State) (x : Core) : (s.setMine x).checkSeq = s.checkSeq := rfl
@[simp] theorem State.setMine_photonic (s : State) (x : Core) : (s.setMine x).photonic = s.photonic := rfl
@[simp] theorem State.setMine_photonicSeq (s : State) (x : Core) : (s.setMine x).photonicSeq = s.photonicSeq := rfl
@[simp] theorem State.setMine_lastHalf (s : State) (x : Core) : (s.setMine x).lastHalf = s.lastHalf := rfl
@[simp] theorem State.setMine_names (s : State) (x : Core) : (s.setMine x).names = s.names := rfl
@[simp] theorem State.setMine_actor (s : State) (x : Core) : (s.setMine x).actor = s.actor := rfl
@[simp] theorem State.setMine_slot (s : State) (x : Core) : (s.setMine x).slot = s.slot := rfl
@[simp] theorem State.setMine_source (s : State) (x : Core) : (s.setMine x).source = s.source := rfl
@[simp] theorem State.setMine_turn (s : State) (x : Core) : (s.setMine x).turn = s.turn := rfl
@[simp] theorem State.setMine_tick (s : State) (x : Core) : (s.setMine x).tick = s.tick := rfl
@[simp] theorem State.setMine_fresh (s : State) (x : Core) : (s.setMine x).fresh = s.fresh := rfl
@[simp] theorem State.setMine_choices (s : State) (x : Core) : (s.setMine x).choices = s.choices := rfl
@[simp] theorem State.setMine_agenda (s : State) (x : Core) : (s.setMine x).agenda = s.agenda := rfl
@[simp] theorem State.setMine_timers (s : State) (x : Core) : (s.setMine x).timers = s.timers := rfl
@[simp] theorem State.setMine_inputs (s : State) (x : Core) : (s.setMine x).inputs = s.inputs := rfl
@[simp] theorem State.setMine_ring (s : State) (x : Core) : (s.setMine x).ring = s.ring := rfl
@[simp] theorem State.setMine_urgent (s : State) (x : Core) : (s.setMine x).urgent = s.urgent := rfl
@[simp] theorem State.setMine_rxPsns (s : State) (x : Core) : (s.setMine x).rxPsns = s.rxPsns := rfl
@[simp] theorem State.setMine_board (s : State) (x : Core) : (s.setMine x).board = s.board := rfl

@[simp] theorem State.setCluster_mem (s : State) (c : Nat) (k : Cluster) : (s.setCluster c k).mem = s.mem := rfl
@[simp] theorem State.setCluster_poison (s : State) (c : Nat) (k : Cluster) : (s.setCluster c k).poison = s.poison := rfl
@[simp] theorem State.setCluster_cores (s : State) (c : Nat) (k : Cluster) : (s.setCluster c k).cores = s.cores := rfl
@[simp] theorem State.setCluster_dies (s : State) (c : Nat) (k : Cluster) : (s.setCluster c k).dies = s.dies := rfl
@[simp] theorem State.setCluster_panels (s : State) (c : Nat) (k : Cluster) : (s.setCluster c k).panels = s.panels := rfl
@[simp] theorem State.setCluster_cycle (s : State) (c : Nat) (k : Cluster) : (s.setCluster c k).cycle = s.cycle := rfl
@[simp] theorem State.setCluster_pkgid (s : State) (c : Nat) (k : Cluster) : (s.setCluster c k).pkgid = s.pkgid := rfl
@[simp] theorem State.setCluster_pkgidSet (s : State) (c : Nat) (k : Cluster) : (s.setCluster c k).pkgidSet = s.pkgidSet := rfl
@[simp] theorem State.setCluster_power (s : State) (c : Nat) (k : Cluster) : (s.setCluster c k).power = s.power := rfl
@[simp] theorem State.setCluster_master (s : State) (c : Nat) (k : Cluster) : (s.setCluster c k).master = s.master := rfl
@[simp] theorem State.setCluster_linksUp (s : State) (c : Nat) (k : Cluster) : (s.setCluster c k).linksUp = s.linksUp := rfl
@[simp] theorem State.setCluster_srs (s : State) (c : Nat) (k : Cluster) : (s.setCluster c k).srs = s.srs := rfl
@[simp] theorem State.setCluster_portsOpen (s : State) (c : Nat) (k : Cluster) : (s.setCluster c k).portsOpen = s.portsOpen := rfl
@[simp] theorem State.setCluster_firmware (s : State) (c : Nat) (k : Cluster) : (s.setCluster c k).firmware = s.firmware := rfl
@[simp] theorem State.setCluster_groups (s : State) (c : Nat) (k : Cluster) : (s.setCluster c k).groups = s.groups := rfl
@[simp] theorem State.setCluster_cmds (s : State) (c : Nat) (k : Cluster) : (s.setCluster c k).cmds = s.cmds := rfl
@[simp] theorem State.setCluster_packets (s : State) (c : Nat) (k : Cluster) : (s.setCluster c k).packets = s.packets := rfl
@[simp] theorem State.setCluster_psns (s : State) (c : Nat) (k : Cluster) : (s.setCluster c k).psns = s.psns := rfl
@[simp] theorem State.setCluster_links (s : State) (c : Nat) (k : Cluster) : (s.setCluster c k).links = s.links := rfl
@[simp] theorem State.setCluster_circuits (s : State) (c : Nat) (k : Cluster) : (s.setCluster c k).circuits = s.circuits := rfl
@[simp] theorem State.setCluster_circuitAt (s : State) (c : Nat) (k : Cluster) : (s.setCluster c k).circuitAt = s.circuitAt := rfl
@[simp] theorem State.setCluster_tiers (s : State) (c : Nat) (k : Cluster) : (s.setCluster c k).tiers = s.tiers := rfl
@[simp] theorem State.setCluster_portsDown (s : State) (c : Nat) (k : Cluster) : (s.setCluster c k).portsDown = s.portsDown := rfl
@[simp] theorem State.setCluster_atelierBox (s : State) (c : Nat) (k : Cluster) : (s.setCluster c k).atelierBox = s.atelierBox := rfl
@[simp] theorem State.setCluster_round (s : State) (c : Nat) (k : Cluster) : (s.setCluster c k).round = s.round := rfl
@[simp] theorem State.setCluster_jobs (s : State) (c : Nat) (k : Cluster) : (s.setCluster c k).jobs = s.jobs := rfl
@[simp] theorem State.setCluster_replies (s : State) (c : Nat) (k : Cluster) : (s.setCluster c k).replies = s.replies := rfl
@[simp] theorem State.setCluster_reports (s : State) (c : Nat) (k : Cluster) : (s.setCluster c k).reports = s.reports := rfl
@[simp] theorem State.setCluster_abroad (s : State) (c : Nat) (k : Cluster) : (s.setCluster c k).abroad = s.abroad := rfl
@[simp] theorem State.setCluster_images (s : State) (c : Nat) (k : Cluster) : (s.setCluster c k).images = s.images := rfl
@[simp] theorem State.setCluster_saved (s : State) (c : Nat) (k : Cluster) : (s.setCluster c k).saved = s.saved := rfl
@[simp] theorem State.setCluster_checkpoint (s : State) (c : Nat) (k : Cluster) : (s.setCluster c k).checkpoint = s.checkpoint := rfl
@[simp] theorem State.setCluster_checkSeq (s : State) (c : Nat) (k : Cluster) : (s.setCluster c k).checkSeq = s.checkSeq := rfl
@[simp] theorem State.setCluster_photonic (s : State) (c : Nat) (k : Cluster) : (s.setCluster c k).photonic = s.photonic := rfl
@[simp] theorem State.setCluster_photonicSeq (s : State) (c : Nat) (k : Cluster) : (s.setCluster c k).photonicSeq = s.photonicSeq := rfl
@[simp] theorem State.setCluster_lastHalf (s : State) (c : Nat) (k : Cluster) : (s.setCluster c k).lastHalf = s.lastHalf := rfl
@[simp] theorem State.setCluster_names (s : State) (c : Nat) (k : Cluster) : (s.setCluster c k).names = s.names := rfl
@[simp] theorem State.setCluster_actor (s : State) (c : Nat) (k : Cluster) : (s.setCluster c k).actor = s.actor := rfl
@[simp] theorem State.setCluster_slot (s : State) (c : Nat) (k : Cluster) : (s.setCluster c k).slot = s.slot := rfl
@[simp] theorem State.setCluster_source (s : State) (c : Nat) (k : Cluster) : (s.setCluster c k).source = s.source := rfl
@[simp] theorem State.setCluster_turn (s : State) (c : Nat) (k : Cluster) : (s.setCluster c k).turn = s.turn := rfl
@[simp] theorem State.setCluster_tick (s : State) (c : Nat) (k : Cluster) : (s.setCluster c k).tick = s.tick := rfl
@[simp] theorem State.setCluster_fresh (s : State) (c : Nat) (k : Cluster) : (s.setCluster c k).fresh = s.fresh := rfl
@[simp] theorem State.setCluster_choices (s : State) (c : Nat) (k : Cluster) : (s.setCluster c k).choices = s.choices := rfl
@[simp] theorem State.setCluster_agenda (s : State) (c : Nat) (k : Cluster) : (s.setCluster c k).agenda = s.agenda := rfl
@[simp] theorem State.setCluster_timers (s : State) (c : Nat) (k : Cluster) : (s.setCluster c k).timers = s.timers := rfl
@[simp] theorem State.setCluster_inputs (s : State) (c : Nat) (k : Cluster) : (s.setCluster c k).inputs = s.inputs := rfl
@[simp] theorem State.setCluster_ring (s : State) (c : Nat) (k : Cluster) : (s.setCluster c k).ring = s.ring := rfl
@[simp] theorem State.setCluster_urgent (s : State) (c : Nat) (k : Cluster) : (s.setCluster c k).urgent = s.urgent := rfl
@[simp] theorem State.setCluster_rxPsns (s : State) (c : Nat) (k : Cluster) : (s.setCluster c k).rxPsns = s.rxPsns := rfl
@[simp] theorem State.setCluster_board (s : State) (c : Nat) (k : Cluster) : (s.setCluster c k).board = s.board := rfl

@[simp] theorem State.setVword_mem (s : State) (cl i : Nat) (w : VWord) : (s.setVword cl i w).mem = s.mem := rfl
@[simp] theorem State.setVword_poison (s : State) (cl i : Nat) (w : VWord) : (s.setVword cl i w).poison = s.poison := rfl
@[simp] theorem State.setVword_cores (s : State) (cl i : Nat) (w : VWord) : (s.setVword cl i w).cores = s.cores := rfl
@[simp] theorem State.setVword_dies (s : State) (cl i : Nat) (w : VWord) : (s.setVword cl i w).dies = s.dies := rfl
@[simp] theorem State.setVword_panels (s : State) (cl i : Nat) (w : VWord) : (s.setVword cl i w).panels = s.panels := rfl
@[simp] theorem State.setVword_cycle (s : State) (cl i : Nat) (w : VWord) : (s.setVword cl i w).cycle = s.cycle := rfl
@[simp] theorem State.setVword_pkgid (s : State) (cl i : Nat) (w : VWord) : (s.setVword cl i w).pkgid = s.pkgid := rfl
@[simp] theorem State.setVword_pkgidSet (s : State) (cl i : Nat) (w : VWord) : (s.setVword cl i w).pkgidSet = s.pkgidSet := rfl
@[simp] theorem State.setVword_power (s : State) (cl i : Nat) (w : VWord) : (s.setVword cl i w).power = s.power := rfl
@[simp] theorem State.setVword_master (s : State) (cl i : Nat) (w : VWord) : (s.setVword cl i w).master = s.master := rfl
@[simp] theorem State.setVword_linksUp (s : State) (cl i : Nat) (w : VWord) : (s.setVword cl i w).linksUp = s.linksUp := rfl
@[simp] theorem State.setVword_srs (s : State) (cl i : Nat) (w : VWord) : (s.setVword cl i w).srs = s.srs := rfl
@[simp] theorem State.setVword_portsOpen (s : State) (cl i : Nat) (w : VWord) : (s.setVword cl i w).portsOpen = s.portsOpen := rfl
@[simp] theorem State.setVword_firmware (s : State) (cl i : Nat) (w : VWord) : (s.setVword cl i w).firmware = s.firmware := rfl
@[simp] theorem State.setVword_groups (s : State) (cl i : Nat) (w : VWord) : (s.setVword cl i w).groups = s.groups := rfl
@[simp] theorem State.setVword_cmds (s : State) (cl i : Nat) (w : VWord) : (s.setVword cl i w).cmds = s.cmds := rfl
@[simp] theorem State.setVword_packets (s : State) (cl i : Nat) (w : VWord) : (s.setVword cl i w).packets = s.packets := rfl
@[simp] theorem State.setVword_psns (s : State) (cl i : Nat) (w : VWord) : (s.setVword cl i w).psns = s.psns := rfl
@[simp] theorem State.setVword_links (s : State) (cl i : Nat) (w : VWord) : (s.setVword cl i w).links = s.links := rfl
@[simp] theorem State.setVword_circuits (s : State) (cl i : Nat) (w : VWord) : (s.setVword cl i w).circuits = s.circuits := rfl
@[simp] theorem State.setVword_circuitAt (s : State) (cl i : Nat) (w : VWord) : (s.setVword cl i w).circuitAt = s.circuitAt := rfl
@[simp] theorem State.setVword_tiers (s : State) (cl i : Nat) (w : VWord) : (s.setVword cl i w).tiers = s.tiers := rfl
@[simp] theorem State.setVword_portsDown (s : State) (cl i : Nat) (w : VWord) : (s.setVword cl i w).portsDown = s.portsDown := rfl
@[simp] theorem State.setVword_atelierBox (s : State) (cl i : Nat) (w : VWord) : (s.setVword cl i w).atelierBox = s.atelierBox := rfl
@[simp] theorem State.setVword_round (s : State) (cl i : Nat) (w : VWord) : (s.setVword cl i w).round = s.round := rfl
@[simp] theorem State.setVword_jobs (s : State) (cl i : Nat) (w : VWord) : (s.setVword cl i w).jobs = s.jobs := rfl
@[simp] theorem State.setVword_replies (s : State) (cl i : Nat) (w : VWord) : (s.setVword cl i w).replies = s.replies := rfl
@[simp] theorem State.setVword_reports (s : State) (cl i : Nat) (w : VWord) : (s.setVword cl i w).reports = s.reports := rfl
@[simp] theorem State.setVword_abroad (s : State) (cl i : Nat) (w : VWord) : (s.setVword cl i w).abroad = s.abroad := rfl
@[simp] theorem State.setVword_images (s : State) (cl i : Nat) (w : VWord) : (s.setVword cl i w).images = s.images := rfl
@[simp] theorem State.setVword_saved (s : State) (cl i : Nat) (w : VWord) : (s.setVword cl i w).saved = s.saved := rfl
@[simp] theorem State.setVword_checkpoint (s : State) (cl i : Nat) (w : VWord) : (s.setVword cl i w).checkpoint = s.checkpoint := rfl
@[simp] theorem State.setVword_checkSeq (s : State) (cl i : Nat) (w : VWord) : (s.setVword cl i w).checkSeq = s.checkSeq := rfl
@[simp] theorem State.setVword_photonic (s : State) (cl i : Nat) (w : VWord) : (s.setVword cl i w).photonic = s.photonic := rfl
@[simp] theorem State.setVword_photonicSeq (s : State) (cl i : Nat) (w : VWord) : (s.setVword cl i w).photonicSeq = s.photonicSeq := rfl
@[simp] theorem State.setVword_lastHalf (s : State) (cl i : Nat) (w : VWord) : (s.setVword cl i w).lastHalf = s.lastHalf := rfl
@[simp] theorem State.setVword_names (s : State) (cl i : Nat) (w : VWord) : (s.setVword cl i w).names = s.names := rfl
@[simp] theorem State.setVword_actor (s : State) (cl i : Nat) (w : VWord) : (s.setVword cl i w).actor = s.actor := rfl
@[simp] theorem State.setVword_slot (s : State) (cl i : Nat) (w : VWord) : (s.setVword cl i w).slot = s.slot := rfl
@[simp] theorem State.setVword_source (s : State) (cl i : Nat) (w : VWord) : (s.setVword cl i w).source = s.source := rfl
@[simp] theorem State.setVword_turn (s : State) (cl i : Nat) (w : VWord) : (s.setVword cl i w).turn = s.turn := rfl
@[simp] theorem State.setVword_tick (s : State) (cl i : Nat) (w : VWord) : (s.setVword cl i w).tick = s.tick := rfl
@[simp] theorem State.setVword_fresh (s : State) (cl i : Nat) (w : VWord) : (s.setVword cl i w).fresh = s.fresh := rfl
@[simp] theorem State.setVword_choices (s : State) (cl i : Nat) (w : VWord) : (s.setVword cl i w).choices = s.choices := rfl
@[simp] theorem State.setVword_agenda (s : State) (cl i : Nat) (w : VWord) : (s.setVword cl i w).agenda = s.agenda := rfl
@[simp] theorem State.setVword_timers (s : State) (cl i : Nat) (w : VWord) : (s.setVword cl i w).timers = s.timers := rfl
@[simp] theorem State.setVword_inputs (s : State) (cl i : Nat) (w : VWord) : (s.setVword cl i w).inputs = s.inputs := rfl
@[simp] theorem State.setVword_ring (s : State) (cl i : Nat) (w : VWord) : (s.setVword cl i w).ring = s.ring := rfl
@[simp] theorem State.setVword_urgent (s : State) (cl i : Nat) (w : VWord) : (s.setVword cl i w).urgent = s.urgent := rfl
@[simp] theorem State.setVword_rxPsns (s : State) (cl i : Nat) (w : VWord) : (s.setVword cl i w).rxPsns = s.rxPsns := rfl
@[simp] theorem State.setVword_board (s : State) (cl i : Nat) (w : VWord) : (s.setVword cl i w).board = s.board := rfl

@[simp] theorem State.setDie_mem (s : State) (d : Nat) (x : Die) : (s.setDie d x).mem = s.mem := rfl
@[simp] theorem State.setDie_poison (s : State) (d : Nat) (x : Die) : (s.setDie d x).poison = s.poison := rfl
@[simp] theorem State.setDie_cores (s : State) (d : Nat) (x : Die) : (s.setDie d x).cores = s.cores := rfl
@[simp] theorem State.setDie_clusters (s : State) (d : Nat) (x : Die) : (s.setDie d x).clusters = s.clusters := rfl
@[simp] theorem State.setDie_panels (s : State) (d : Nat) (x : Die) : (s.setDie d x).panels = s.panels := rfl
@[simp] theorem State.setDie_cycle (s : State) (d : Nat) (x : Die) : (s.setDie d x).cycle = s.cycle := rfl
@[simp] theorem State.setDie_pkgid (s : State) (d : Nat) (x : Die) : (s.setDie d x).pkgid = s.pkgid := rfl
@[simp] theorem State.setDie_pkgidSet (s : State) (d : Nat) (x : Die) : (s.setDie d x).pkgidSet = s.pkgidSet := rfl
@[simp] theorem State.setDie_power (s : State) (d : Nat) (x : Die) : (s.setDie d x).power = s.power := rfl
@[simp] theorem State.setDie_master (s : State) (d : Nat) (x : Die) : (s.setDie d x).master = s.master := rfl
@[simp] theorem State.setDie_linksUp (s : State) (d : Nat) (x : Die) : (s.setDie d x).linksUp = s.linksUp := rfl
@[simp] theorem State.setDie_srs (s : State) (d : Nat) (x : Die) : (s.setDie d x).srs = s.srs := rfl
@[simp] theorem State.setDie_portsOpen (s : State) (d : Nat) (x : Die) : (s.setDie d x).portsOpen = s.portsOpen := rfl
@[simp] theorem State.setDie_firmware (s : State) (d : Nat) (x : Die) : (s.setDie d x).firmware = s.firmware := rfl
@[simp] theorem State.setDie_groups (s : State) (d : Nat) (x : Die) : (s.setDie d x).groups = s.groups := rfl
@[simp] theorem State.setDie_cmds (s : State) (d : Nat) (x : Die) : (s.setDie d x).cmds = s.cmds := rfl
@[simp] theorem State.setDie_packets (s : State) (d : Nat) (x : Die) : (s.setDie d x).packets = s.packets := rfl
@[simp] theorem State.setDie_psns (s : State) (d : Nat) (x : Die) : (s.setDie d x).psns = s.psns := rfl
@[simp] theorem State.setDie_links (s : State) (d : Nat) (x : Die) : (s.setDie d x).links = s.links := rfl
@[simp] theorem State.setDie_circuits (s : State) (d : Nat) (x : Die) : (s.setDie d x).circuits = s.circuits := rfl
@[simp] theorem State.setDie_circuitAt (s : State) (d : Nat) (x : Die) : (s.setDie d x).circuitAt = s.circuitAt := rfl
@[simp] theorem State.setDie_tiers (s : State) (d : Nat) (x : Die) : (s.setDie d x).tiers = s.tiers := rfl
@[simp] theorem State.setDie_portsDown (s : State) (d : Nat) (x : Die) : (s.setDie d x).portsDown = s.portsDown := rfl
@[simp] theorem State.setDie_atelierBox (s : State) (d : Nat) (x : Die) : (s.setDie d x).atelierBox = s.atelierBox := rfl
@[simp] theorem State.setDie_round (s : State) (d : Nat) (x : Die) : (s.setDie d x).round = s.round := rfl
@[simp] theorem State.setDie_jobs (s : State) (d : Nat) (x : Die) : (s.setDie d x).jobs = s.jobs := rfl
@[simp] theorem State.setDie_replies (s : State) (d : Nat) (x : Die) : (s.setDie d x).replies = s.replies := rfl
@[simp] theorem State.setDie_reports (s : State) (d : Nat) (x : Die) : (s.setDie d x).reports = s.reports := rfl
@[simp] theorem State.setDie_abroad (s : State) (d : Nat) (x : Die) : (s.setDie d x).abroad = s.abroad := rfl
@[simp] theorem State.setDie_images (s : State) (d : Nat) (x : Die) : (s.setDie d x).images = s.images := rfl
@[simp] theorem State.setDie_saved (s : State) (d : Nat) (x : Die) : (s.setDie d x).saved = s.saved := rfl
@[simp] theorem State.setDie_checkpoint (s : State) (d : Nat) (x : Die) : (s.setDie d x).checkpoint = s.checkpoint := rfl
@[simp] theorem State.setDie_checkSeq (s : State) (d : Nat) (x : Die) : (s.setDie d x).checkSeq = s.checkSeq := rfl
@[simp] theorem State.setDie_photonic (s : State) (d : Nat) (x : Die) : (s.setDie d x).photonic = s.photonic := rfl
@[simp] theorem State.setDie_photonicSeq (s : State) (d : Nat) (x : Die) : (s.setDie d x).photonicSeq = s.photonicSeq := rfl
@[simp] theorem State.setDie_lastHalf (s : State) (d : Nat) (x : Die) : (s.setDie d x).lastHalf = s.lastHalf := rfl
@[simp] theorem State.setDie_names (s : State) (d : Nat) (x : Die) : (s.setDie d x).names = s.names := rfl
@[simp] theorem State.setDie_actor (s : State) (d : Nat) (x : Die) : (s.setDie d x).actor = s.actor := rfl
@[simp] theorem State.setDie_slot (s : State) (d : Nat) (x : Die) : (s.setDie d x).slot = s.slot := rfl
@[simp] theorem State.setDie_source (s : State) (d : Nat) (x : Die) : (s.setDie d x).source = s.source := rfl
@[simp] theorem State.setDie_turn (s : State) (d : Nat) (x : Die) : (s.setDie d x).turn = s.turn := rfl
@[simp] theorem State.setDie_tick (s : State) (d : Nat) (x : Die) : (s.setDie d x).tick = s.tick := rfl
@[simp] theorem State.setDie_fresh (s : State) (d : Nat) (x : Die) : (s.setDie d x).fresh = s.fresh := rfl
@[simp] theorem State.setDie_choices (s : State) (d : Nat) (x : Die) : (s.setDie d x).choices = s.choices := rfl
@[simp] theorem State.setDie_agenda (s : State) (d : Nat) (x : Die) : (s.setDie d x).agenda = s.agenda := rfl
@[simp] theorem State.setDie_timers (s : State) (d : Nat) (x : Die) : (s.setDie d x).timers = s.timers := rfl
@[simp] theorem State.setDie_inputs (s : State) (d : Nat) (x : Die) : (s.setDie d x).inputs = s.inputs := rfl
@[simp] theorem State.setDie_ring (s : State) (d : Nat) (x : Die) : (s.setDie d x).ring = s.ring := rfl
@[simp] theorem State.setDie_urgent (s : State) (d : Nat) (x : Die) : (s.setDie d x).urgent = s.urgent := rfl
@[simp] theorem State.setDie_rxPsns (s : State) (d : Nat) (x : Die) : (s.setDie d x).rxPsns = s.rxPsns := rfl
@[simp] theorem State.setDie_board (s : State) (d : Nat) (x : Die) : (s.setDie d x).board = s.board := rfl

@[simp] theorem State.setPanel_mem (s : State) (p : Panel) : (s.setPanel p).mem = s.mem := rfl
@[simp] theorem State.setPanel_poison (s : State) (p : Panel) : (s.setPanel p).poison = s.poison := rfl
@[simp] theorem State.setPanel_cores (s : State) (p : Panel) : (s.setPanel p).cores = s.cores := rfl
@[simp] theorem State.setPanel_clusters (s : State) (p : Panel) : (s.setPanel p).clusters = s.clusters := rfl
@[simp] theorem State.setPanel_dies (s : State) (p : Panel) : (s.setPanel p).dies = s.dies := rfl
@[simp] theorem State.setPanel_cycle (s : State) (p : Panel) : (s.setPanel p).cycle = s.cycle := rfl
@[simp] theorem State.setPanel_pkgid (s : State) (p : Panel) : (s.setPanel p).pkgid = s.pkgid := rfl
@[simp] theorem State.setPanel_pkgidSet (s : State) (p : Panel) : (s.setPanel p).pkgidSet = s.pkgidSet := rfl
@[simp] theorem State.setPanel_power (s : State) (p : Panel) : (s.setPanel p).power = s.power := rfl
@[simp] theorem State.setPanel_master (s : State) (p : Panel) : (s.setPanel p).master = s.master := rfl
@[simp] theorem State.setPanel_linksUp (s : State) (p : Panel) : (s.setPanel p).linksUp = s.linksUp := rfl
@[simp] theorem State.setPanel_srs (s : State) (p : Panel) : (s.setPanel p).srs = s.srs := rfl
@[simp] theorem State.setPanel_portsOpen (s : State) (p : Panel) : (s.setPanel p).portsOpen = s.portsOpen := rfl
@[simp] theorem State.setPanel_firmware (s : State) (p : Panel) : (s.setPanel p).firmware = s.firmware := rfl
@[simp] theorem State.setPanel_groups (s : State) (p : Panel) : (s.setPanel p).groups = s.groups := rfl
@[simp] theorem State.setPanel_cmds (s : State) (p : Panel) : (s.setPanel p).cmds = s.cmds := rfl
@[simp] theorem State.setPanel_packets (s : State) (p : Panel) : (s.setPanel p).packets = s.packets := rfl
@[simp] theorem State.setPanel_psns (s : State) (p : Panel) : (s.setPanel p).psns = s.psns := rfl
@[simp] theorem State.setPanel_links (s : State) (p : Panel) : (s.setPanel p).links = s.links := rfl
@[simp] theorem State.setPanel_circuits (s : State) (p : Panel) : (s.setPanel p).circuits = s.circuits := rfl
@[simp] theorem State.setPanel_circuitAt (s : State) (p : Panel) : (s.setPanel p).circuitAt = s.circuitAt := rfl
@[simp] theorem State.setPanel_tiers (s : State) (p : Panel) : (s.setPanel p).tiers = s.tiers := rfl
@[simp] theorem State.setPanel_portsDown (s : State) (p : Panel) : (s.setPanel p).portsDown = s.portsDown := rfl
@[simp] theorem State.setPanel_atelierBox (s : State) (p : Panel) : (s.setPanel p).atelierBox = s.atelierBox := rfl
@[simp] theorem State.setPanel_round (s : State) (p : Panel) : (s.setPanel p).round = s.round := rfl
@[simp] theorem State.setPanel_jobs (s : State) (p : Panel) : (s.setPanel p).jobs = s.jobs := rfl
@[simp] theorem State.setPanel_replies (s : State) (p : Panel) : (s.setPanel p).replies = s.replies := rfl
@[simp] theorem State.setPanel_reports (s : State) (p : Panel) : (s.setPanel p).reports = s.reports := rfl
@[simp] theorem State.setPanel_abroad (s : State) (p : Panel) : (s.setPanel p).abroad = s.abroad := rfl
@[simp] theorem State.setPanel_images (s : State) (p : Panel) : (s.setPanel p).images = s.images := rfl
@[simp] theorem State.setPanel_saved (s : State) (p : Panel) : (s.setPanel p).saved = s.saved := rfl
@[simp] theorem State.setPanel_checkpoint (s : State) (p : Panel) : (s.setPanel p).checkpoint = s.checkpoint := rfl
@[simp] theorem State.setPanel_checkSeq (s : State) (p : Panel) : (s.setPanel p).checkSeq = s.checkSeq := rfl
@[simp] theorem State.setPanel_photonic (s : State) (p : Panel) : (s.setPanel p).photonic = s.photonic := rfl
@[simp] theorem State.setPanel_photonicSeq (s : State) (p : Panel) : (s.setPanel p).photonicSeq = s.photonicSeq := rfl
@[simp] theorem State.setPanel_lastHalf (s : State) (p : Panel) : (s.setPanel p).lastHalf = s.lastHalf := rfl
@[simp] theorem State.setPanel_names (s : State) (p : Panel) : (s.setPanel p).names = s.names := rfl
@[simp] theorem State.setPanel_actor (s : State) (p : Panel) : (s.setPanel p).actor = s.actor := rfl
@[simp] theorem State.setPanel_slot (s : State) (p : Panel) : (s.setPanel p).slot = s.slot := rfl
@[simp] theorem State.setPanel_source (s : State) (p : Panel) : (s.setPanel p).source = s.source := rfl
@[simp] theorem State.setPanel_turn (s : State) (p : Panel) : (s.setPanel p).turn = s.turn := rfl
@[simp] theorem State.setPanel_tick (s : State) (p : Panel) : (s.setPanel p).tick = s.tick := rfl
@[simp] theorem State.setPanel_fresh (s : State) (p : Panel) : (s.setPanel p).fresh = s.fresh := rfl
@[simp] theorem State.setPanel_choices (s : State) (p : Panel) : (s.setPanel p).choices = s.choices := rfl
@[simp] theorem State.setPanel_agenda (s : State) (p : Panel) : (s.setPanel p).agenda = s.agenda := rfl
@[simp] theorem State.setPanel_timers (s : State) (p : Panel) : (s.setPanel p).timers = s.timers := rfl
@[simp] theorem State.setPanel_inputs (s : State) (p : Panel) : (s.setPanel p).inputs = s.inputs := rfl
@[simp] theorem State.setPanel_ring (s : State) (p : Panel) : (s.setPanel p).ring = s.ring := rfl
@[simp] theorem State.setPanel_urgent (s : State) (p : Panel) : (s.setPanel p).urgent = s.urgent := rfl
@[simp] theorem State.setPanel_rxPsns (s : State) (p : Panel) : (s.setPanel p).rxPsns = s.rxPsns := rfl
@[simp] theorem State.setPanel_board (s : State) (p : Panel) : (s.setPanel p).board = s.board := rfl

@[simp] theorem State.setLink_mem (s : State) (l : LinkId) (x : Link) : (s.setLink l x).mem = s.mem := rfl
@[simp] theorem State.setLink_poison (s : State) (l : LinkId) (x : Link) : (s.setLink l x).poison = s.poison := rfl
@[simp] theorem State.setLink_cores (s : State) (l : LinkId) (x : Link) : (s.setLink l x).cores = s.cores := rfl
@[simp] theorem State.setLink_clusters (s : State) (l : LinkId) (x : Link) : (s.setLink l x).clusters = s.clusters := rfl
@[simp] theorem State.setLink_dies (s : State) (l : LinkId) (x : Link) : (s.setLink l x).dies = s.dies := rfl
@[simp] theorem State.setLink_panels (s : State) (l : LinkId) (x : Link) : (s.setLink l x).panels = s.panels := rfl
@[simp] theorem State.setLink_cycle (s : State) (l : LinkId) (x : Link) : (s.setLink l x).cycle = s.cycle := rfl
@[simp] theorem State.setLink_pkgid (s : State) (l : LinkId) (x : Link) : (s.setLink l x).pkgid = s.pkgid := rfl
@[simp] theorem State.setLink_pkgidSet (s : State) (l : LinkId) (x : Link) : (s.setLink l x).pkgidSet = s.pkgidSet := rfl
@[simp] theorem State.setLink_power (s : State) (l : LinkId) (x : Link) : (s.setLink l x).power = s.power := rfl
@[simp] theorem State.setLink_master (s : State) (l : LinkId) (x : Link) : (s.setLink l x).master = s.master := rfl
@[simp] theorem State.setLink_linksUp (s : State) (l : LinkId) (x : Link) : (s.setLink l x).linksUp = s.linksUp := rfl
@[simp] theorem State.setLink_srs (s : State) (l : LinkId) (x : Link) : (s.setLink l x).srs = s.srs := rfl
@[simp] theorem State.setLink_portsOpen (s : State) (l : LinkId) (x : Link) : (s.setLink l x).portsOpen = s.portsOpen := rfl
@[simp] theorem State.setLink_firmware (s : State) (l : LinkId) (x : Link) : (s.setLink l x).firmware = s.firmware := rfl
@[simp] theorem State.setLink_groups (s : State) (l : LinkId) (x : Link) : (s.setLink l x).groups = s.groups := rfl
@[simp] theorem State.setLink_cmds (s : State) (l : LinkId) (x : Link) : (s.setLink l x).cmds = s.cmds := rfl
@[simp] theorem State.setLink_packets (s : State) (l : LinkId) (x : Link) : (s.setLink l x).packets = s.packets := rfl
@[simp] theorem State.setLink_psns (s : State) (l : LinkId) (x : Link) : (s.setLink l x).psns = s.psns := rfl
@[simp] theorem State.setLink_circuits (s : State) (l : LinkId) (x : Link) : (s.setLink l x).circuits = s.circuits := rfl
@[simp] theorem State.setLink_circuitAt (s : State) (l : LinkId) (x : Link) : (s.setLink l x).circuitAt = s.circuitAt := rfl
@[simp] theorem State.setLink_tiers (s : State) (l : LinkId) (x : Link) : (s.setLink l x).tiers = s.tiers := rfl
@[simp] theorem State.setLink_portsDown (s : State) (l : LinkId) (x : Link) : (s.setLink l x).portsDown = s.portsDown := rfl
@[simp] theorem State.setLink_atelierBox (s : State) (l : LinkId) (x : Link) : (s.setLink l x).atelierBox = s.atelierBox := rfl
@[simp] theorem State.setLink_round (s : State) (l : LinkId) (x : Link) : (s.setLink l x).round = s.round := rfl
@[simp] theorem State.setLink_jobs (s : State) (l : LinkId) (x : Link) : (s.setLink l x).jobs = s.jobs := rfl
@[simp] theorem State.setLink_replies (s : State) (l : LinkId) (x : Link) : (s.setLink l x).replies = s.replies := rfl
@[simp] theorem State.setLink_reports (s : State) (l : LinkId) (x : Link) : (s.setLink l x).reports = s.reports := rfl
@[simp] theorem State.setLink_abroad (s : State) (l : LinkId) (x : Link) : (s.setLink l x).abroad = s.abroad := rfl
@[simp] theorem State.setLink_images (s : State) (l : LinkId) (x : Link) : (s.setLink l x).images = s.images := rfl
@[simp] theorem State.setLink_saved (s : State) (l : LinkId) (x : Link) : (s.setLink l x).saved = s.saved := rfl
@[simp] theorem State.setLink_checkpoint (s : State) (l : LinkId) (x : Link) : (s.setLink l x).checkpoint = s.checkpoint := rfl
@[simp] theorem State.setLink_checkSeq (s : State) (l : LinkId) (x : Link) : (s.setLink l x).checkSeq = s.checkSeq := rfl
@[simp] theorem State.setLink_photonic (s : State) (l : LinkId) (x : Link) : (s.setLink l x).photonic = s.photonic := rfl
@[simp] theorem State.setLink_photonicSeq (s : State) (l : LinkId) (x : Link) : (s.setLink l x).photonicSeq = s.photonicSeq := rfl
@[simp] theorem State.setLink_lastHalf (s : State) (l : LinkId) (x : Link) : (s.setLink l x).lastHalf = s.lastHalf := rfl
@[simp] theorem State.setLink_names (s : State) (l : LinkId) (x : Link) : (s.setLink l x).names = s.names := rfl
@[simp] theorem State.setLink_actor (s : State) (l : LinkId) (x : Link) : (s.setLink l x).actor = s.actor := rfl
@[simp] theorem State.setLink_slot (s : State) (l : LinkId) (x : Link) : (s.setLink l x).slot = s.slot := rfl
@[simp] theorem State.setLink_source (s : State) (l : LinkId) (x : Link) : (s.setLink l x).source = s.source := rfl
@[simp] theorem State.setLink_turn (s : State) (l : LinkId) (x : Link) : (s.setLink l x).turn = s.turn := rfl
@[simp] theorem State.setLink_tick (s : State) (l : LinkId) (x : Link) : (s.setLink l x).tick = s.tick := rfl
@[simp] theorem State.setLink_fresh (s : State) (l : LinkId) (x : Link) : (s.setLink l x).fresh = s.fresh := rfl
@[simp] theorem State.setLink_choices (s : State) (l : LinkId) (x : Link) : (s.setLink l x).choices = s.choices := rfl
@[simp] theorem State.setLink_agenda (s : State) (l : LinkId) (x : Link) : (s.setLink l x).agenda = s.agenda := rfl
@[simp] theorem State.setLink_timers (s : State) (l : LinkId) (x : Link) : (s.setLink l x).timers = s.timers := rfl
@[simp] theorem State.setLink_inputs (s : State) (l : LinkId) (x : Link) : (s.setLink l x).inputs = s.inputs := rfl
@[simp] theorem State.setLink_ring (s : State) (l : LinkId) (x : Link) : (s.setLink l x).ring = s.ring := rfl
@[simp] theorem State.setLink_urgent (s : State) (l : LinkId) (x : Link) : (s.setLink l x).urgent = s.urgent := rfl
@[simp] theorem State.setLink_rxPsns (s : State) (l : LinkId) (x : Link) : (s.setLink l x).rxPsns = s.rxPsns := rfl
@[simp] theorem State.setLink_board (s : State) (l : LinkId) (x : Link) : (s.setLink l x).board = s.board := rfl

end Sys2Proof.Machine
end

