-- ==== Sys2Proof/Laws/Issue.lean ====
section
/-!
SUPPORT. What issuing an instruction does in a state whose context issues alone (`State.alone`): the operands read, the
destination written, and the outcome of a body. One lemma for each shared operation of Ops.lean and Operands.lean.
-/

namespace Sys2Proof.Machine

/-! ## A pending matrix result -/

@[simp] theorem Ctx.settle_pend (x : Ctx) : x.settle.pend = x.pend := by unfold Ctx.settle; split <;> rfl
@[simp] theorem Ctx.settle_ports (x : Ctx) : x.settle.ports = x.ports := by unfold Ctx.settle; split <;> rfl
@[simp] theorem Ctx.settle_g (x : Ctx) : x.settle.g = x.g := by unfold Ctx.settle; split <;> rfl
@[simp] theorem Ctx.settle_pc (x : Ctx) : x.settle.pc = x.pc := by unfold Ctx.settle; split <;> rfl
@[simp] theorem Ctx.settle_rep (x : Ctx) : x.settle.rep = x.rep := by unfold Ctx.settle; split <;> rfl
@[simp] theorem Ctx.settle_mode (x : Ctx) : x.settle.mode = x.mode := by unfold Ctx.settle; split <;> rfl
@[simp] theorem Ctx.settle_pmode (x : Ctx) : x.settle.pmode = x.pmode := by unfold Ctx.settle; split <;> rfl
@[simp] theorem Ctx.settle_wait (x : Ctx) : x.settle.wait = x.wait := by unfold Ctx.settle; split <;> rfl
@[simp] theorem Ctx.settle_epc (x : Ctx) : x.settle.epc = x.epc := by unfold Ctx.settle; split <;> rfl
@[simp] theorem Ctx.settle_act (x : Ctx) : x.settle.act = x.act := by unfold Ctx.settle; split <;> rfl

theorem State.settle_me (s : State) : s.settle.me = s.me.settle := by
  unfold State.settle
  split
  · simp
  · cases hm : s.me.mat <;> simp_all [Ctx.settle]

@[simp] theorem State.settle_source (s : State) : s.settle.source = s.source := by unfold State.settle; split <;> simp
@[simp] theorem State.settle_actor (s : State) : s.settle.actor = s.actor := by unfold State.settle; split <;> simp
@[simp] theorem State.settle_slot (s : State) : s.settle.slot = s.slot := by unfold State.settle; split <;> simp
@[simp] theorem State.settle_mem (s : State) : s.settle.mem = s.mem := by unfold State.settle; split <;> simp
@[simp] theorem State.settle_poison (s : State) : s.settle.poison = s.poison := by unfold State.settle; split <;> simp
@[simp] theorem State.settle_panels (s : State) : s.settle.panels = s.panels := by unfold State.settle; split <;> simp
@[simp] theorem State.settle_clusters (s : State) : s.settle.clusters = s.clusters := by unfold State.settle; split <;> simp
@[simp] theorem State.settle_cycle (s : State) : s.settle.cycle = s.cycle := by unfold State.settle; split <;> simp

theorem State.alone.settle {s : State} (h : s.alone) : s.settle = s := by
  simp [State.settle, h.2.2.2]

/-- Settling leaves nothing pending, so it settles once. -/
theorem State.settle_settle (s : State) : s.settle.settle = s.settle := by
  have : s.settle.me.mat = none := by
    rw [State.settle_me]; unfold Ctx.settle; split <;> simp_all
  simp [State.settle, this] at *

/-! ## Ports -/

theorem Ctx.gport_none {x : Ctx} (h : x.ports = .replicate 5 none) (r : Fin 32) : x.gport r = none := by
  unfold Ctx.gport
  split
  · simp [h]
  · rfl

theorem Ctx.vport_none {x : Ctx} (h : x.ports = .replicate 5 none) : x.vport = none := by
  simp [Ctx.vport, h]

theorem Ctx.gbound_none {x : Ctx} (h : x.ports = .replicate 5 none) (r : Option (Fin 32)) : x.gbound r = none := by
  cases r <;> simp [Ctx.gbound, Ctx.gport_none h]

theorem Ctx.misuses_none {x : Ctx} (h : x.ports = .replicate 5 none) (i : Instr) : x.misuses i = false := by
  simp [Ctx.misuses, Ctx.vport_none h, Ctx.gbound_none h]

theorem Ctx.naming_none {x : Ctx} (h : x.ports = .replicate 5 none) (i : Instr) : x.naming i = false := by
  simp [Ctx.naming, Ctx.vport_none h, Ctx.gbound_none h]

/-! ## Operands -/

theorem State.readG_alone {s : State} (h : s.alone) (f : Entry → Word) (r : Fin 32) :
    s.readG f r = .ok (s.me.reg r, s) := by
  obtain ⟨h1, h2, h3, -⟩ := h
  unfold State.readG Ctx.reg
  split
  · rfl
  · simp [Ctx.gport_none h3, h1]

theorem State.srcA_alone {s : State} (h : s.alone) (r : Fin 32) : s.srcA r = .ok (s.me.reg r, s) := s.readG_alone h _ r
theorem State.srcB_alone {s : State} (h : s.alone) (r : Fin 32) : s.srcB r = .ok (s.me.reg r, s) := s.readG_alone h _ r
theorem State.srcD_alone {s : State} (h : s.alone) (r : Fin 32) : s.srcD r = .ok (s.me.reg r, s) := s.readG_alone h _ r

theorem State.writeG_alone {s : State} (h : s.me.ports = .replicate 5 none) (r : Fin 32) (v : Word) :
    s.writeG r v = .ok (s.setG r v) := by
  simp [State.writeG, Ctx.gport_none h]

theorem State.readV_alone {s : State} (h : s.me.ports = .replicate 5 none) (r : Fin 16) : s.readV r = .ok (s.me.v[r], s) := by
  unfold State.readV
  split
  · rename_i h'; split at h' <;> simp_all [Ctx.vport_none h]
  · rfl

/-- A vector register is written unless S mode holds it for the trapped code (18 R332). -/
theorem State.writeV_alone {s : State} (h : s.me.ports = .replicate 5 none) (r : Fin 16) (v : VReg)
    (hm : s.me.mode = false ∨ s.held.getLsbD r.val = false) : s.writeV r v = .ok (s.setV r v) := by
  unfold State.writeV
  have : (s.me.mode && s.held.getLsbD r.val) = false := by
    rcases hm with h | h <;> rw [h] <;> simp
  simp only [this]
  split
  · simp_all
  · split
    · rename_i h'; split at h' <;> simp_all [Ctx.vport_none h]
    · rfl

@[simp] theorem State.setMe_me (s : State) : (s.setMe s.me).me = s.me := by simp

theorem State.setG_eq (s : State) (r : Fin 32) (v : Word) (hr : r ≠ 0) : s.setG r v = s.setMe (s.me.put r v) := by
  simp [State.setG, Ctx.put, hr]

@[simp] theorem State.me_setG (s : State) (r : Fin 32) (v : Word) : (s.setG r v).me = s.me.put r v := by
  unfold State.setG Ctx.put; split <;> simp

/-! ## Completion -/

theorem State.finish_pc {t : State} (h : t.source = .pc) (hp : t.me.pend = []) (len : Nat) :
    t.finish len = t.setMe (t.me.after len) := by
  simp [State.finish, h, hp, Ctx.after]

theorem Ctx.advance_pend (x : Ctx) (len : Nat) : (x.advance len).pend = x.pend := by
  unfold Ctx.advance; split <;> [rfl; (split <;> rfl)]

/-- A body that answers a state of the same context goes on to the next instruction; one that stops traps or waits. -/
theorem issueBy_alone {s : State} (h : s.alone) (i : Instr) (fin : State → State) (body : State → M State) :
    issueBy i fin body s =
      (match body s with
        | .ok t => .next (fin t)
        | .error e => .next (s.stopped i e)) := by
  have hs := h.settle
  obtain ⟨h1, h2, h3, -⟩ := h
  simp only [issueBy, hs, h1, h2, Ctx.misuses_none h3 i, ne_eq, not_true_eq_false, and_false, if_false, Bool.false_eq_true]
  all_goals (cases body s <;> rfl)

theorem issue_alone {s : State} (h : s.alone) (i : Instr) (body : State → M State) :
    issue i body s =
      (match body s with
        | .ok t => .next (t.finish i.len)
        | .error e => .next (s.stopped i e)) := issueBy_alone h i _ body

theorem issueJump_alone {s : State} (h : s.alone) (i : Instr) (body : State → M State) :
    issueJump i body s =
      (match body s with
        | .ok t => .next t.ready
        | .error e => .next (s.stopped i e)) := issueBy_alone h i _ body

theorem issueSelf_alone {s : State} (h : s.alone) (i : Instr) (body : State → M State) :
    issueSelf i body s =
      (match body s with
        | .ok t => .next t
        | .error e => .next (s.stopped i e)) := issueBy_alone h i _ body

@[simp] theorem State.setG_source (s : State) (r : Fin 32) (v : Word) : (s.setG r v).source = s.source := by
  unfold State.setG; split <;> simp

theorem State.setMe_setG (s : State) (r : Fin 32) (v : Word) (x : Ctx) : (s.setG r v).setMe x = s.setMe x := by
  unfold State.setG; split <;> simp

@[simp] theorem Ctx.put_pend (x : Ctx) (r : Fin 32) (v : Word) : (x.put r v).pend = x.pend := by
  unfold Ctx.put; split <;> rfl
@[simp] theorem Ctx.put_ports (x : Ctx) (r : Fin 32) (v : Word) : (x.put r v).ports = x.ports := by
  unfold Ctx.put; split <;> rfl
@[simp] theorem Ctx.put_pc (x : Ctx) (r : Fin 32) (v : Word) : (x.put r v).pc = x.pc := by
  unfold Ctx.put; split <;> rfl

/-- Writing one register and going on. -/
theorem State.finish_setG {s : State} (h : s.alone) (len : Nat) (d : Fin 32) (v : Word) :
    (s.setG d v).finish len = s.gives len d v := by
  rw [State.finish_pc (by simp [h.1]) (by simp [h.2.1])]
  simp [State.gives, State.onMe, State.setMe_setG]

theorem binOp_alone {s : State} (h : s.alone) (i : Instr) (a b d : Fin 32) (f : Word → Word → Word) :
    binOp i a b d f s = .next (s.gives i.len d (f (s.me.reg a) (s.me.reg b))) := by
  simp only [binOp, issue_alone h, State.srcA_alone h, State.srcB_alone h, bind, Except.bind,
    State.writeG_alone h.2.2.1, State.finish_setG h]

theorem unOp_alone {s : State} (h : s.alone) (i : Instr) (a d : Fin 32) (f : Word → Word) :
    unOp i a d f s = .next (s.gives i.len d (f (s.me.reg a))) := by
  simp only [unOp, issue_alone h, State.srcA_alone h, bind, Except.bind,
    State.writeG_alone h.2.2.1, State.finish_setG h]

theorem updOp_alone {s : State} (h : s.alone) (i : Instr) (d : Fin 32) (f : Word → Word) :
    updOp i d f s = .next (s.gives i.len d (f (s.me.reg d))) := by
  simp only [updOp, issue_alone h, State.srcD_alone h, bind, Except.bind,
    State.writeG_alone h.2.2.1, State.finish_setG h]

theorem updOp2_alone {s : State} (h : s.alone) (i : Instr) (a d : Fin 32) (f : Word → Word → Word) :
    updOp2 i a d f s = .next (s.gives i.len d (f (s.me.reg d) (s.me.reg a))) := by
  simp only [updOp2, issue_alone h, State.srcD_alone h, State.srcA_alone h, bind, Except.bind,
    State.writeG_alone h.2.2.1, State.finish_setG h]

theorem setOp_alone {s : State} (h : s.alone) (i : Instr) (d : Fin 32) (v : Word) :
    setOp i d v s = .next (s.gives i.len d v) := by
  simp only [setOp, issue_alone h, State.writeG_alone h.2.2.1, State.finish_setG h]

/-- A body that writes one register of a context that issues alone. -/
theorem issue_writeG_alone {s : State} (h : s.alone) (i : Instr) (d : Fin 32) (v : State → Word) :
    issue i (fun t => t.writeG d (v t)) s = .next (s.gives i.len d (v s)) := by
  simp only [issue_alone h, State.writeG_alone h.2.2.1, State.finish_setG h]

/-! ## Jumps and branches -/

theorem State.ready_setMe (s : State) (x : Ctx) (hx : x.pend = []) :
    (s.setMe x).ready = s.setMe { x with run := .ready, wait := none } := by
  simp [State.ready, hx]

theorem State.goes_zero (s : State) (t : Word) (v : Word) :
    s.goes t 0 v = s.setMe { s.me with pc := t, run := .ready, wait := none } := rfl

theorem brOp_alone {s : State} (h : s.alone) (i : Instr) (off : BitVec 12) (a b : Fin 32) (cond : Word → Word → Bool) :
    brOp i off a b cond s =
      .next (s.goes (s.me.pc + if cond (s.me.reg a) (s.me.reg b) then sxi off * 2 else BitVec.ofNat 64 4) 0 0) := by
  simp only [brOp, issueJump_alone h, State.srcA_alone h, State.srcB_alone h, bind, Except.bind, pure, Except.pure,
    State.branch]
  rw [State.ready_setMe, State.goes_zero]
  exact h.2.1

theorem cbrOp_alone {s : State} (h : s.alone) (i : Instr) (imm : BitVec 5) (d : Fin 32) (cond : Word → Bool) :
    cbrOp i imm d cond s =
      .next (s.goes (s.me.pc + if cond (s.me.reg d) then sxi imm * 2 else BitVec.ofNat 64 2) 0 0) := by
  simp only [cbrOp, issueJump_alone h, State.srcD_alone h, bind, Except.bind, pure, Except.pure, State.branch]
  rw [State.ready_setMe, State.goes_zero]
  exact h.2.1

/-- A jump with its link written: to an even address it goes there, to an odd one it raises MISALIGN. -/
theorem State.jumpTo_link {s : State} (h : s.alone) (t : Word) (d : Fin 32) (len : Nat) :
    s.jumpTo t (some d) len =
      if t.getLsbD 0 then raise .misalign t
      else .ok (s.setMe { s.me.put d (s.me.pc + BitVec.ofNat 64 len) with pc := t }) := by
  unfold State.jumpTo ensure
  cases t.getLsbD 0 <;>
    simp [bind, Except.bind, pure, Except.pure, State.writeG_alone h.2.2.1, State.setMe_setG, raise]

end Sys2Proof.Machine
end

