-- ==== Sys2Proof/Laws/Memory.lean ====
section
/-!
SUPPORT. Memory: the canonical form is kept by every operation that writes, a byte reads as it was last written, and a
write leaves every other byte.
-/

namespace Sys2Proof.Machine

/-! ## The canonical form, as it is said of a list from a lower bound -/

/-- Every key of a list is at least `lo`, keys rise, and no byte is blank. -/
def Memory.from_ (lo : Nat) : List Host.Cell → Prop
  | [] => True
  | c :: rest => lo ≤ c.1 ∧ c.2 ≠ Memory.blank ∧ Memory.from_ (c.1 + 1) rest

theorem Memory.from_mono {lo lo' : Nat} (h : lo' ≤ lo) : ∀ {m : List Host.Cell}, Memory.from_ lo m → Memory.from_ lo' m
  | [], _ => trivial
  | _ :: _, ⟨h1, h2, h3⟩ => ⟨Nat.le_trans h h1, h2, h3⟩

theorem Memory.wf_iff : ∀ m : List Host.Cell, Memory.wf m = true ↔ Memory.from_ 0 m
  | [] => by simp [Memory.wf, Memory.from_]
  | [c] => by simp [Memory.wf, Memory.from_]
  | c :: d :: rest => by
    simp only [Memory.wf, Bool.and_eq_true, decide_eq_true_eq, bne_iff_ne, ne_eq, Memory.wf_iff (d :: rest), Memory.from_,
      Nat.zero_le, true_and]
    constructor
    · rintro ⟨⟨h1, h2⟩, h3, h4⟩; exact ⟨h2, h1, h3, h4⟩
    · rintro ⟨h2, h1, h3, h4⟩; exact ⟨⟨h1, h2⟩, h3, h4⟩

theorem Memory.cons_from {lo k : Nat} (b : Byte) {rest : List Host.Cell} (hk : lo ≤ k) (h : Memory.from_ (k + 1) rest) :
    Memory.from_ lo (Memory.cons k b rest) := by
  unfold Memory.cons
  split
  · exact Memory.from_mono (by omega) h
  · rename_i hb; exact ⟨hk, hb, h⟩

theorem Memory.set_from {k : Nat} (b : Byte) : ∀ {lo : Nat} {m : List Host.Cell}, lo ≤ k → Memory.from_ lo m →
    Memory.from_ lo (Memory.set m k b)
  | lo, [], hk, _ => Memory.cons_from b hk trivial
  | lo, c :: rest, hk, ⟨h1, h2, h3⟩ => by
    unfold Memory.set
    split
    · exact ⟨h1, h2, Memory.set_from b (by omega) h3⟩
    · split
      · rename_i he; exact Memory.cons_from b (by omega) (he ▸ h3)
      · exact Memory.cons_from b hk ⟨by omega, h2, h3⟩

theorem Memory.set_wf {m : List Host.Cell} (h : Memory.wf m = true) (k : Nat) (b : Byte) : Memory.wf (Memory.set m k b) = true := by
  rw [Memory.wf_iff] at *
  exact Memory.set_from b (Nat.zero_le k) h

theorem Memory.write_wf : ∀ (n : Nat) {m : List Host.Cell} (k v : Nat), Memory.wf m = true → Memory.wf (Memory.write m k n v) = true
  | 0, _, _, _, h => h
  | n + 1, _, k, v, h => Memory.write_wf n (k + 1) (v / 256) (Memory.set_wf h k _)

theorem Memory.put_wf : ∀ (bs : List Byte) {m : List Host.Cell} (k : Nat), Memory.wf m = true → Memory.wf (Memory.put m k bs) = true
  | [], _, _, h => h
  | b :: bs, _, k, h => Memory.put_wf bs (k + 1) (Memory.set_wf h k b)

theorem Memory.filter_from (p : Host.Cell → Bool) : ∀ {lo : Nat} {m : List Host.Cell}, Memory.from_ lo m →
    Memory.from_ lo (m.filter p)
  | _, [], _ => trivial
  | lo, c :: rest, ⟨h1, h2, h3⟩ => by
    rw [List.filter_cons]
    split
    · exact ⟨h1, h2, Memory.filter_from p h3⟩
    · exact Memory.from_mono (by omega) (Memory.filter_from p h3)

theorem Memory.clear_wf {m : List Host.Cell} (h : Memory.wf m = true) (lo hi : Nat) : Memory.wf (Memory.clear m lo hi) = true := by
  rw [Memory.wf_iff] at *
  exact Memory.filter_from _ h

/-- A fold of writes keeps the form when each write does. -/
theorem Memory.foldl_wf {α : Type} (f : List Host.Cell → α → List Host.Cell)
    (hf : ∀ m a, Memory.wf m = true → Memory.wf (f m a) = true) : ∀ (l : List α) {m : List Host.Cell}, Memory.wf m = true →
    Memory.wf (l.foldl f m) = true
  | [], _, h => h
  | a :: l, m, h => Memory.foldl_wf f hf l (hf m a h)

theorem State.putMem_wf (s : State) : ∀ (bs : List Byte) (key : Nat) {m : List Host.Cell}, Memory.wf m = true →
    Memory.wf (s.putMem key bs m) = true
  | [], _, _, h => h
  | b :: bs, key, _, h => State.putMem_wf s bs (key + 1) (Memory.set_wf h _ b)

/-! ## Reading what was written -/

theorem Memory.get_from {lo k : Nat} (hk : k < lo) : ∀ {m : List Host.Cell}, Memory.from_ lo m → Memory.get m k = Memory.blank
  | [], _ => rfl
  | c :: rest, ⟨h1, _, h3⟩ => by
    unfold Memory.get
    rw [if_neg (by omega)]
    exact Memory.get_from (by omega) h3

theorem Memory.get_cons_self {k : Nat} (b : Byte) {rest : List Host.Cell} (h : Memory.from_ (k + 1) rest) :
    Memory.get (Memory.cons k b rest) k = b := by
  unfold Memory.cons
  split
  · rename_i hb; rw [Memory.get_from (Nat.lt_succ_self k) h, hb]
  · simp [Memory.get]

theorem Memory.get_cons_ne {j k : Nat} (b : Byte) (rest : List Host.Cell) (h : j ≠ k) :
    Memory.get (Memory.cons k b rest) j = Memory.get rest j := by
  unfold Memory.cons
  split
  · rfl
  · simp [Memory.get, Ne.symm h]

theorem Memory.get_set_from {k : Nat} (b : Byte) : ∀ {lo : Nat} {m : List Host.Cell}, Memory.from_ lo m →
    Memory.get (Memory.set m k b) k = b
  | lo, [], _ => Memory.get_cons_self b trivial
  | lo, c :: rest, ⟨h1, h2, h3⟩ => by
    unfold Memory.set
    split
    · rename_i hlt
      unfold Memory.get
      rw [if_neg (by omega)]
      exact Memory.get_set_from b h3
    · split
      · rename_i he; exact Memory.get_cons_self b (he ▸ h3)
      · exact Memory.get_cons_self b ⟨by omega, h2, h3⟩

/-- A byte reads as it was written. -/
theorem Memory.get_set_self {m : List Host.Cell} (h : Memory.wf m = true) (k : Nat) (b : Byte) :
    Memory.get (Memory.set m k b) k = b :=
  Memory.get_set_from b ((Memory.wf_iff m).1 h)

/-- A write leaves every other byte. -/
theorem Memory.get_set_ne {j k : Nat} (b : Byte) (h : j ≠ k) : ∀ m : List Host.Cell,
    Memory.get (Memory.set m k b) j = Memory.get m j
  | [] => Memory.get_cons_ne b [] h
  | c :: rest => by
    unfold Memory.set
    split
    · simp [Memory.get, Memory.get_set_ne b h rest]
    · split
      · rename_i he
        rw [Memory.get_cons_ne b rest h]
        simp [Memory.get, he, Ne.symm h]
      · exact Memory.get_cons_ne b _ h

theorem Memory.get_write_ne : ∀ (n : Nat) (m : List Host.Cell) (k v j : Nat), j < k ∨ k + n ≤ j →
    Memory.get (Memory.write m k n v) j = Memory.get m j
  | 0, _, _, _, _, _ => rfl
  | n + 1, m, k, v, j, h => by
    unfold Memory.write
    rw [Memory.get_write_ne n _ (k + 1) _ j (by omega), Memory.get_set_ne _ (by omega)]

/-- A number reads back as it was written. -/
theorem Memory.read_write : ∀ (n : Nat) {m : List Host.Cell} (k v : Nat), Memory.wf m = true → v < 256 ^ n →
    Memory.read (Memory.write m k n v) k n = v
  | 0, _, _, v, _, hv => by simp at hv; simp [Memory.read, hv]
  | n + 1, m, k, v, h, hv => by
    have hw := Memory.set_wf h k (BitVec.ofNat 8 v)
    simp only [Memory.read, Memory.write]
    rw [Memory.read_write n (k + 1) (v / 256) hw (by rw [Nat.pow_succ] at hv; omega),
      Memory.get_write_ne n _ (k + 1) _ k (by omega), Memory.get_set_self h]
    simp only [BitVec.toNat_ofNat]
    omega

/-! ## Monitors: recording a write changes only the monitors -/

@[simp] theorem State.note_mem (s : State) (who : Who) (ls : List Nat) : (s.note who ls).mem = s.mem := by
  unfold State.note; split <;> rfl
@[simp] theorem State.note_clusters (s : State) (who : Who) (ls : List Nat) : (s.note who ls).clusters = s.clusters := by
  unfold State.note; split <;> rfl
@[simp] theorem State.note_cluster (s : State) (who : Who) (ls : List Nat) (c : Nat) :
    (s.note who ls).cluster c = s.cluster c := by simp [State.cluster]
@[simp] theorem State.note_source (s : State) (who : Who) (ls : List Nat) : (s.note who ls).source = s.source := by
  unfold State.note; split <;> rfl
@[simp] theorem State.note_actor (s : State) (who : Who) (ls : List Nat) : (s.note who ls).actor = s.actor := by
  unfold State.note; split <;> rfl
@[simp] theorem State.note_slot (s : State) (who : Who) (ls : List Nat) : (s.note who ls).slot = s.slot := by
  unfold State.note; split <;> rfl
@[simp] theorem State.note_panels (s : State) (who : Who) (ls : List Nat) : (s.note who ls).panels = s.panels := by
  unfold State.note; split <;> rfl
@[simp] theorem State.note_cycle (s : State) (who : Who) (ls : List Nat) : (s.note who ls).cycle = s.cycle := by
  unfold State.note; split <;> rfl

theorem SMap.get_map {α : Type} (f : Nat → α → α) (d : α) : ∀ (m : List (Nat × α)) (k : Nat), f k d = d →
    SMap.get (m.map (fun e => (e.1, f e.1 e.2))) d k = f k (SMap.get m d k)
  | [], _, h => h.symm
  | e :: rest, k, h => by
    simp only [List.map, SMap.get]
    split
    · rename_i he; rw [he]
    · exact SMap.get_map f d rest k h

/-- A context whose monitor sees nothing is left as it was. -/
theorem Core.note_ctx (k : Core) (c : Nat) (who : Who) (ls : List Nat) (i : Fin 8) :
    (k.note c who ls).ctxs[i] =
      if (k.ctxs[i]).sees ls && who != some (c, i) then (k.ctxs[i]).noteWrite else k.ctxs[i] := by
  simp [Core.note]

theorem Core.note_reset (c : Nat) (who : Who) (ls : List Nat) : Core.reset.note c who ls = Core.reset := by
  have h : (Core.reset.note c who ls).ctxs = Core.reset.ctxs := by
    ext1 i hi
    have := Core.note_ctx Core.reset c who ls ⟨i, hi⟩
    simpa [Core.reset, Ctx.sees, Ctx.reset] using this
  show { Core.reset with ctxs := (Core.reset.note c who ls).ctxs } = Core.reset
  rw [h]

theorem State.note_core (s : State) (who : Who) (ls : List Nat) (c : Nat) :
    (s.note who ls).core c = s.core c ∨ (s.note who ls).core c = (s.core c).note c who ls := by
  unfold State.note
  split
  · exact .inr (SMap.get_map (fun c' (x : Core) => x.note c' who ls) Core.reset s.cores c (Core.note_reset c _ ls))
  · exact .inl rfl

/-- The writer's own monitor does not see its write (08 R176). -/
theorem State.note_ctx_self (s : State) (c : Nat) (k : Fin 8) (ls : List Nat) :
    (s.note (some (c, k)) ls).ctx c k = s.ctx c k := by
  unfold State.ctx
  rcases State.note_core s (some (c, k)) ls c with h | h <;> rw [h]
  rw [Core.note_ctx]
  simp

theorem State.store_mem (s : State) (who : Who) (key n v : Nat) :
    (s.store who key n v).mem = Memory.write s.mem (s.phys key) n v := by simp [State.store]

theorem State.store_wf (s : State) (h : Memory.wf s.mem = true) (who : Who) (key n v : Nat) :
    Memory.wf (s.store who key n v).mem = true := by
  rw [State.store_mem]; exact Memory.write_wf n _ _ h

theorem State.putBytes_wf (s : State) (h : Memory.wf s.mem = true) (who : Who) (key : Nat) (bs : List Byte) :
    Memory.wf (s.putBytes who key bs).mem = true := by
  simp only [State.putBytes, State.note_mem]; exact State.putMem_wf s bs key h

/-- A store reads back, at the same address and size. -/
theorem State.load_store (s : State) (h : Memory.wf s.mem = true) (who : Who) (key n v : Nat) (hv : v < 256 ^ n) :
    (s.store who key n v).load key n = v := by
  have hp : (s.store who key n v).phys key = s.phys key := by
    simp only [State.phys, State.store, State.note_cluster]; rfl
  rw [State.load, hp, State.store_mem, Memory.read_write n _ _ h hv]

end Sys2Proof.Machine
end

