-- ==== Sys2Proof/Laws/Access.lean ====
section
/-!
SUPPORT. Accesses to scratch: the checks of 08 R155 as one case split, and what a load and a store form answer when they
pass (`State.reaches`).
-/

namespace Sys2Proof.Machine

theorem ensure_bind {α : Type} (ok : Bool) (c : Cause) (v : Word) (f : Unit → M α) :
    (ensure ok c v >>= f) = if ok then f () else raise c v := by
  cases ok <;> rfl

theorem ensureWord_bind {α : Type} (ok : Bool) (c : Cause) (f : Unit → M α) :
    (ensureWord ok c >>= f) = if ok then f () else .error (.word c) := by
  cases ok <;> rfl

theorem waitFor_bind {α : Type} (ok : Bool) (w : Wait) (f : Unit → M α) :
    (waitFor ok w >>= f) = if ok then f () else .error (.wait w) := by
  cases ok <;> rfl

/-- The checks of an access, in their order, say all it can do. -/
theorem State.access_cases (s : State) (a : Word) (n al : Nat) :
    s.access a n al =
      if ¬(a.toNat < 2 ^ 29 ∧ s.inPanel (s.keyOf a / 2 ^ 19) = true) then raise .scratchRange a
      else if s.permits (s.keyOf a) (min n (2 ^ 19 - s.keyOf a % 2 ^ 19)) = false then raise .priv a
      else if a.toNat % al ≠ 0 then raise .misalign a
      else .ok (s.keyOf a) := by
  simp only [State.access, ensure_bind, Bool.and_eq_true, decide_eq_true_eq, beq_iff_eq, ne_eq, ite_not]
  split
  · cases s.permits (s.keyOf a) (min n (2 ^ 19 - s.keyOf a % 2 ^ 19)) <;> rfl
  · rfl

theorem State.keyOf_mod (s : State) (a : Word) : s.keyOf a % 2 ^ 19 = a.toNat % 2 ^ 19 := by
  show (s.clus * 33554432 + a.toNat % 33554432) % 524288 = a.toNat % 524288
  omega

/-- An aligned access of 1, 2, 4, 8, 32 or 64 bytes stays in its core region. -/
theorem State.reaches_min {s : State} {a : Word} {n : Nat} (hn : n ∈ [1, 2, 4, 8, 32, 64]) (h : a.toNat % n = 0) :
    min n (2 ^ 19 - s.keyOf a % 2 ^ 19) = n := by
  rw [State.keyOf_mod]
  simp only [List.mem_cons, List.not_mem_nil, or_false] at hn
  rcases hn with rfl | rfl | rfl | rfl | rfl | rfl <;> omega

theorem State.access_reaches {s : State} {a : Word} {n : Nat} (hn : n ∈ [1, 2, 4, 8, 32, 64]) (h : s.reaches a n) :
    s.access a n n = .ok (s.keyOf a) := by
  obtain ⟨h1, h2, h3, h4⟩ := h
  rw [State.access_cases, State.reaches_min hn h4]
  simp_all

theorem State.accessR_reaches {s : State} {a : Word} {n : Nat} (hn : n ∈ [1, 2, 4, 8, 32, 64]) (h : s.reaches a n)
    (hc : s.clean a n) : s.accessR a n n = .ok (s.keyOf a) := by
  simp only [State.accessR, State.access_reaches hn h, State.readable]
  show (ensure (s.sound (s.keyOf a) n) .uncorrectable _ >>= fun _ => pure (s.keyOf a)) = _
  rw [ensure_bind, if_pos (show s.sound (s.keyOf a) n = true from hc)]; rfl

theorem State.reaches_not_versioned {s : State} {a : Word} {n : Nat} (h : s.reaches a n) : isVersioned a = false := by
  have := h.1
  simp [isVersioned]; omega

theorem State.loadAt_reaches {s : State} {a : Word} {n : Nat} (hn : n ∈ [1, 2, 4, 8, 32, 64]) (h : s.reaches a n)
    (hc : s.clean a n) : s.loadAt a n = .ok (s.load (s.keyOf a) n) := by
  unfold State.loadAt
  simp [State.reaches_not_versioned h, State.accessR_reaches hn h hc, bind, Except.bind, pure, Except.pure]

theorem ldOp_reaches {s : State} (h : s.alone) (i : Instr) (a t : Fin 32) (f : Word → Word) {n : Nat} (sx : Bool)
    (hn : n ∈ [1, 2, 4, 8, 32, 64]) (hr : s.reaches (f (s.me.reg a)) n) (hc : s.clean (f (s.me.reg a)) n) :
    ldOp i a t f n sx s = .next (s.gives i.len t (extend sx n (s.load (s.keyOf (f (s.me.reg a))) n))) := by
  simp only [ldOp, issue_alone h, State.srcA_alone h, bind, Except.bind, State.loadAt_reaches hn hr hc,
    State.writeG_alone h.2.2.1, State.finish_setG h]

/-- Whatever a load form answers, it reads memory and writes none. -/
theorem State.store_source (s : State) (who : Who) (key n v : Nat) : (s.store who key n v).source = s.source := by
  simp [State.store]

@[simp] theorem State.note_at (s : State) (who : Who) (ls : List Nat) : (s.note who ls).at_ = s.at_ := by
  simp [State.at_]

/-- A store leaves its context as it was. -/
theorem State.store_me (s : State) (key n v : Nat) : (s.store s.self key n v).me = s.me := by
  simp only [State.store, State.me, State.note_actor, State.note_slot, State.self, State.at_]
  exact State.note_ctx_self _ _ _ _

theorem stOp_reaches {s : State} (h : s.alone) (i : Instr) (a t : Fin 32) (f : Word → Word) {n : Nat}
    (hn : n ∈ [1, 2, 4, 8, 32, 64]) (hr : s.reaches (f (s.me.reg a)) n) :
    stOp i a t f n s =
      .next ((s.store s.self (s.keyOf (f (s.me.reg a))) n ((s.me.reg t).toNat % 2 ^ (8 * n))).finish i.len) := by
  simp only [stOp, issue_alone h, State.srcA_alone h, State.srcD_alone h, bind, Except.bind, State.storeAt,
    State.access_reaches hn hr, pure, Except.pure]

/-- What a store leaves and changes, once its context goes on. -/
theorem State.finish_store {s : State} (h : s.alone) (key n v len : Nat) :
    (s.store s.self key n v).finish len = (s.store s.self key n v).setMe (s.me.after len) := by
  rw [State.finish_pc (by rw [State.store_source]; exact h.1) (by rw [State.store_me]; exact h.2.1), State.store_me]

end Sys2Proof.Machine
end

