-- ==== Sys2Proof/Laws/Translate.lean ====
section
/-!
SUPPORT. Translation and virtual reads when the translation is cached (18 R353).
-/

namespace Sys2Proof.Machine

/-- A cached translation that serves the access is used, and nothing changes. -/
theorem State.reach_cached {s : State} {c : Nat} {ptbase : Word} {asid : BitVec 16} {va : Nat} {write : Bool} {e : TlbEntry}
    (hp : ptbase.getLsbD 0 = true) (hc : s.cached c asid va write = some e) (hu : s.unreachable e.eng = none) :
    s.reach c ptbase asid va write = .ok (e.keyOf va, s) := by
  simp [State.reach, State.translate, hp, hc, hu]

/-- Below 2^39 a physical address is served by its stack. -/
theorem State.served_low {s : State} {pa : Nat} (h : pa < 2 ^ 39) :
    s.served pa = some (deviceBase + pa, .ske (Fin.ofNat 8 (pa / 2 ^ 36))) := if_pos h

/-- Bytes that all have a cached translation are read with no change of the state. -/
theorem State.readVa_cached {s : State} {c : Nat} {ptbase : Word} {asid : BitVec 16} {f : Nat → Nat} (n va : Nat)
    (h : ∀ a, va ≤ a → a < va + n → s.reach c ptbase asid a false = .ok (f a, s) ∧ s.poisoned (f a) = false) :
    s.readVa c ptbase asid va n = .ok ((List.range' va n).map (fun a => Memory.get s.mem (f a)), s) := by
  induction n generalizing va with
  | zero => rfl
  | succ n ih =>
    obtain ⟨h1, h2⟩ := h va (Nat.le_refl _) (by omega)
    have h3 := ih (va + 1) (fun a h4 h5 => h a (by omega) (by omega))
    simp [State.readVa, h1, h2, h3, List.range'_succ, bind, Except.bind, pure, Except.pure]

end Sys2Proof.Machine
end

