-- ==== Sys2Proof/Tests/Slice0.lean ====
section
/-!
SUPPORT. The row's own tests. First the checks of well-formedness, each with a term it refuses; then a word of every
instruction, written out from the match bits and fields of spec/opcode_table.json, and the words chapter 05 refuses; then
single steps whose results the chapters work out; last, for each obligation, states that meet its hypotheses.
-/

set_option maxRecDepth 8000
set_option exponentiation.threshold 8192

namespace Sys2Proof.Test

open Sys2Proof.Machine

/-! ## Small states -/

/-- A running package whose context 0 of core 0 is about to issue the word at its pc. -/
def base : State := { State.reset.withFetchWord 32 0x00083383 with actor := 0, slot := 0, source := .pc }

/-- With registers set. -/
def regs (l : List (Fin 32 × Word)) (s : State) : State :=
  s.setMe { s.me with g := l.foldl (fun g e => g.set e.1 e.2) s.me.g }

/-- With bytes of core 0's scratch set. -/
def poke (at_ : Nat) (bs : List Byte) (s : State) : State := s.putBytes none at_ bs

/-- With the issuing context changed. -/
def ctx (f : Ctx → Ctx) (s : State) : State := s.setMe (f s.me)

/-- With its core changed. -/
def own (f : Core → Core) (s : State) : State := s.setMine (f s.mine)

/-- In S mode. -/
def sup : State := ctx (fun x => { x with mode := true }) base

/-- Its panel has all of cluster 0. -/
def big : State := { base with panels := base.panels.map fun p => { p with w := 8, h := 8 } }

/-- The issuing context's instruction waits. -/
def waiting (s : State) : Bool := s.me.wait.isSome && (!s.me.pend.isEmpty || s.me.run == .blocked)

/-- Whether an outcome is a next state that passes a check. -/
def goesTo (p : State → Bool) (o : Host.Outcome State Fault Refusal) : Bool :=
  match o with
  | .next t => p t
  | _ => false

/-- Whether an outcome takes a trap of code `cause` with `tval` into S mode. -/
def traps (cause tval : Nat) (o : Host.Outcome State Fault Refusal) : Bool :=
  goesTo (fun t => t.me.mode && (t.me.tcause.toNat % 256 == cause) && (t.me.tval.toNat == tval)) o

/-- Whether an outcome writes `v` to register `r`. -/
def writes (r : Fin 32) (v : Nat) (o : Host.Outcome State Fault Refusal) : Bool :=
  goesTo (fun t => t.me.g[r].toNat == v) o

/-! ## Well-formedness (05 R103, Table 05-3, Table 05-4): an ill-formed term for each check -/

theorem test_wf_sizes : (Instr.sext 3 7 8).wf = false ∧ (Instr.zext 3 7 8).wf = false ∧ (Instr.sext 2 7 8).wf = true := by
  decide

theorem test_wf_scope_loads : (Instr.ldb 0 5 false 7 8).wf = false ∧ (Instr.ldbu 0 6 false 7 8).wf = false ∧
    (Instr.ldh 0 7 false 7 8).wf = false ∧ (Instr.ldhu 0 5 false 7 8).wf = false ∧ (Instr.ldw 0 5 false 7 8).wf = false ∧
    (Instr.ldwu 0 5 false 7 8).wf = false ∧ (Instr.ldd 0 5 false 7 8).wf = false ∧ (Instr.ldd 0 4 false 7 8).wf = true := by
  decide

theorem test_wf_scope_stores : (Instr.stb 0 5 false 7 8).wf = false ∧ (Instr.sth 0 6 false 7 8).wf = false ∧
    (Instr.stw 0 7 false 7 8).wf = false ∧ (Instr.std 0 5 false 7 8).wf = false ∧ (Instr.std 0 4 false 7 8).wf = true := by
  decide

theorem test_wf_orders : (Instr.amoadd 0 3 true 7 8 9).wf = false ∧ (Instr.amoand 0 3 true 7 8 9).wf = false ∧
    (Instr.amoor 0 3 true 7 8 9).wf = false ∧ (Instr.amoxor 0 3 true 7 8 9).wf = false ∧
    (Instr.amomin 0 3 true 7 8 9).wf = false ∧ (Instr.amomax 0 3 true 7 8 9).wf = false ∧
    (Instr.amominu 0 3 true 7 8 9).wf = false ∧ (Instr.amomaxu 0 3 true 7 8 9).wf = false ∧
    (Instr.amoswp 0 3 true 7 8 9).wf = false ∧ (Instr.amocas 0 3 true 7 8 9).wf = false ∧
    (Instr.amofadd 0 3 true 7 8 9).wf = false ∧ (Instr.amofadd 0 2 true 7 8 9).wf = true := by decide

theorem test_wf_depth : (Instr.mma false false 3 1 2 3).wf = false ∧ (Instr.mchk 3 1 2 3).wf = false ∧
    (Instr.mchk 2 1 2 3).wf = true := by decide

theorem test_wf_types_a : (Instr.vadd 12 0 1 2 3).wf = false ∧ (Instr.vsub 13 0 1 2 3).wf = false ∧
    (Instr.vmul 14 0 1 2 3).wf = false ∧ (Instr.vfma 15 0 1 2 3).wf = false ∧ (Instr.vmin 12 0 1 2 3).wf = false ∧
    (Instr.vmax 12 0 1 2 3).wf = false ∧ (Instr.vabs 12 0 1 2).wf = false ∧ (Instr.vneg 12 0 1 2).wf = false ∧
    (Instr.vdiv 12 0 1 2 3).wf = false ∧ (Instr.vsqrt 12 0 1 2).wf = false ∧ (Instr.vrsqrt 12 0 1 2).wf = false ∧
    (Instr.vrcp 12 0 1 2).wf = false ∧ (Instr.vexp2 12 0 1 2).wf = false ∧ (Instr.vlog2 12 0 1 2).wf = false ∧
    (Instr.vand 12 0 1 2 3).wf = false ∧ (Instr.vor 12 0 1 2 3).wf = false ∧ (Instr.vxor 12 0 1 2 3).wf = false ∧
    (Instr.vshl 12 0 1 2 3).wf = false ∧ (Instr.vshr 12 0 1 2 3).wf = false ∧ (Instr.vsel 12 0 1 2 3).wf = false ∧
    (Instr.vadd 11 0 1 2 3).wf = true := by decide

theorem test_wf_types_b : (Instr.vcmpeq 12 0 1 2 3).wf = false ∧ (Instr.vcmplt 12 0 1 2 3).wf = false ∧
    (Instr.vcmple 12 0 1 2 3).wf = false ∧ (Instr.vcvt 12 0 1 2 3).wf = false ∧ (Instr.vaddw 12 0 1 2 3).wf = false ∧
    (Instr.vmacw 12 0 1 2 3).wf = false ∧ (Instr.vnarrow 12 0 true 2 3).wf = false ∧ (Instr.vadds 12 0 1 2 3).wf = false ∧
    (Instr.vclamp 12 0 1 2 3).wf = false ∧ (Instr.vscan 12 0 1 2 3).wf = false ∧ (Instr.vredsum 12 0 1 2).wf = false ∧
    (Instr.vredmax 12 0 1 2).wf = false ∧ (Instr.vredmin 12 0 1 2).wf = false ∧ (Instr.vperm 12 0 1 2 3).wf = false ∧
    (Instr.vbcast 12 0 1 2).wf = false ∧ (Instr.vins 12 0 1 2 3).wf = false ∧ (Instr.vext 12 0 1 2).wf = false ∧
    (Instr.vzero 12 0 1).wf = false ∧ (Instr.vmov 12 0 1 2).wf = false ∧ (Instr.viota 12 0 1 2).wf = false ∧
    (Instr.vmov 11 0 1 2).wf = true := by decide

theorem test_wf_types_c : (Instr.vld 12 0 1 2 3).wf = false ∧ (Instr.vst 12 0 1 2 3).wf = false ∧
    (Instr.vlds 12 0 1 2 3).wf = false ∧ (Instr.vsts 12 0 1 2 3).wf = false ∧ (Instr.vgath 12 0 1 2 3).wf = false ∧
    (Instr.vscat 12 0 1 2 3).wf = false ∧ (Instr.vscat 11 0 1 2 3).wf = true := by decide

theorem test_wf_witness_types : (Instr.vwmax 12 0 1 2 3).wf = false ∧ (Instr.vwmin 12 0 1 2 3).wf = false ∧
    (Instr.vwmed 12 0 1 2 3).wf = false ∧ (Instr.vwclamp 12 2 1 2 3).wf = false ∧ (Instr.vwssum 12 0 1 2 3).wf = false ∧
    (Instr.vadj 12 0 1 0 3).wf = false := by decide

theorem test_wf_witness_runs : (Instr.vwmax 6 3 1 13 3).wf = false ∧ (Instr.vwmin 6 1 1 15 3).wf = false ∧
    (Instr.vwmed 6 15 1 1 3).wf = false ∧ (Instr.vwclamp 6 2 1 14 3).wf = false ∧ (Instr.vwssum 6 4 1 12 3).wf = false ∧
    (Instr.vadj 6 15 1 1 3).wf = false ∧ (Instr.vwmax 6 3 1 12 3).wf = true ∧ (Instr.vadj 6 15 1 0 3).wf = true := by decide

theorem test_wf_rest : (Instr.cadj 31 1 2 3).wf = false ∧ (Instr.cadj 30 1 2 3).wf = true ∧ (Instr.cRep 0 3).wf = false ∧
    (Instr.cRep 8 3).wf = true ∧ Instr.cNop.wf = true := by decide

/-! ## A word of every instruction (spec/opcode_table.json) -/


theorem test_decode_int_a :
    decodeTableWord 32 0x08132D83 = some (.add true 9 18 27) ∧
    decodeTableWord 32 0x08532D83 = some (.sub true 9 18 27) ∧
    decodeTableWord 32 0x08932D83 = some (.and true 9 18 27) ∧
    decodeTableWord 32 0x08D32D83 = some (.or true 9 18 27) ∧
    decodeTableWord 32 0x09132D83 = some (.xor true 9 18 27) ∧
    decodeTableWord 32 0x09532D83 = some (.andn true 9 18 27) ∧
    decodeTableWord 32 0x09932D83 = some (.sll true 9 18 27) ∧
    decodeTableWord 32 0x09D32D83 = some (.srl true 9 18 27) ∧
    decodeTableWord 32 0x0A132D83 = some (.sra true 9 18 27) ∧
    decodeTableWord 32 0x0A532D83 = some (.rol true 9 18 27) ∧
    decodeTableWord 32 0x0A932D83 = some (.mul true 9 18 27) ∧
    decodeTableWord 32 0x0AD32D83 = some (.mulh true 9 18 27) ∧
    decodeTableWord 32 0x0B132D83 = some (.mulhu true 9 18 27) ∧
    decodeTableWord 32 0x0B532D83 = some (.div true 9 18 27) := by decide

theorem test_decode_int_b :
    decodeTableWord 32 0x0B932D83 = some (.divu true 9 18 27) ∧
    decodeTableWord 32 0x0BD32D83 = some (.rem true 9 18 27) ∧
    decodeTableWord 32 0x0C132D83 = some (.remu true 9 18 27) ∧
    decodeTableWord 32 0x0C532D83 = some (.min true 9 18 27) ∧
    decodeTableWord 32 0x0C932D83 = some (.max true 9 18 27) ∧
    decodeTableWord 32 0x0CD32D83 = some (.minu true 9 18 27) ∧
    decodeTableWord 32 0x0D132D83 = some (.maxu true 9 18 27) ∧
    decodeTableWord 32 0x0D532D83 = some (.slt true 9 18 27) ∧
    decodeTableWord 32 0x0D932D83 = some (.sltu true 9 18 27) ∧
    decodeTableWord 32 0x0DC09903 = some (.clz true 9 18) ∧
    decodeTableWord 32 0x0E009903 = some (.ctz true 9 18) ∧
    decodeTableWord 32 0x0E409903 = some (.popc true 9 18) ∧
    decodeTableWord 32 0x06849903 = some (.sext 2 9 18) ∧
    decodeTableWord 32 0x06C49903 = some (.zext 2 9 18) := by decide

theorem test_decode_immediate :
    decodeTableWord 32 0xB4789905 = some (.addi 0x5a3c 9 18) ∧
    decodeTableWord 32 0xB4789907 = some (.andi 0x5a3c 9 18) ∧
    decodeTableWord 32 0xB4789909 = some (.ori 0x5a3c 9 18) ∧
    decodeTableWord 32 0xB478990B = some (.xori 0x5a3c 9 18) ∧
    decodeTableWord 32 0xB478990D = some (.slti 0x5a3c 9 18) ∧
    decodeTableWord 32 0xB478990F = some (.sltiu 0x5a3c 9 18) ∧
    decodeTableWord 32 0x02572D91 = some (.slli true 0x2b 18 27) ∧
    decodeTableWord 32 0x02D72D91 = some (.srli true 0x2b 18 27) ∧
    decodeTableWord 32 0x03572D91 = some (.srai true 0x2b 18 27) ∧
    decodeTableWord 32 0xA5C3D493 = some (.lui 0xa5c3d 9) ∧
    decodeTableWord 32 0xA5C3D495 = some (.auipc 0xa5c3d 9) := by decide

theorem test_decode_jump :
    decodeTableWord 32 0xB5C09917 = some (.beq 0xb5c 9 18) ∧
    decodeTableWord 32 0xB5C29917 = some (.bne 0xb5c 9 18) ∧
    decodeTableWord 32 0xB5C49917 = some (.blt 0xb5c 9 18) ∧
    decodeTableWord 32 0xB5C69917 = some (.bge 0xb5c 9 18) ∧
    decodeTableWord 32 0xB5C89917 = some (.bltu 0xb5c 9 18) ∧
    decodeTableWord 32 0xB5CA9917 = some (.bgeu 0xb5c 9 18) ∧
    decodeTableWord 32 0xA5C3D499 = some (.jal 0xa5c3d 9) ∧
    decodeTableWord 32 0xB478991B = some (.jalr 0x5a3c 9 18) := by decide

theorem test_decode_loadStore :
    decodeTableWord 32 0x9B11B39D = some (.ldb 0x4d 4 true 27 7) ∧
    decodeTableWord 32 0x9B19B39D = some (.ldbu 0x4d 4 true 27 7) ∧
    decodeTableWord 32 0x9B13B39D = some (.ldh 0x4d 4 true 27 7) ∧
    decodeTableWord 32 0x9B1BB39D = some (.ldhu 0x4d 4 true 27 7) ∧
    decodeTableWord 32 0x9B15B39D = some (.ldw 0x4d 4 true 27 7) ∧
    decodeTableWord 32 0x9B1DB39D = some (.ldwu 0x4d 4 true 27 7) ∧
    decodeTableWord 32 0x9B17B39D = some (.ldd 0x4d 4 true 27 7) ∧
    decodeTableWord 32 0x9B21B39F = some (.stb 0x4d 4 true 27 7) ∧
    decodeTableWord 32 0x9B23B39F = some (.sth 0x4d 4 true 27 7) ∧
    decodeTableWord 32 0x9B25B39F = some (.stw 0x4d 4 true 27 7) ∧
    decodeTableWord 32 0x9B27B39F = some (.std 0x4d 4 true 27 7) := by decide

theorem test_decode_atom :
    decodeTableWord 32 0x5801B3A1 = some (.ldl 1 true true 27 7) ∧
    decodeTableWord 32 0x68767021 = some (.stu 1 true true 27 7) ∧
    decodeTableWord 32 0x68B67621 = some (.amoadd 1 2 true 27 7 12) ∧
    decodeTableWord 32 0x68F67621 = some (.amoand 1 2 true 27 7 12) ∧
    decodeTableWord 32 0x69367621 = some (.amoor 1 2 true 27 7 12) ∧
    decodeTableWord 32 0x69767621 = some (.amoxor 1 2 true 27 7 12) ∧
    decodeTableWord 32 0x69B67621 = some (.amomin 1 2 true 27 7 12) ∧
    decodeTableWord 32 0x69F67621 = some (.amomax 1 2 true 27 7 12) ∧
    decodeTableWord 32 0x6A367621 = some (.amominu 1 2 true 27 7 12) ∧
    decodeTableWord 32 0x6A767621 = some (.amomaxu 1 2 true 27 7 12) ∧
    decodeTableWord 32 0x6AB67621 = some (.amoswp 1 2 true 27 7 12) ∧
    decodeTableWord 32 0x6AF67621 = some (.amocas 1 2 true 27 7 12) ∧
    decodeTableWord 32 0x6B367621 = some (.amofadd 1 2 true 27 7 12) := by decide

theorem test_decode_matVerSync_a :
    decodeTableWord 32 0x000A9923 = some (.ldv 5 9 18) ∧
    decodeTableWord 32 0x004A9923 = some (.stv 5 9 18) ∧
    decodeTableWord 32 0x008A9023 = some (.vrcl 5 9) ∧
    decodeTableWord 32 0x00C054A3 = some (.vprobe 5 9) ∧
    decodeTableWord 32 0x20000025 = some (.fence 4) ∧
    decodeTableWord 32 0x20400025 = some (.fenceE 4) ∧
    decodeTableWord 32 0x00800025 = some (.fenceI) ∧
    decodeTableWord 32 0x00C054A5 = some (.bararv 5 9) ∧
    decodeTableWord 32 0x010A9925 = some (.barwait 5 9 18) ∧
    decodeTableWord 32 0x01405025 = some (.marm 5) ∧
    decodeTableWord 32 0x018054A5 = some (.mwait 5 9) ∧
    decodeTableWord 32 0x182DBD2D = some (.mma true true 2 27 7 5) ∧
    decodeTableWord 32 0x0041952D = some (.msoft 3 2 5) ∧
    decodeTableWord 32 0x0081852D = some (.msfin 3 5) := by decide

theorem test_decode_matVerSync_b :
    decodeTableWord 32 0x00C1802D = some (.mzero 3) ∧
    decodeTableWord 32 0x0124952D = some (.mchk 2 9 2 5) := by decide

theorem test_decode_msg :
    decodeTableWord 32 0x000A9927 = some (.send 5 9 18) ∧
    decodeTableWord 32 0x004A9127 = some (.sendv 5 9 2) ∧
    decodeTableWord 32 0x00800027 = some (.endh) ∧
    decodeTableWord 32 0x18E40DA7 = some (.qbind true true 18 27) ∧
    decodeTableWord 32 0x110004A7 = some (.qunbind true 9) ∧
    decodeTableWord 32 0x014A04A7 = some (.qpoll 5 9) ∧
    decodeTableWord 32 0x01805027 = some (.taskadd 5) ∧
    decodeTableWord 32 0x01C054A7 = some (.tasktake 5 9) ∧
    decodeTableWord 32 0x020002A7 = some (.tileget 5) := by decide

theorem test_decode_xfer :
    decodeTableWord 32 0x28132DA9 = some (.copy 5 9 18 27) ∧
    decodeTableWord 32 0x28532DA9 = some (.fetch 5 9 18 27) ∧
    decodeTableWord 32 0x289325A9 = some (.store 5 9 18 11) ∧
    decodeTableWord 32 0x28D32DA9 = some (.tier 5 9 18 27) ∧
    decodeTableWord 32 0x290004A9 = some (.txbinit 5 9) ∧
    decodeTableWord 32 0x294004A9 = some (.txbarv 5 9) ∧
    decodeTableWord 32 0x29809929 = some (.txbwait 5 9 18) ∧
    decodeTableWord 32 0x29C09929 = some (.txbtest 5 9 18) ∧
    decodeTableWord 32 0x2A009929 = some (.shopen 5 9 18) ∧
    decodeTableWord 32 0x02592DA9 = some (.publish true 4 18 27) := by decide

theorem test_decode_tmap :
    decodeTableWord 32 0x2800902B = some (.tmld 5 9) ∧
    decodeTableWord 32 0x2840902B = some (.tmst 5 9) ∧
    decodeTableWord 32 0x2893202B = some (.tmset 5 9 18) ∧
    decodeTableWord 32 0x00CA992B = some (.tmget 5 9 18) ∧
    decodeTableWord 32 0x0100502B = some (.tmsync 5) ∧
    decodeTableWord 32 0x29432DAB = some (.wload 5 true 18 27) ∧
    decodeTableWord 32 0x018002AB = some (.wfree 5) ∧
    decodeTableWord 32 0x29C7B3AB = some (.mld 5 true true 27 7) ∧
    decodeTableWord 32 0x2A07B3AB = some (.mst 5 true true 27 7) := by decide

theorem test_decode_vari_a :
    decodeTableWord 32 0x02D95BAF = some (.vadd 11 3 2 11 7) ∧
    decodeTableWord 32 0x06D95BAF = some (.vsub 11 3 2 11 7) ∧
    decodeTableWord 32 0x0AD95BAF = some (.vmul 11 3 2 11 7) ∧
    decodeTableWord 32 0x0ED95BAF = some (.vfma 11 3 2 11 7) ∧
    decodeTableWord 32 0x12D95BAF = some (.vmin 11 3 2 11 7) ∧
    decodeTableWord 32 0x16D95BAF = some (.vmax 11 3 2 11 7) ∧
    decodeTableWord 32 0x1AD815AF = some (.vabs 11 3 2 11) ∧
    decodeTableWord 32 0x1ED815AF = some (.vneg 11 3 2 11) ∧
    decodeTableWord 32 0x22D95BAF = some (.vdiv 11 3 2 11 7) ∧
    decodeTableWord 32 0x26D815AF = some (.vsqrt 11 3 2 11) ∧
    decodeTableWord 32 0x2AD815AF = some (.vrsqrt 11 3 2 11) ∧
    decodeTableWord 32 0x2ED815AF = some (.vrcp 11 3 2 11) ∧
    decodeTableWord 32 0x32D815AF = some (.vexp2 11 3 2 11) ∧
    decodeTableWord 32 0x36D815AF = some (.vlog2 11 3 2 11) := by decide

theorem test_decode_vari_b :
    decodeTableWord 32 0x3AD95BAF = some (.vand 11 3 2 11 7) ∧
    decodeTableWord 32 0x3ED95BAF = some (.vor 11 3 2 11 7) ∧
    decodeTableWord 32 0x42D95BAF = some (.vxor 11 3 2 11 7) ∧
    decodeTableWord 32 0xC6D95BAF = some (.vshl 11 3 18 11 7) ∧
    decodeTableWord 32 0xCAD95BAF = some (.vshr 11 3 18 11 7) ∧
    decodeTableWord 32 0x4ED95BAF = some (.vsel 11 3 2 11 7) ∧
    decodeTableWord 32 0x52D95B2F = some (.vcmpeq 11 3 2 11 6) ∧
    decodeTableWord 32 0x56D95B2F = some (.vcmplt 11 3 2 11 6) ∧
    decodeTableWord 32 0x5AD95B2F = some (.vcmple 11 3 2 11 6) ∧
    decodeTableWord 32 0x5ED95BAF = some (.vcvt 11 3 2 11 7) ∧
    decodeTableWord 32 0x62D95BAF = some (.vaddw 11 3 2 11 7) ∧
    decodeTableWord 32 0x66D95BAF = some (.vmacw 11 3 2 11 7) ∧
    decodeTableWord 32 0x6AD8DBAF = some (.vnarrow 11 3 true 11 7) ∧
    decodeTableWord 32 0x6ED95BAF = some (.vadds 11 3 2 11 7) := by decide

theorem test_decode_vari_c :
    decodeTableWord 32 0xF2D95BAF = some (.vclamp 11 3 18 11 7) := by decide

theorem test_decode_vred :
    decodeTableWord 32 0x82D95BB1 = some (.vscan 11 3 18 11 7) ∧
    decodeTableWord 32 0x06D815B1 = some (.vredsum 11 3 2 11) ∧
    decodeTableWord 32 0x0AD815B1 = some (.vredmax 11 3 2 11) ∧
    decodeTableWord 32 0x0ED815B1 = some (.vredmin 11 3 2 11) ∧
    decodeTableWord 32 0x12D95BB1 = some (.vperm 11 3 2 11 7) ∧
    decodeTableWord 32 0x96D905B1 = some (.vbcast 11 3 18 11) ∧
    decodeTableWord 32 0x9AD95BB1 = some (.vins 11 3 18 11 7) ∧
    decodeTableWord 32 0x9ED95831 = some (.vext 11 3 18 11) ∧
    decodeTableWord 32 0x22D80131 = some (.vzero 11 3 2) ∧
    decodeTableWord 32 0x26D815B1 = some (.vmov 11 3 2 11) ∧
    decodeTableWord 32 0xAAD905B1 = some (.viota 11 3 18 11) := by decide

theorem test_decode_vmem :
    decodeTableWord 32 0x0B72DBB3 = some (.vld 11 3 18 27 7) ∧
    decodeTableWord 32 0x1B72DBB3 = some (.vst 11 3 18 27 7) ∧
    decodeTableWord 32 0x2B72DBB3 = some (.vlds 11 3 18 27 7) ∧
    decodeTableWord 32 0x3B72DBB3 = some (.vsts 11 3 18 27 7) ∧
    decodeTableWord 32 0x4B62DBB3 = some (.vgath 11 3 2 27 7) ∧
    decodeTableWord 32 0x5B62DBB3 = some (.vscat 11 3 2 27 7) := by decide

theorem test_decode_vwit :
    decodeTableWord 32 0x05C933B5 = some (.vwmax 11 9 2 6 7) ∧
    decodeTableWord 32 0x0DC933B5 = some (.vwmin 11 9 2 6 7) ∧
    decodeTableWord 32 0x15C933B5 = some (.vwmed 11 9 2 6 7) ∧
    decodeTableWord 32 0x1D94B5B5 = some (.vwclamp 11 2 9 6 11) ∧
    decodeTableWord 32 0x25C933B5 = some (.vwssum 11 9 2 6 7) ∧
    decodeTableWord 32 0x2DF10BB5 = some (.vadj 11 14 2 1 7) := by decide

theorem test_decode_coll :
    decodeTableWord 32 0x07CA9937 = some (.credSum 5 9 18) ∧
    decodeTableWord 32 0x09532DB7 = some (.credMax 5 9 18 27) ∧
    decodeTableWord 32 0x11532DB7 = some (.credMin 5 9 18 27) ∧
    decodeTableWord 32 0x19532DB7 = some (.credMed 5 9 18 27) ∧
    decodeTableWord 32 0x21532DB7 = some (.credSsum 5 9 18 27) ∧
    decodeTableWord 32 0x2FCA9937 = some (.cbcast 5 9 18) ∧
    decodeTableWord 32 0x31532DB7 = some (.cadj 5 9 18 27) ∧
    decodeTableWord 32 0x3FC002B7 = some (.cjoin 5) ∧
    decodeTableWord 32 0x47C002B7 = some (.cleave 5) ∧
    decodeTableWord 32 0x4FC002B7 = some (.cview 5) ∧
    decodeTableWord 32 0x57C002B7 = some (.crejoin 5) := by decide

theorem test_decode_popCtrl :
    decodeTableWord 32 0x000A9039 = some (.fitset 5 9) ∧
    decodeTableWord 32 0x00405039 = some (.popcmd 5) ∧
    decodeTableWord 32 0x00805039 = some (.migrate 5) ∧
    decodeTableWord 32 0x00CA9039 = some (.mutcopy 5 9) ∧
    decodeTableWord 32 0xB02604F9 = some (.mfc 0x2d3 9) ∧
    decodeTableWord 32 0xB0669079 = some (.mtc 0x2d3 9) ∧
    decodeTableWord 32 0xB0A69979 = some (.msetb 0x2d3 9 18) ∧
    decodeTableWord 32 0xB0E69979 = some (.mclrb 0x2d3 9 18) := by decide

theorem test_decode_sys :
    decodeTableWord 32 0x0000507B = some (.trap 5) ∧
    decodeTableWord 32 0x0040507B = some (.brk 5) ∧
    decodeTableWord 32 0x0080007B = some (.eret) ∧
    decodeTableWord 32 0x00C054FB = some (.reinj 5 9) ∧
    decodeTableWord 32 0x010A907B = some (.tlbinv 5 9) ∧
    decodeTableWord 32 0x090A007B = some (.tlbinvAsid 5) ∧
    decodeTableWord 32 0x1100007B = some (.tlbinvAll) ∧
    decodeTableWord 32 0x09532DFB = some (.quiesce true 9 18 27) ∧
    decodeTableWord 32 0x018A997B = some (.resume 5 9 18) ∧
    decodeTableWord 32 0x01C0507B = some (.pkill 5) ∧
    decodeTableWord 32 0x020054FB = some (.savep 5 9) ∧
    decodeTableWord 32 0x024054FB = some (.restp 5 9) ∧
    decodeTableWord 32 0x0280007B = some (.wfi) := by decide

theorem test_decode_compact_a :
    decodeTableWord 16 0x2A42 = some (.cMv 5 9) ∧
    decodeTableWord 16 0x2A44 = some (.cAdd 5 9) ∧
    decodeTableWord 16 0x2A46 = some (.cSub 5 9) ∧
    decodeTableWord 16 0x2A48 = some (.cAddi 5 9) ∧
    decodeTableWord 16 0x2A4A = some (.cLi 5 9) ∧
    decodeTableWord 16 0x2A4C = some (.cSlli 5 9) ∧
    decodeTableWord 16 0x2A4E = some (.cSrai 5 9) ∧
    decodeTableWord 16 0x2A50 = some (.cAnd 5 9) ∧
    decodeTableWord 16 0x2A52 = some (.cLdd 5 9) ∧
    decodeTableWord 16 0x2A54 = some (.cStd 5 9) ∧
    decodeTableWord 16 0x2A56 = some (.cLdw 5 9) ∧
    decodeTableWord 16 0x2A58 = some (.cStw 5 9) ∧
    decodeTableWord 16 0x2A5A = some (.cBeqz 5 9) ∧
    decodeTableWord 16 0x2A5C = some (.cBnez 5 9) := by decide

theorem test_decode_compact_b :
    decodeTableWord 16 0x9D9E = some (.cJ 0x2d3) ∧
    decodeTableWord 16 0x2860 = some (.cJr 5 true) ∧
    decodeTableWord 16 0x5AE2 = some (.cRep 5 0x2b) ∧
    decodeTableWord 16 0x0024 = some (.cEndh) ∧
    decodeTableWord 16 0x0026 = some (.cNop) ∧
    decodeTableWord 16 0x0028 = some (.cYield) := by decide


/-! ## Words that decode to nothing (05 R98, R100 to R103, Table 05-5, the chapter's edge cases) -/

theorem test_refused_majors : ∀ w ∈ [0x00000001, 0xFFFFFFFF, 0x0000003B, 0x00000077], decodeTableWord 32 w = none := by decide

theorem test_refused_selectors : ∀ w ∈ [0x07083383, 0x000E339D, 0xFFCC0397, 0x01800011, 0x0140002D, 0x02800007B],
    decodeTableWord 32 w = none := by decide

theorem test_refused_subfields : ∀ w ∈ [0x031109AF, 0x081294AD, 0x6801B3A1, 0x58767021, 0x7801B3A1, 0x000A9937, 0x9B21B39D,
    0x9B11B39F, 0x9B51B39D], decodeTableWord 32 w = none := by decide

theorem test_refused_reserved : ∀ w ∈ [0x008000FB, 0x10083383, 0x0DC29403], decodeTableWord 32 w = none := by decide

theorem test_refused_compact : ∀ w ∈ [0x0000, 0x0066, 0xFFFE, 0x002A, 0x0022], decodeTableWord 16 w = none := by decide

theorem test_roundtrip : decode (encode (.vclamp 6 3 25 4 5)) = .ok (.vclamp 6 3 25 4 5, 4) ∧
    decode (encode (.mtc 0x10A 9)) = .ok (.mtc 0x10A 9, 4) ∧ decode (encode (.cJ 0x2D3)) = .ok (.cJ 0x2D3, 2) := by decide


/-! ## Single steps, with the results that the chapters work out -/

/-- 07, edge cases. -/
theorem test_mulhu_w : writes 7 0xFFFFFFFFFFFFFFFE
    (exec (.mulhu true 9 8 7) (regs [(8, 0xFFFFFFFF), (9, 0xFFFFFFFF)] base)) = true := by decide

theorem test_minu_maxu_w : writes 7 1 (exec (.minu true 9 8 7) (regs [(8, 0x80000000), (9, 1)] base)) = true ∧
    writes 7 0xFFFFFFFF80000000 (exec (.maxu true 9 8 7) (regs [(8, 0x80000000), (9, 1)] base)) = true := by decide

theorem test_sll_amount : writes 7 5 (exec (.sll false 9 8 7) (regs [(8, 5), (9, 64)] base)) = true ∧
    writes 7 5 (exec (.sll true 9 8 7) (regs [(8, 5), (9, 32)] base)) = true := by decide

/-- 07 Table 07-2. -/
theorem test_div_corners : writes 7 (2 ^ 64 - 1) (exec (.div false 9 8 7) (regs [(8, 5)] base)) = true ∧
    writes 7 (2 ^ 63) (exec (.div false 9 8 7) (regs [(8, 0x8000000000000000), (9, 0xFFFFFFFFFFFFFFFF)] base)) = true := by decide

theorem test_rem_corners : writes 7 5 (exec (.rem false 9 8 7) (regs [(8, 5)] base)) = true ∧
    writes 7 (2 ^ 64 - 2) (exec (.rem false 9 8 7) (regs [(8, 0xFFFFFFFFFFFFFFF9), (9, 5)] base)) = true := by decide

/-- 07 R140: the immediate of sltiu is unsigned, of slti signed. -/
theorem test_compare_immediates : writes 7 1 (exec (.sltiu 0x7FFF 8 7) (regs [(8, 0x7FFE)] base)) = true ∧
    writes 7 0 (exec (.slti 0x7FFF 8 7) (regs [(8, 0)] base)) = true := by decide

theorem test_andi_copies : writes 7 0xF00000000000000F (exec (.andi 0x7FFF 8 7) (regs [(8, 0xF00000000000000F)] base)) = true := by
  decide

/-- 07 R141, R142, the worked examples. -/
theorem test_srai_sign : writes 8 (2 ^ 64 - 1) (exec (.srai false 63 9 8) (regs [(9, 0x8000000000000000)] base)) = true := by decide

theorem test_lui : writes 7 0x12345000 (exec (.lui 0x12345 7) base) = true ∧
    writes 7 0xFFFFFFFF80000000 (exec (.lui 0x80000 7) base) = true := by decide

theorem test_auipc : writes 9 0x00280008 (exec (.auipc 0 9) (ctx (fun x => { x with pc := 0x00280008 }) base)) = true := by decide

/-- 07 R135: a write of g0 is discarded. -/
theorem test_g0 : writes 0 0 (exec (.addi 5 7 0) base) = true := by decide

/-- 07 R144, edge cases: an odd target traps and writes no link. -/
theorem test_jalr_odd : traps 0x03 0x103 (exec (.jalr 3 7 1) (regs [(7, 0x100)] base)) = true ∧
    writes 1 0 (exec (.jalr 3 7 1) (regs [(7, 0x100)] base)) = true := by decide

theorem test_branch : goesTo (fun t => t.me.pc == base.me.pc - 8) (exec (.bne 0xFFC 0 7) (regs [(7, 1)] base)) = true ∧
    goesTo (fun t => t.me.pc == base.me.pc + 4) (exec (.bne 0xFFC 0 7) base) = true := by decide

/-- 07, the worked example of R146: c.li 5, then c.srai 4. -/
theorem test_compact : writes 8 5 (exec (.cLi 5 8) base) = true ∧ writes 8 0 (exec (.cSrai 4 8) (regs [(8, 5)] base)) = true := by decide

theorem test_cSlli_drops : writes 7 (2 ^ 31) (exec (.cSlli 31 7) (regs [(7, 0x200000001)] base)) = true := by decide

/-- 07, edge cases: writes of CTXID and CYCLE change nothing; a number that names nothing reads 0; RXCTX needs S mode. -/
theorem test_control_registers : goesTo (fun t => t.me.g == base.me.g) (exec (.mtc 0x005 7) base) = true ∧
    writes 7 0 (exec (.mfc 0x0A0 7) (regs [(7, 5)] base)) = true := by decide

theorem test_rxctx_privilege : traps 0x02 (Instr.word (.mtc 0x108 7)) (exec (.mtc 0x108 7) base) = true ∧
    goesTo (fun t => t.mine.rxctx == 0x3F) (exec (.mtc 0x108 7) (regs [(7, 0x3F)] sup)) = true := by decide

/-- 07 R147. -/
theorem test_frm : goesTo (fun t => t.me.frm == 2) (exec (.mtc 0x001 7) (regs [(7, 2)] base)) = true := by decide

/-! ### Loads, stores, atomics (08, edge cases) -/

theorem test_load_signed : writes 7 (2 ^ 64 - 1) (exec (.ldb 0 0 false 8 7) (regs [(8, 0x200)] (poke 0x200 [0xFF] base))) = true ∧
    writes 7 0xFF (exec (.ldbu 0 0 false 8 7) (regs [(8, 0x200)] (poke 0x200 [0xFF] base))) = true := by decide

theorem test_load_order : writes 7 0x04030201 (exec (.ldw 0 0 false 8 7) (regs [(8, 0x200)] (poke 0x200 [1, 2, 3, 4] base))) = true := by
  decide

theorem test_load_misaligned : traps 0x03 0x1004 (exec (.ldd 0 3 true 20 7) (regs [(20, 0x1004)] base)) = true := by decide

theorem test_load_versioned_range : traps 0x04 0x20000010 (exec (.ldw 4 1 true 3 8) (regs [(3, 0x20000000)] base)) = true := by decide

theorem test_store : goesTo (fun t => t.bytes 0x200 4 == [0x78, 0x56, 0x34, 0x12]) (exec (.stw 0 0 false 8 7)
    (regs [(8, 0x200), (7, 0xFFFFFFFF12345678)] base)) = true := by decide

theorem test_amo_aligned4 : goesTo (fun t => (t.me.g[7] == 5) && (t.load 0x204 4 == 8)) (exec (.amoadd 0 0 false 9 8 7)
    (regs [(8, 0x204), (9, 3)] (poke 0x204 [5] base))) = true ∧
    traps 0x03 0x204 (exec (.amoadd 0 0 true 9 8 7) (regs [(8, 0x204), (9, 3)] base)) = true := by decide

theorem test_amocas : goesTo (fun t => t.load 0x208 4 == 9) (exec (.amocas 0 0 false 9 8 7)
    (regs [(8, 0x208), (9, 9), (7, 5)] (poke 0x208 [5] base))) = true ∧
    goesTo (fun t => t.load 0x208 4 == 5) (exec (.amocas 0 0 false 9 8 7) (regs [(8, 0x208), (9, 9), (7, 6)] (poke 0x208 [5] base))) =
      true := by decide

/-! ### A versioned word in use (08 Table 08-5) -/

/-- The word of 0x20000400 in cluster 0 at a step of the table. -/
def word128 (ver cur prev : Nat) (live : Bool) (l : List (Fin 32 × Word)) : State :=
  let s := regs ((3, 0x20000400) :: l) base
  s.setVword 0 128 { ver := BitVec.ofNat 16 ver, cur := BitVec.ofNat 64 cur, prev := BitVec.ofNat 64 prev, plive := live }

theorem test_stv : goesTo (fun t => t.vword 0 128 == { ver := 1, cur := 0x11, prev := 0, plive := true })
    (exec (.stv 8 3 7) (word128 0 0 0 false [(8, 1), (7, 0x11)])) = true := by decide

theorem test_stv_waits : goesTo (fun t => waiting t && (t.vword 0 128 == { ver := 1, cur := 0x11, prev := 0, plive := true }))
    (exec (.stv 8 3 7) (word128 1 0x11 0 true [(8, 2), (7, 0x22)])) = true := by decide

theorem test_ldv : writes 9 0x11 (exec (.ldv 8 3 9) (word128 1 0x11 0 true [(8, 1)])) = true ∧
    writes 9 0x11 (exec (.ldv 8 3 9) (word128 2 0x22 0x11 true [(8, 1)])) = true := by decide

theorem test_ldv_gone : traps 0x05 0x20000400 (exec (.ldv 8 3 9) (word128 2 0x22 0x11 false [(8, 1)])) = true ∧
    goesTo waiting (exec (.ldv 8 3 9) (word128 2 0x22 0x11 false [(8, 3)])) = true := by decide

theorem test_vrcl : goesTo (fun t => (t.vword 0 128).plive == false) (exec (.vrcl 8 3) (word128 1 0x11 0 true [(8, 0)])) = true ∧
    goesTo (fun t => (t.vword 0 128).plive == true) (exec (.vrcl 8 3) (word128 1 0x11 0 true [(8, 1)])) = true := by decide

theorem test_vprobe : writes 9 0x10002 (exec (.vprobe 3 9) (word128 2 0x22 0x11 true [])) = true := by decide

/-! ### Barriers and sub-tiles (08 R174, R175, 03 R71) -/

/-- Barrier 2 of the panel with a record. -/
def bar2 (r : Barrier) (l : List (Fin 32 × Word)) : State :=
  let s := regs ((8, 2) :: l) base
  { s with panels := s.panels.map fun p => { p with bars := p.bars.set 2 r } }

theorem test_bararv_last : goesTo (fun t => (t.me.g[9] == 0) && t.panels.all (fun p =>
      p.bars[2] == ({ count := 4, arrived := 0, merge := 0, last := 5, phase := 1 } : Barrier)))
    (exec (.bararv 8 9) (bar2 { count := 4, arrived := 3, merge := 5, last := 0, phase := 0 } [])) = true := by decide

theorem test_barwait : writes 9 5 (exec (.barwait 7 8 9) (bar2 { count := 4, arrived := 0, merge := 0, last := 5, phase := 1 } [])) = true ∧
    goesTo waiting (exec (.barwait 7 8 9) (bar2 { count := 4, arrived := 3, merge := 5, last := 0, phase := 0 } [])) =
      true := by decide

theorem test_tileget : writes 9 0x0020001000080004 (exec (.tileget 9)
      (big.setCluster 0 { big.cluster 0 with tdcfg := 0x101000140028, tdPos := 5 })) = true ∧
    writes 9 (2 ^ 64 - 1) (exec (.tileget 9) (big.setCluster 0 { big.cluster 0 with tdcfg := 0x101000140028, tdPos := 6 })) = true := by
  decide

/-! ### Traps (18, the worked example of R336) and decode in a mode (05 R104) -/

theorem test_trap_record : goesTo (fun t => (t.load 0x78800 8 == 0x108) && (t.byte 0x78808 == 0x03) && (t.load 0x78810 8 == 0x1004))
    (exec (.ldd 0 3 true 20 7) (regs [(20, 0x1004)] (ctx (fun x => { x with pc := 0x108 }) { base with slot := 2 }))) = true := by decide

theorem test_break : traps 0x0E 0x77 (exec (.brk 7) (regs [(7, 0x77)] base)) = true ∧
    goesTo (fun t => t.me.epc == base.me.pc + 4) (exec (.brk 7) base) = true := by decide

/-- 18 R333: a trap in S mode writes no record. -/
theorem test_break_s_mode : goesTo (fun t => t.me.mode && t.me.pmode && (t.me.epc == 4) && (t.mem == sup.mem)) (exec (.brk 7) sup) =
    true := by decide

/-- 05 Table 05-5: ERET is S-only; a step of the word in U mode traps. -/
theorem test_eret_privilege : traps 0x02 0x0080007B (step (ctx (fun x => { x with mode := false })
    (State.reset.withFetchWord 32 0x0080007B))) = true := by decide


/-! ### Rounding (06 Table 06-8) -/

/-- 0.3, 235, 1.0625 and 1.5 × 2^-10 into SF4. -/
theorem test_round_sf4 : roundTo (.fin false { n := 3, d := 10 }) (.b8 4 true true) .rne false = (0x32, flNX) ∧
    roundTo (.ofInt 235) (.b8 4 true true) .rne false = (0x7F, flOF ||| flNX) ∧
    roundTo (.ofInt 235) (.b8 4 true true) .rne true = (0x7E, flOF ||| flNX) ∧
    roundTo (.ofInt (-235)) (.b8 4 true true) .rtz false = (0xFE, flNX) ∧
    roundTo (.fin false { n := 17, d := 16 }) (.b8 4 true true) .rne false = (0x40, flNX) ∧
    roundTo (.fin false { n := 17, d := 16 }) (.b8 4 true true) .rup false = (0x41, flNX) ∧
    roundTo (.fin false { n := 3, d := 2048 }) (.b8 4 true true) .rne false = (0x02, flUF ||| flNX) ∧
    roundTo (.zero true) (.b8 4 true true) .rne false = (0, 0) := by decide

/-- 235, 250 and the infinities into SF4N; −0.25 into UF4. -/
theorem test_round_sf4n_uf4 : roundTo (.ofInt 235) (.b8 4 true false) .rne false = (0x7F, flNX) ∧
    roundTo (.ofInt 250) (.b8 4 true false) .rne false = (0x80, flOF ||| flNX) ∧
    roundTo (.inf false) (.b8 4 true false) .rne false = (0x80, flNV) ∧
    roundTo (.inf true) (.b8 4 true false) .rne true = (0xFF, flNV) ∧
    roundTo (.fin true { n := 1, d := 4 }) (.b8 4 false true) .rne false = (0xFF, flNV) ∧
    roundTo (.fin true { n := 1, d := 4 }) (.b8 4 false true) .rne true = (0x00, flNV) := by decide

/-- 200.7, −3.5 and a NaN into I8. -/
theorem test_round_i8 : roundTo (.fin false { n := 2007, d := 10 }) (.int 8 true) .rne false = (0x7F, flNV) ∧
    roundTo (.fin true { n := 7, d := 2 }) (.int 8 true) .rne false = (0xFC, flNX) ∧
    roundTo (.nan false) (.int 8 true) .rne false = (0, flNV) := by decide

/-! ### Vectors (09, the worked examples and edge cases), one or two lanes active -/

/-- With vector and predicate registers set. -/
def vecs (l : List (Fin 16 × Nat)) (s : State) : State :=
  ctx (fun x => { x with v := l.foldl (fun v e => v.set e.1 (BitVec.ofNat 4096 e.2)) x.v }) s

/-- With predicate 1 set to the first two lanes. -/
def two (s : State) : State := ctx (fun x => { x with p := x.p.set 1 3 }) s

/-- Whether an outcome leaves lane `k` of width `w` of a vector register as `v`, and FLAGS as `fl`. -/
def lane2 (w : Nat) (d : Fin 16) (k v : Nat) (fl : Fl) (o : Host.Outcome State Fault Refusal) : Bool :=
  goesTo (fun t => (laneOf w t.me.v[d].toNat k == v) && (t.me.flags == fl)) o

theorem test_vcmplt : goesTo (fun t => (t.me.p[3] == 1) && (t.me.flags == flNV))
    (exec (.vcmplt 8 1 2 1 3) (two (vecs [(1, 0x7FC000003F800000), (2, 0x40000000)] base))) = true := by decide

theorem test_vabs_i8 : lane2 8 2 0 0x80 0 (exec (.vabs 0 1 1 2) (two (vecs [(1, 0x80)] base))) = true := by decide

theorem test_vadds_i8 : lane2 8 2 0 0x80 flOF (exec (.vadds 0 1 3 1 2) (two (vecs [(1, 0x80), (3, 0xFF)] base))) = true := by decide

theorem test_vshl_past_width : lane2 8 2 1 0 0 (exec (.vshl 0 1 9 1 2) (two (vecs [(1, 0x8101)] (regs [(9, 8)] base)))) = true ∧
    lane2 8 2 1 0xFF 0 (exec (.vshr 0 1 9 1 2) (two (vecs [(1, 0x8101)] (regs [(9, 0x8000000000000000)] base)))) = true := by decide

theorem test_vdiv_i32 : traps 0x01 (Instr.word (.vdiv 4 1 2 1 3)) (exec (.vdiv 4 1 2 1 3) base) = true := by decide

theorem test_vredsum : lane2 32 8 0 0x3F800000 flNX (exec (.vredsum 8 1 9 8)
    (ctx (fun x => { x with p := x.p.set 1 15 }) (vecs [(9, 0x4B800000 + 0x3F800000 * 2 ^ 32 + 0x3F800000 * 2 ^ 64 + 0xCB800000 * 2 ^ 96)] base))) =
      true := by decide

theorem test_vcvt_tie : lane2 16 3 0 0x3F80 flNX (exec (.vcvt 6 1 8 4 3) (two (vecs [(4, 0x3F808000)] base))) = true := by decide

/-- Carry into the second tile: the worked example of R195, one segment of 16 lanes active. -/
theorem test_vscan_carry : goesTo (fun t => (laneOf 16 t.me.v[4].toNat 0 == 18) && (laneOf 16 t.me.v[4].toNat 15 == 48))
    (exec (.vscan 2 1 10 6 4) (ctx (fun x => { x with p := x.p.set 1 0xFFFF })
      (vecs [(6, packed 16 (List.replicate 16 2)), (4, packed 16 (List.replicate 16 16))] (regs [(10, 0x14)] base)))) = true := by
  decide

theorem test_vnarrow_i8 : lane2 8 3 0 0x7F flOF (exec (.vnarrow 0 1 false 4 3) (two (vecs [(4, 300)] base))) = true ∧
    lane2 8 3 0 0xFF flOF (exec (.vnarrow 1 1 false 4 3) (two (vecs [(4, 300)] base))) = true := by decide

/-- The worked example of R202: two SF4 bytes loaded through window 2. -/
theorem test_vld_window : goesTo (fun t => (laneOf 32 t.me.v[2].toNat 0 == 0x3FC00000) && (laneOf 32 t.me.v[2].toNat 1 == 0x3F000000) &&
      (t.me.flags == 0))
    (exec (.vld 8 1 0 8 2) (two (regs [(8, 0x04000100)] (poke 0x100 [0x44, 0x38]
      (ctx (fun x => { x with winfmt := x.winfmt.set 2 0x03 }) base))))) = true := by decide

/-- The same example's store of 0.3. -/
theorem test_vst_window : goesTo (fun t => (t.byte 0x100 == 0x32) && (t.byte 0x101 == 0x38) && (t.me.flags == flNX))
    (exec (.vst 8 2 0 8 2) (vecs [(2, 0x3E99999A)] (regs [(8, 0x04000100)] (poke 0x100 [0x44, 0x38]
      (ctx (fun x => { x with winfmt := x.winfmt.set 2 0x03, p := x.p.set 2 1 }) base))))) = true := by decide

/-! ### Witnesses, softmax, messages -/

/-- 12, the worked example of R275. -/
theorem test_vwmax : goesTo (fun t => (laneOf 16 t.me.v[6].toNat 0 == 0x40E0) && (laneOf 16 t.me.v[6].toNat 1 == 0x7FC0) &&
      (laneOf 8 t.me.v[12].toNat 0 == 0x21) && (t.me.flags == 0))
    (exec (.vwmax 6 3 12 0 6) (vecs [(0, 0x80004040), (1, 0x000040E0), (2, 0x7FC040E0), (3, 0x40A0BF80)] base)) = true := by decide

/-- 12, the same example's adjoint. -/
theorem test_vadj : goesTo (fun t => (laneOf 16 t.me.v[9].toNat 0 == 0x3F80) && (laneOf 16 t.me.v[10].toNat 1 == 0x3F00) &&
      (laneOf 32 t.me.v[8].toNat 0 == 0) && (laneOf 32 t.me.v[11].toNat 0 == 0))
    (exec (.vadj 6 3 12 0 8) (vecs [(12, 0x21), (8, 0x3F003F80)] base)) = true := by decide


/-- 10, the worked softmax example: row 0 of the first block. -/
theorem test_msoft : goesTo (fun t => let u := t.me.settle
      (laneOf 32 (u.z[zMax 1]).toNat 0 == 0x40400000) && (laneOf 32 (u.z[zSum 1]).toNat 0 == 0x40100000) &&
      (laneOf 16 u.v[4].toNat 0 == 0x3F80) && (laneOf 16 u.v[4].toNat 1 == 0x3E80) && (laneOf 16 u.v[4].toNat 3 == 0) && (u.flags == 0))
    (exec (.msoft 1 4 4) (ctx (fun x => { x with z := x.z.set (zMax 1) (BitVec.ofNat 512 (packed 32 (List.replicate 16 0xFF800000))) })
      (vecs [(4, packed 32 ([0x40400000, 0x3F800000, 0x40400000] ++ List.replicate 125 0xFF800000)),
        (5, packed 32 (List.replicate 128 0xFF800000))] base))) = true := by decide

/-- 10 R226: an MMA on a slot that holds nothing. -/
theorem test_mma_empty : traps 0x11 5 (exec (.mma false true 1 5 2 4) base) = true := by decide

/-- 10 R212, Table 10-4: field 3 is NDIM, 8 bits wide; a selector of 26 is none. -/
theorem test_tmset : goesTo (fun t => (t.map 2).raw 10 1 == 0x77) (exec (.tmset 8 3 2) (regs [(8, 0x177)] base)) = true ∧
    traps 0x01 (Instr.word (.tmget 26 2 9)) (exec (.tmget 26 2 9) base) = true := by decide

/-- 11 R241, Table 11-2: one arrival of an INIT of 2, at panel scope. -/
theorem test_txb : goesTo (fun t => (t.load 0x200 16 == 2 * 2 ^ 4 + 2 * 2 ^ 68 + 2 * 2 ^ 96))
    (exec (.txbinit 8 9) (regs [(8, 0x200), (9, 0x200000002)] base)) = true := by decide

/-- 12 R282. -/
theorem test_fitset : goesTo (fun t => (t.mine.fitness == 5) && (t.mine.fitgen == 9)) (exec (.fitset 9 8) (regs [(8, 5), (9, 9)] base)) =
    true := by decide

/-- 11 R233: a reserved header bit. -/
theorem test_send_reserved : traps 0x14 (2 ^ 41) (exec (.send 9 8 10) (regs [(8, 2 ^ 41)] base)) = true := by decide

/-- 11 R236: a command-free activation ends; 03 R43. -/
theorem test_endh : goesTo (fun t => t.me.run == .dormant) (exec .endh base) = true := by decide

/-- 07, the worked repeat: the first repetition writes g7, and REPCNT counts down. -/
theorem test_repeat : goesTo (fun t => t.me.rep == some { n := 3, mask := 1, idx := 0 })
    (exec (.cRep 1 2) (poke 2 [0x83, 0x33, 0x08, 0x00] base)) = true := by decide

/-- 08 R162: a lock bit that another context holds. -/
theorem test_ldl_waits : goesTo waiting (exec (.ldl 0 false true 8 9)
    (own (fun c => { c with locks := [(lockOf 0x200, 3)] }) (regs [(8, 0x200)] base))) = true ∧
    goesTo (fun t => t.mine.locks == [(lockOf 0x200, 0)]) (exec (.ldl 0 false true 8 9) (regs [(8, 0x200)] base)) = true := by decide

/-- 08, edge cases: a store of another agent to the line wakes the monitor with reason 1. -/
theorem test_mwait : writes 9 1 (exec (.mwait 8 9) (ctx (fun x => { x with mon := some { line := 8, wrote := true } }) base)) = true ∧
    writes 9 0 (exec (.mwait 8 9) base) = true := by decide


/-! ## States that meet the hypotheses of the obligations -/

/-- IntegerResults, UnaryAndImmediateResults, CompactForms (their only hypothesis). -/
theorem wit_alone : base.alone ∧ sup.alone ∧ big.alone := by decide

/-- BranchesAndJumps, CompactForms: an even and an odd target. -/
theorem wit_jump_targets : base.alone ∧ (base.me.reg 7 + (2 : BitVec 15).signExtend 64).toNat % 2 = 0 ∧
    (base.me.reg 7 + (3 : BitVec 15).signExtend 64).toNat % 2 = 1 ∧ ((regs [(7, 0x7FFFF)] base).me.reg 7).toNat % 2 = 1 := by decide

/-- Loads, ScratchStores: an access of every size, in user range and (in S mode) at the end of the core's region. -/
theorem wit_loads : base.memOk ∧ sup.alone ∧ (∀ n ∈ [1, 2, 4, 8], base.reaches 0x200 n ∧ base.clean 0x200 n) ∧
    sup.reaches 0x7FFF8 8 ∧ sup.clean 0x7FFF8 8 ∧ sup.reaches 0x7FFFF 1 ∧ sup.reaches 0 8 := by decide

/-- Loads: a versioned word, the first and the last of a cluster, and an address where only LDD may read. -/
theorem wit_versioned_loads : (regs [(3, 0x20000000)] base).reachesV ((regs [(3, 0x20000000)] base).me.reg 3) ∧
    (regs [(3, 0x2000FFF8)] big).reachesV ((regs [(3, 0x2000FFF8)] big).me.reg 3) ∧
    0x20000000 ≤ ((regs [(3, 0x20000000)] base).me.reg 3 + (0 : BitVec 7).signExtend 64 * BitVec.ofNat 64 1).toNat := by decide

/-- AccessTrapsInOrder: outside the windows, on a core outside the panel, outside the user range, misaligned. -/
theorem wit_access_traps : base.alone ∧ ¬((0x20000000 : Word).toNat < 2 ^ 29 ∧ base.inPanel (base.keyOf 0x20000000 / 2 ^ 19) = true) ∧
    ¬((0x1F80000 : Word).toNat < 2 ^ 29 ∧ base.inPanel (base.keyOf 0x1F80000 / 2 ^ 19) = true) ∧
    (base.inPanel (base.keyOf 0x7FFFC / 2 ^ 19) = true ∧ base.permits (base.keyOf 0x7FFFC) (min 8 (2 ^ 19 - base.keyOf 0x7FFFC % 2 ^ 19)) = false) ∧
    (base.inPanel (base.keyOf 0x1004 / 2 ^ 19) = true ∧
      base.permits (base.keyOf 0x1004) (min 8 (2 ^ 19 - base.keyOf 0x1004 % 2 ^ 19)) = true ∧ (0x1004 : Word).toNat % 8 ≠ 0) := by
  decide

/-- AtomicResults, LockedAccess: a free lock bit, one of the context's own, one of another. -/
theorem wit_locks : base.memOk ∧ base.reaches 0x200 8 ∧ base.clean 0x200 8 ∧ base.reaches 0x204 4 ∧ base.clean 0x204 4 ∧
    base.lockFree (base.keyOf 0x200) ∧ base.lockFree (base.keyOf 0x204) ∧
    (own (fun c => { c with locks := [(lockOf 0x200, 0)] }) base).holding 0 (lockOf 0x200) = true ∧
    (own (fun c => { c with locks := [(lockOf 0x200, 3)] }) base).holding 0 (lockOf 0x200) = false ∧
    (∃ l ∈ ((own (fun c => { c with locks := [(lockOf 0x200, 3)] }) base).core 0).locks, l.1 = lockOf 0x200) ∧
    (own (fun c => { c with locks := [(lockOf 0x200, 3)] }) base).alone := by decide

/-- VersionedWords: each relation of the named version to VER, at its ends, and both values of PLIVE. -/
theorem wit_versions : (word128 2 1 1 true []).alone ∧ (word128 2 1 1 true []).reachesV 0x20000400 ∧
    (word128 2 1 1 true []).vwordAt 0x20000400 = { ver := 2, cur := 1, prev := 1, plive := true } ∧
    (word128 2 1 1 false []).vwordAt 0x20000400 = { ver := 2, cur := 1, prev := 1, plive := false } ∧
    (word128 2 1 1 false []).first (.plive (word128 2 1 1 false []).clus 128) = true ∧
    ((2 : BitVec 16) - 32770).toNat = 32768 ∧ ((2 : BitVec 16) - 32769).toNat = 32769 ∧ ((2 : BitVec 16) - 1).toNat = 1 := by decide

/-- FencesBarriersMonitor. -/
theorem wit_barriers : base.holds base.at_ base.slot .sources = true ∧ base.myPanel = some onePanel ∧
    onePanel.bars[barNum (base.me.reg 8)].phase ≠ ((regs [(9, 1)] base).me.reg 9).truncate 4 ∧
    onePanel.bars[barNum (base.me.reg 8)].phase = (base.me.reg 9).truncate 4 ∧ base.reaches (base.me.reg 8) 1 ∧ base.me.mon = none ∧
    base.me.wait = none := by decide

theorem wit_bar_counts : (bar2 { count := 4, arrived := 2, merge := 0, last := 0, phase := 0 } []).alone ∧
    (2 : BitVec 16).toNat + 1 < max (4 : BitVec 16).toNat 1 ∧ max (4 : BitVec 16).toNat 1 ≤ (3 : BitVec 16).toNat + 1 ∧
    max (0 : BitVec 16).toNat 1 ≤ (0 : BitVec 16).toNat + 1 := by decide

theorem wit_monitor : (ctx (fun x => { x with mon := some { line := 8, wrote := true } }) base).alone ∧
    (ctx (fun x => { x with mon := some { line := 8, posted := true } }) base).alone ∧
    (ctx (fun x => { x with mon := some { line := 8, posted := true } }) base).me.mon = some { line := 8, posted := true } ∧
    base.me.reg 0 = 0 := by decide

/-- ControlRegisterReads, ControlRegisterWrites, QueueAndBarrierConfiguration: U and S mode, a panel, its own cluster, a shared one. -/
theorem wit_control : base.me.mode = false ∧ sup.me.mode = true ∧ sup.alone ∧ (0x100 : BitVec 10).toNat = 0x100 ∧
    base.myPanel = some onePanel ∧ onePanel.hasCluster base.clus = false ∧
    big.myPanel = some { onePanel with w := 8, h := 8 } ∧ ({ onePanel with w := 8, h := 8 } : Panel).hasCluster big.clus = true ∧
    (big.cluster big.clus).tasks = [] ∧ (big.cluster big.clus).ringLen = 0 ∧ (0x200 : Word).toNat / 2 ^ 25 % 16 = 0 := by decide

/-- TrapEntry, ReturnFromTrap: the record of the context lies in memory with no publish entry in the way. -/
theorem wit_trap : base.alone ∧ base.memOk ∧ base.me.mode = false ∧ sup.me.mode = true ∧ base.me.rep = none ∧ base.me.g[0] = 0 ∧
    base.sound base.recKey 0x300 = true := by decide

theorem wit_trap_record : ∀ k < 0x300, base.phys (base.recKey + k) = base.recKey + k := by decide

/-- ReturnFromTrap: PMODE S, and PMODE U with a record (of zeros) that passes its check. -/
theorem wit_eret : (ctx (fun x => { x with pmode := true }) sup).alone ∧ sup.me.pmode = false ∧ sup.sound sup.recKey 0x300 = true ∧
    sup.recFault (sup.bytes sup.recKey 0x300) = none ∧ sup.byte (sup.recKey + 0x0C) = 0 := by decide

/-- TranslationInvalidation, Reinjection. -/
theorem wit_tlbinv : sup.alone ∧ sup.me.mode = true ∧ sup.myPanel = some onePanel ∧
    ∀ m ∈ sup.cmds, m.panel = onePanel.num → m.uses none none = false := by decide

theorem wit_reinj : (regs [(8, 0x400)] sup).memOk ∧ sup.inPanel (sup.keyOf 0x400 / 2 ^ 19) = true ∧ sup.keyOf 0x400 % 2 ^ 19 + 32 ≤ 2 ^ 19 ∧
    sup.sound (sup.keyOf 0x400) 32 = true ∧ sup.sound sup.recKey 0x10 = true ∧ sup.load (sup.recKey + 0x0A) 1 < 8 ∧
    sup.me.entryFault ((poke 0x400 [0xA3, 0x34, 0x1A, 0x00] sup).bytes 0x400 32) = none := by decide

/-- Reinjection: a misaligned address, a full queue, an entry that may not replay. -/
theorem wit_reinj_traps : (0x404 : Nat) % 8 ≠ 0 ∧ sup.keyOf 0x404 % 2 ^ 19 + 32 ≤ 2 ^ 19 ∧
    ¬((poke (sup.recKey + 0x0A) [8] sup).load (sup.recKey + 0x0A) 1 < 8) ∧ sup.me.entryFault (sup.bytes (sup.keyOf 0x400) 32) ≠ none := by
  decide

/-- QuiesceResumeAndKill: another core of the panel, quiet; one whose slot 1 runs; the own slot; the own panel's number. -/
theorem wit_quiesce : sup.alone ∧ sup.me.run = .ready ∧ sup.me.wait = none ∧ sup.inPanel 1 = true ∧ sup.coreDown 1 = false ∧
    (sup.core 1).quiet 0xFF = true ∧ (sup.setCtx 1 1 { (sup.ctx 1 1) with run := .ready }).inPanel 1 = true ∧
    ((sup.setCtx 1 1 { (sup.ctx 1 1) with run := .ready }).core 1).quiet 0xFF = false ∧
    ¬(sup.inPanel 0 = true ∧ ¬(0 = sup.at_ ∧ (1 : Word).getLsbD sup.slot.val = true)) ∧ sup.panel onePanel.num = some onePanel ∧
    (regs [(8, 1)] sup).me.reg 8 = sup.mine.panelId.zeroExtend 64 ∧ sup.me.reg 8 ≠ sup.mine.panelId.zeroExtend 64 := by decide


/-- Device memory of die 0 from `pa`. -/
def device (pa : Nat) (bs : List Byte) (s : State) : State :=
  { s with mem := (bs.mapIdx fun i b => (deviceBase + pa + i, b)).foldl (fun m (e : Nat × Byte) => Memory.set m e.1 e.2) s.mem }

/-- Virtual addresses 0 to 0x7FFF of address space 3 lie at 0x10000 of stack 0. -/
def page : TlbEntry :=
  { asid := 3, va := 0, size := 0x8000, pa := 0x10000, rd := true, wr := true, key := deviceBase + 0x10000, eng := .ske 0 }

/-- A cached translation of the panel's address space. -/
def mapped : State → State :=
  own (fun c => { c with ptbase := 1, asid := 3, tlb := [page] })

/-- Whether a result is there. -/
def has {α ε : Type} (x : Except ε α) : Bool := match x with | .ok _ => true | .error _ => false

/-- The little-endian bytes of a number. -/
abbrev le (n v : Nat) : List Byte := bytesOf n v

/-- A save descriptor at 0x400 and an image header at virtual address 0x1000: its FORMAT, COMMIT and W, and whether its cores are down. -/
def headed (f m w : Nat) (down : Bool) : State :=
  let s := poke 0x400 (le 8 0x1000 ++ le 8 1 ++ le 8 0x100000 ++ le 4 7) (regs [(5, 0x400)] (mapped sup))
  device 0x11000 (le 8 f ++ le 2 0 ++ le 1 w ++ le 1 2) (device 0x11FF8 (le 1 m) (s.setCluster 0 { s.cluster 0 with retired := down }))

def saveState : State := headed 1 1 2 false

/-- SaveRestoreAndWait. -/
theorem wit_save : saveState.alone ∧ saveState.me.mode = true ∧ saveState.reaches 0x400 64 ∧ saveState.clean 0x400 64 ∧
    saveDescOk (BitVec.ofNat 512 (saveState.load (saveState.keyOf 0x400) 64)) = true ∧
    saveDescOk (BitVec.ofNat 512 (sup.load (sup.keyOf 0x400) 64)) = false := by decide

/-- Each byte of the image header is read through the cached translation. -/
theorem headed_reach (f m w : Nat) (d : Bool) (a : Nat) (h : a < 0x8000) :
    (headed f m w d).reach 0 1 3 a false = .ok (page.keyOf a, headed f m w d) ∧ (headed f m w d).poisoned (page.keyOf a) = false := by
  have hc : (headed f m w d).cached 0 3 a false = some page := by
    show List.find? _ [_] = _
    simp [List.find?, TlbEntry.hits, page, h]
  exact ⟨State.reach_cached (by decide) hc rfl, rfl⟩

set_option maxRecDepth 100000 in
/-- SaveRestoreAndWait: the header of an image of the panel's shape, and one for each failure. -/
theorem wit_restore : ∀ e ∈ [(1, 1, 2, false), (2, 1, 2, false), (1, 0, 2, false), (1, 1, 3, false), (1, 1, 2, true)],
    let s := headed e.1 e.2.1 e.2.2.1 e.2.2.2
    ∃ h, s.readVa 0 1 3 0x1000 0x1000 = .ok (h, s) ∧ (s.shapeFault onePanel h).isNone = decide (e = (1, 1, 2, false)) := by
  intro e he
  refine ⟨_, State.readVa_cached 0x1000 0x1000 fun a _ h => headed_reach _ _ _ _ a (by omega), ?_⟩
  revert e
  decide

/-- SaveRestoreAndWait: a header that cannot be read. -/
theorem wit_restore_unread : has ((own (fun c => { c with tlb := [] }) saveState).readVa 0 1 3 0x1000 0x1000) = false := by decide

theorem wit_wfi : sup.me.wait = none ∧ (ctx (fun x => { x with wait := some { on := .event 3 0, since := 0, start := 0 } }) sup).alone ∧
    (3 : Nat) ≠ sup.mine.admits := by decide

/-- SendingMessages: an empty, a scratch and a register payload; a header past each limit; a core outside the panel. -/
theorem wit_send : (regs [(5, 1), (6, 0x400)] base).alone ∧ hdrKind 1 = 0 ∧ hdrPrio 1 ≤ 47 ∧ hdrLen 1 = 0 ∧ base.inPanel (hdrDest 1) = true ∧
    base.outstanding base.at_ base.slot < 16 ∧ hdrLen (0x1000 * 2 ^ 28 + 1) = 4096 ∧ base.keyOf 0x400 % 2 ^ 19 + 4096 ≤ 2 ^ 19 ∧
    base.permits 0x400 4096 = true ∧ hdrLen (0x200 * 2 ^ 28) = 512 ∧ base.inPanel (hdrDest 100) = false := by decide

theorem wit_send_sound : base.sound 0x400 4096 = true := by decide

theorem wit_send_bad : ¬((2 ^ 41 : Word).toNat < 2 ^ 41) ∧ ¬(hdrPrio (BitVec.ofNat 64 (48 * 2 ^ 22)) ≤ 47) ∧
    hdrKind (BitVec.ofNat 64 (7 * 2 ^ 13)) = 7 ∧ ¬(hdrLen (513 * 2 ^ 28) ≤ 512) ∧ ¬((2 ^ 62 : Word).toNat < 2 ^ 62) := by decide

/-- A command of the issuing context in a state. -/
def cmdIn (st : CmdState) : Cmd :=
  { id := 9, kind := .copy, engine := .xfu 0, core := 0, slot := 0, panel := 1, activation := 0, state := st, tval := 0x77 }

/-- EndingAnActivation: none, a finished, a running and a failed command. -/
theorem wit_endh : (∀ m ∈ base.cmdsOf base.at_ base.slot base.me.act, m.state = .done) ∧ base.mine.inbox = [] ∧
    (∀ m ∈ ({ base with cmds := [cmdIn .done] } : State).cmdsOf 0 0 0, m.state = .done) ∧
    (∃ m ∈ ({ base with cmds := [cmdIn .running] } : State).cmdsOf 0 0 0, m.ended = false) ∧
    ({ base with cmds := [cmdIn (.failed 0x10)] } : State).unsurfaced = some (cmdIn (.failed 0x10)) ∧
    (∀ m ∈ ({ base with cmds := [cmdIn (.failed 0x10)] } : State).cmdsOf 0 0 0, m.ended = true) ∧
    ({ base with cmds := [cmdIn (.failed 0x10)] } : State).alone := by decide

/-- With port 0 bound to queue 2. -/
def bound (wr : Bool) (words : List Word) : State :=
  own (fun c => { c with squeue := c.squeue.set 2 words })
    (ctx (fun x => { x with ports := (Vector.replicate 5 none).set 0 (some { q := 2, wr := wr }) }) base)

/-- QueuePorts. -/
theorem wit_ports : (bound false [7]).source = .pc ∧ (bound false [7]).me.pend = [] ∧ (bound false [7]).me.mat = none ∧
    (bound false [7]).mine.squeue[2] = [7] ∧ (bound false [7]).first (.queueRead (bound false [7]).at_ 2) = true ∧
    (bound false []).mine.squeue[2] = [] ∧ (bound true [7, 7, 7, 7, 7, 7, 7]).mine.squeue[2].length < 8 ∧
    (bound true [7]).first (.queueWrite 0 2) = true ∧ (bound true [1, 2, 3, 4, 5, 6, 7, 8]).mine.squeue[2].length = 8 ∧
    (bound true []).me.ports = (Vector.replicate 5 none).set 0 (some { q := 2, wr := true }) := by decide

/-- A task or two in cluster 0's queue, and a deal. -/
def tasks (n : Nat) : State :=
  regs [(5, 0x400)] (big.setCluster 0 { big.cluster 0 with
    tasks := List.replicate n 0x12345, tdcfg := BitVec.ofNat 64 (100 + 70 * 2 ^ 16 + 32 * 2 ^ 32 + 64 * 2 ^ 40), tdPos := 7 })

/-- TasksAndTiles: with room for the last record, a record to take, none; a sub-tile to deal (the last), the deal done. -/
theorem wit_tasks : (tasks 31).alone ∧ (tasks 31).memOk ∧ ((tasks 31).cluster (tasks 31).clus).ringLen = 0 ∧ (tasks 31).reaches 0x400 64 ∧
    (tasks 31).clean 0x400 64 ∧ ((tasks 31).cluster 0).tasks.length < 32 ∧ (tasks 31).first (.taskRoom 0) = true ∧
    (tasks 31).first (.task 0) = true ∧ ((tasks 0).cluster 0).tasks = [] ∧ ((tasks 0).cluster 0).tdPos < 4 * 2 ∧
    fld ((tasks 0).cluster 0).tdcfg.toNat 0 16 = 100 ∧ ((tasks 0).cluster 0).tdcfg.getLsbD 48 = false := by decide

theorem wit_tasktake_direct : ∀ k < 64, (tasks 31).phys ((tasks 31).keyOf 0x400 + k) = (tasks 31).phys ((tasks 31).keyOf 0x400) + k := by
  decide

/-- A tensor map of Table 10-1. -/
def mapOf (base_ space fmt flags window : Nat) (sizes strides : List Nat) (scale : Nat) : Desc :=
  BitVec.ofNat 1024 (numOf (le 8 base_ ++ le 1 space ++ le 1 fmt ++ le 1 sizes.length ++ le 1 flags ++ le 2 window ++ le 2 0 ++
    ((sizes ++ List.replicate (8 - sizes.length) 0).flatMap (le 4)) ++ ((strides ++ List.replicate (7 - strides.length) 0).flatMap (le 8)) ++
    le 8 scale ++ le 4 0 ++ le 4 0 ++ le 4 0 ++ le 4 0))

/-- A box record of Table 11-6. -/
def boxOf (origin extent : List Nat) : List Byte :=
  ((origin ++ List.replicate (8 - origin.length) 0).flatMap (le 4)) ++ ((extent ++ List.replicate (8 - extent.length) 1).flatMap (le 2)) ++
    le 1 0xFF ++ le 1 0 ++ List.replicate 14 0

/-- Maps 2 and 3 in scratch, map 4 in HBM, a box at 0x400 and a barrier at 0x500. -/
def copies : State :=
  let s := ctx (fun x => { x with winfmt := x.winfmt.set 1 0x1C }) (mapped base)
  let s := (s.setMap 2 (mapOf 0x10000 0 0 0 1 [16, 16] [32] 0)).setMap 3 (mapOf 0x8000 0 0 0 1 [16, 16] [32] 0)
  let s := s.setMap 4 (mapOf 0x1000 1 0x1C 0 0 [16, 16] [32] 0)
  regs [(8, 0x400), (9, 0x500)] (poke 0x400 (boxOf [2, 0] [8, 3]) s)

/-- TransferCommandsEnterTheirEngine. -/
theorem wit_copy : copies.alone ∧ copies.memOk ∧ copies.me.caught = none ∧
    (match copies.captureCopy .copy 2 (some 3) 0 0x400 0x500 with
      | .ok m => copies.boxRoom m.engine && copies.first (.engine m.engine)
      | .error _ => false) = true ∧
    has (copies.captureCopy .fetch 2 (some 4) 0 0x400 0x500) = true := by decide

theorem wit_store_tier : has (copies.captureCopy .store 2 none 0 0x400 0x500) = true ∧
    has ((copies.setMap 5 (mapOf (2 ^ 54) 2 0x1C 0 0 [16, 16] [32] 0)).captureCopy .tier 5 (some 4) 0 0x400 0x500) = true := by decide

/-- A transaction barrier at 0x500 (PHASE, ARRIVE, PEND, INIT, the flags' byte and FCODE). -/
def barred (phase arrive pend init flags fcode : Nat) (token : Word) : State :=
  regs [(8, 0x500), (9, 0x400000000 + 0xFFFFF), (10, token)] (poke 0x500
    (le 16 (phase + arrive * 2 ^ 4 + pend * 2 ^ 28 + init * 2 ^ 68 + flags * 2 ^ 88 + fcode * 2 ^ 100)) base)

/-- TransferBarriers: the greatest count and scope, and each out of range; arrivals left, the last, none; each phase. -/
theorem wit_txb : (barred 0 2 0 2 0 0 0).alone ∧ (barred 0 2 0 2 0 0 0).reaches 0x500 16 ∧ (barred 0 2 0 2 0 0 0).clean 0x500 16 ∧
    ((barred 0 2 0 2 0 0 0).me.reg 9).toNat % 2 ^ 32 < 2 ^ 20 ∧ ((barred 0 2 0 2 0 0 0).me.reg 9).toNat / 2 ^ 32 ≤ 4 ∧
    2 ≤ barArrive ((barred 0 2 0 2 0 0 0).load 0x500 16) ∧ barArrive ((barred 0 1 0 2 0 0 0).load 0x500 16) = 1 ∧
    barPend ((barred 0 1 0 2 0 0 0).load 0x500 16) = 0 ∧ barPend ((barred 0 1 64 2 0 0 0).load 0x500 16) ≠ 0 ∧
    barArrive ((barred 0 0 0 2 0 0 0).load 0x500 16) = 0 ∧
    barPhase ((barred 1 2 0 2 0 0 0).load 0x500 16) ≠ ((barred 1 2 0 2 0 0 0).me.reg 10).toNat % 16 ∧
    bitOf (barFlags ((barred 1 2 0 2 0 0 0).load 0x500 16)) 0 = false ∧
    barPhase ((barred 0 2 0 2 0 0 16).load 0x500 16) = ((barred 0 2 0 2 0 0 16).me.reg 10).toNat % 16 ∧
    bitOf (barFlags ((barred 1 2 0 2 1 0x10 0).load 0x500 16)) 0 = true ∧ barFcode ((barred 1 2 0 2 1 0x10 0).load 0x500 16) ≠ 0x18 := by
  decide

/-- A map with PUBLISH and entries of the publish table. -/
def shadow (entry other : Option Pub) : State :=
  let s := base.setMap 2 (mapOf 0x10000 0 0 0x20 1 [16, 16] [32] 0)
  regs [(8, 0x200020000)] (s.setCluster 0 { s.cluster 0 with pub := ((s.cluster 0).pub.set 0 other).set 3 entry })

/-- ShadowBuffers: a map that may be opened, an equal entry, another entry, an entry at an odd and an even GEN, none. -/
theorem wit_shopen : (shadow none none).alone ∧
    ((shadow none none).map 2).fault [(0x08, ((shadow none none).map 2).space != 0), (0x0B, !((shadow none none).map 2).publish)] = none ∧
    (shadow none none).userRange 0x10000 128 = true ∧ (shadow none none).userRange 0x20000 128 = true ∧
    ((shadow (some { front := 0x10000, back := 0x20000, len := 2, gen := 1 }) none).cluster 0).same 0x10000 0x20000 2 = some 3 ∧
    ((shadow none (some { front := 0x30000, back := 0x38000, len := 2, gen := 0 })).cluster 0).same 0x10000 0x20000 2 = none ∧
    ((shadow none (some { front := 0x30000, back := 0x38000, len := 2, gen := 0 })).cluster 0).clashes 0x10000 0x20000 128 = false := by
  decide

theorem wit_publish : ((shadow none none).map 2).fault [] = none ∧ ((shadow none none).cluster 0).atFront 0x10000 = none ∧
    ((shadow (some { front := 0x10000, back := 0x20000, len := 2, gen := 1 }) none).cluster 0).atFront 0x10000 =
      some (3, { front := 0x10000, back := 0x20000, len := 2, gen := 1 }) ∧
    (shadow (some { front := 0x10000, back := 0x20000, len := 2, gen := 1 }) none).holds 0 0 (.backWrites 0 3) = true ∧
    (1 : BitVec 16).getLsbD 0 = true ∧ (2 : BitVec 16).getLsbD 0 = false := by decide

/-- PopulationCommands: a population record, one past its limits (zeros); a MIGRATE and a MUTCOPY descriptor. -/
def popState : State :=
  regs [(8, 0x400), (9, 0x500)] (poke 0x400 (le 1 1 ++ le 1 0x1C ++ le 2 3 ++ le 4 8 ++ le 4 0x1000 ++ le 4 0x40 ++ le 4 0x8000 ++
    le 4 5 ++ le 4 9 ++ le 1 3 ++ le 1 0 ++ le 1 7 ++ le 1 0 ++ le 8 0x100 ++ le 4 64 ++ List.replicate 20 0) (mapped base))

theorem wit_popcmd : popState.alone ∧ popState.me.caught = none ∧ popState.reaches 0x400 64 ∧ popState.clean 0x400 64 ∧
    popOk (BitVec.ofNat 512 (popState.load 0x400 64)) = true ∧ popState.boxRoom .atelier = true ∧ popState.first (.engine .atelier) = true ∧
    popOk (BitVec.ofNat 512 (popState.load 0x600 64)) = false := by decide

/-- A migration descriptor at 0x400 that names package `pk`. -/
def migState (pk : Nat) : State :=
  regs [(8, 0x400), (9, 0x500)] (poke 0x400 (le 2 pk ++ le 2 0 ++ le 4 0 ++ le 4 0x1000 ++ le 4 128 ++ le 4 0x8000 ++ le 1 0x1C ++ le 3 0 ++
    le 4 5 ++ le 4 9 ++ le 4 3 ++ le 1 4 ++ le 1 5 ++ List.replicate 26 0) (mapped base))

theorem wit_migrate : (∃ pk ∈ [1, 64], (match (migState pk).captureMig false 0x400 0 with
      | .ok m => (migState pk).boxRoom m.engine && (migState pk).first (.engine m.engine)
      | .error _ => false) = true) ∧
    (∃ pk ∈ [1, 64], has ((migState pk).captureMig true 0x400 0x500) = true) := by decide


/-- TensorMapInstructions: a valid map in scratch and one in HBM with a header to read, an empty slot, each end of the selectors. -/
def mapsState : State :=
  let s := mapped base
  let s := (s.setMap 2 (mapOf 0x10000 0 0 0 1 [16, 16] [32] 0x600)).setMap 3 (mapOf 0x1000 1 0x1C 0 0 [16, 16] [32] 0x1100)
  device 0x11100 [1, 2, 3, 4] (regs [(8, 0x400)] s)

theorem wit_maps : mapsState.alone ∧ mapsState.memOk ∧ mapsState.reachesRun 0x400 128 8 ∧ mapsState.sound (mapsState.keyOf 0x400) 128 = true ∧
    mapField 0 = some (0, 8) ∧ (mapField 25).isSome = true ∧
    mapField 26 = none ∧ (mapsState.map 4).fault [] ≠ none ∧ (mapsState.map 2).fault [] = none ∧ (mapsState.map 2).space = 0 ∧
    mapsState.reaches (BitVec.ofNat 64 (mapsState.map 2).scale) 8 ∧ mapsState.clean (BitVec.ofNat 64 (mapsState.map 2).scale) 8 ∧
    (mapsState.map 3).fault [] = none ∧ (mapsState.map 3).space = 1 ∧ (mapsState.map 3).scale < 2 ^ 55 ∧
    mapsState.asked = none ∧ mapsState.walkerFree mapsState.dieOf = true ∧
    mapsState.boxRoom (mapsState.headerCmd (mapsState.map 3)).engine = true ∧
    mapsState.first (.engine (mapsState.headerCmd (mapsState.map 3)).engine) = true := by decide

theorem wit_map_direct : ∀ i < 128, mapsState.phys (mapsState.keyOf 0x400 + i) = mapsState.phys (mapsState.keyOf 0x400) + i := by decide

/-- TileMoves: a BF16 tile at 0x10000 wholly inside its map, one with an edge, one whose bounds trap, a pair. -/
def tileState (flags : Nat) (size0 : Nat) : State :=
  let s := ctx (fun x => { x with winfmt := x.winfmt.set 1 0x1C, mfmt := 0x1C }) base
  (s.setMap 2 (mapOf 0x10000 0 0 flags 1 [size0, 16] [64] 0x600)).setMap 3 (mapOf 0x10000 0 0 flags 1 [size0, 16] [64] 0x600)

theorem wit_tile : (tileState 0 16).alone ∧ (4 : Fin 16).val % 2 = 0 ∧ (∀ q ∈ groupRegs 4 2, (tileState 0 16).mayV q) ∧
    has ((tileState 0 16).tile 2 false false false 0) = true ∧ has ((tileState 0 12).tile 2 true false false 0) = true ∧
    has ((tileState 0 16).loadSlot ((tileState 0 16).map 2) false 0) = true ∧
    ((tileState 0 16).map 2).fault (wloadOwn ((tileState 0 16).map 2)) = none := by decide

theorem wit_tile_stored : (match (tileState 0 1).tile 2 true false false 0 with
    | .ok (m, es) => has (storeTiles m ((tileState 0 1).me.tileFmt false) ((tileState 0 1).me.vnum 4 1) es)
    | .error _ => false) = true := by decide

/-- The bounds of this map are both 0 and trap, and every element stored is 1.0. -/
theorem wit_tile_bound : (match ((vecs [(4, packed 16 (List.replicate 256 0x3F80))] (tileState 0 1)).setMap 2
        (mapOf 0x10000 0 0 0x14 1 [1, 16] [64] 0x600)).tile 2 true false false 0 with
    | .ok (m, es) => (match storeTiles m bf16 (packed 16 (List.replicate 256 0x3F80)) es with
      | .error (.trap t) => t.cause == .bound
      | _ => false)
    | .error _ => false) = true := by decide

/-- MatrixResults, OnlineSoftmax: a full slot of BF16 and of integers, an empty one, each accumulator type. -/
def matState (mfmt : BitVec 6) (fmt : BitVec 6) (valid : Bool) (kn : Nat) : State :=
  own (fun c => { c with wbuf := c.wbuf.set 5 { c.wbuf[5] with valid := valid, fmt := fmt, kn := BitVec.ofNat 8 kn } })
    (ctx (fun x => { x with mfmt := mfmt }) base)

theorem wit_mma : (matState 0x1C 0x1C true 16).alone ∧ (matState 0x1C 0x1C true 16).mine.wbuf[5].valid = true ∧
    ((matState 0x1C 0x1C true 16).me.tileFmt false).isInt = (matState 0x1C 0x1C true 16).me.mfmt.getLsbD 5 ∧
    (16 * 2 ^ (0 : BitVec 2).toNat = min (natK ((matState 0x1C 0x1C true 16).me.tileFmt false).bits)
      (matState 0x1C 0x1C true 16).mine.wbuf[5].kn.toNat) ∧
    (matState 0x3F 0x1E true 32).me.mfmt.getLsbD 5 = true ∧ ((matState 0x3F 0x1E true 32).me.tileFmt false).isInt = true ∧
    (32 = min (natK ((matState 0x3F 0x1E true 32).me.tileFmt false).bits) (matState 0x3F 0x1E true 32).mine.wbuf[5].kn.toNat) ∧
    (matState 0x1C 0x1C false 16).mine.wbuf[5].valid = false ∧ (matState 0x1C 0x1C true 16).mayV (evenOf 7) ∧
    (matState 0x1C 0x1C true 16).mayV (oddOf 7) ∧ (matState 0x1C 0x1C true 16).me.mfmt.getLsbD 5 = false := by decide

/-- VectorIntegerLanes, VectorFloatingLanes, VectorMovesAndCompares, VectorScansAndReductions: every element type. -/
theorem wit_types : base.alone ∧ (∀ d : Fin 16, base.mayV d) ∧ (∀ e : Fin 12, has (base.me.elem e.val) = true) := by decide

theorem wit_kinds : (match base.me.elem 4 with | .ok t => t.isInt | .error _ => false) = true ∧
    (match base.me.elem 8 with | .ok t => !t.isInt | .error _ => false) = true ∧
    (match base.me.elem 11 with | .ok t => !t.isInt && t.bits == 8 | .error _ => false) = true := by decide

/-- VectorWidening: a widening and a narrowing conversion, a wide type, groups that start where they may. -/
theorem wit_widening : (∃ e ∈ List.range 12, (wideOf (BitVec.ofNat 4 e)).isSome = true) ∧ (4 : Fin 16).val % 4 = 0 ∧
    (∀ q ∈ groupRegs 4 4, base.mayV q) ∧ (∀ q ∈ groupRegs 12 4, base.mayV q) ∧ has (base.me.elem 6) = true := by decide

/-- VectorMemoryAccess: elements that may be reached through window 0 and a converting one; a failing element; every lane. -/
def vmemState : State := two (ctx (fun x => { x with winfmt := x.winfmt.set 2 0x03 }) base)

theorem wit_vmem : vmemState.alone ∧ has (vmemState.contigElems fp32 (vmemState.me.pred 1) 0x200 0) = true ∧
    has (vmemState.contigElems fp32 (vmemState.me.pred 1) 0x04000100 0) = true ∧
    has (vmemState.stridedElems fp32 (vmemState.me.pred 1) 0x200 8) = true ∧
    has (vmemState.gatherElems (.int 32 true) (vmemState.me.pred 1) 0x200 0x500000003) = true ∧
    (match vmemState.contigElems fp32 (vmemState.me.pred 1) 0x7FFFC 0 with | .error (.trap _) => true | _ => false) = true ∧
    (match vmemState.contigElems fp32 (vmemState.me.pred 1) 0x202 0 with | .error (.trap t) => t.cause == .misalign | _ => false) = true := by
  decide

theorem wit_vmem_sound : (match vmemState.contigElems fp32 (vmemState.me.pred 1) 0x200 0 with
      | .ok es => has (vmemState.soundElems es)
      | .error _ => false) = true ∧ winNo 0x200 = 0 ∧
    (∀ k < 128, lane (vmemState.me.pred 1) k = true → vmemState.reaches (0x200 + BitVec.ofNat 64 (4 * k)) 4 ∧
      vmemState.clean (0x200 + BitVec.ofNat 64 (4 * k)) 4) := by decide

/-- LocalWitnessedReductions: distinct and equal registers, a clamp of three and of four. -/
theorem wit_witness : base.mayV 12 ∧ base.mayV 6 ∧ (12 : Fin 16) ≠ 6 ∧ (2 : BitVec 4) ≠ 3 ∧ (8 : Fin 16).val + (3 : BitVec 4).toNat < 16 ∧
    (∀ q ∈ groupRegs 8 4, base.mayV q) ∧ (15 : Fin 16).val + (0 : BitVec 4).toNat < 16 := by decide

/-- A group of two slices, a handle of slice 0 at 0x800 in state `st`, and maps to reduce. -/
def grp (joins : List Join) : Group :=
  { num := 7, desc := 0x400, job := 0, ptbase := 1, asid := 3, slices := 2, slice := [(0, false), (0, true)], view := 3, live := [0],
    commitSeq := 0, joins := joins, ops := [], joinsHeard := [], away := [], hold := none, stuckAt := none, told := false }

/-- Slice 0's own record. -/
def slice0 (joining rejoining : Bool) : Join :=
  { slice := 0, core := 0, slot := 0, panel := 1, handle := 0x800, joining := joining, rejoining := rejoining, rejoinAt := 77 }

def collState (st : Nat) (joins : List Join) : State :=
  let s := { mapped base with groups := [grp joins] }
  let s := device 0x10400 ((grp joins).bytes.take 0x14) s
  let s := poke 0x800 (le 4 2 ++ le 2 9 ++ le 2 0 ++ le 2 1 ++ le 1 0 ++ le 1 2 ++ le 4 0x500 ++ le 8 0x400 ++ le 4 5 ++ le 4 st ++ le 4 3 ++
    List.replicate 28 0) s
  let s := ctx (fun x => { x with winfmt := x.winfmt.set 1 0x1C }) s
  let s := (s.setMap 2 (mapOf 0x10000 0 0 0 1 [4, 3] [32] 0)).setMap 3 (mapOf 0x8000 0 0 0 1 [4, 3] [32] 0)
  let s := (s.setMap 4 (mapOf 0x9000 0 0 0x40 0 [4, 3] [32] 0)).setMap 5 ((mapOf 0xA000 0 0 0x40 0 [4, 3] [32] 0).put 0x7C 4 82)
  regs [(8, 0x800)] s

/-- CollectiveCommandsEnterTheirEngine: a sum, a witnessed maximum. -/
theorem wit_collective : (collState 1 []).alone ∧ (collState 1 []).memOk ∧ (collState 1 []).me.caught = none ∧
    (match (collState 1 []).captureColl 0 2 3 none 0x800 with
      | .ok m => m.bar.isSome && (collState 1 []).boxRoom m.engine && (collState 1 []).first (.engine m.engine)
      | .error _ => false) = true ∧
    has ((collState 1 []).captureColl 1 2 3 (some 4) 0x800) = true := by decide

theorem wit_collective_more : has ((collState 1 []).captureColl 5 2 3 none 0x800) = true ∧
    has (((collState 1 []).setMap 3 (((collState 1 []).map 3).put 0x7C 4 82)).captureColl 6 2 3 (some 5) 0x800) = true := by decide

/-- CollectiveMembership: a handle in each state, a view to read, a slice that may join, joined and waiting, a rejoin. -/
theorem wit_handles : (∀ st ∈ [0, 1, 2, 3, 4], (match (collState st []).handle 0x800 with | .ok x => x.st == st | .error _ => false) = true) ∧
    (match (collState 0 []).handle 0x800 with
      | .ok x => has ((collState 0 []).readView x.desc) && (collState 0 []).sliceHere x && (collState 0 []).inScope x &&
          (collState 0 []).mayJoin x
      | .error _ => false) = true := by decide

theorem wit_rejoin : (∀ r ∈ [true, false], (match (collState 4 [slice0 false r]).handle 0x800 with
      | .ok x => decide (x.slice < x.grp.slices) && (x.grp.joins.find? (fun j => j.slice == x.slice &&
          (collState 4 [slice0 false r]).ownJoin x j && (j.rejoining || x.st == 4))).isSome
      | .error _ => false) = true) ∧ (collState 4 []).dieLive (collState 4 []).dieOf = true ∧
    (collState 1 [slice0 false false]).holds 0 0 (.left 7 0) = true := by decide

theorem wit_handle_direct : ∀ i < 64, (collState 1 []).phys (0x800 + i) = 0x800 + i := by decide


/-- Runs an event, and stays where the event answers no next state. -/
def after_ (o : Host.Outcome State Fault Refusal) (s : State) : State :=
  match o with
  | .next u => u
  | _ => s

/-- Context 0 of core 0 waits on `w`. -/
def waitingOn (w : Wait) (s : State) : State := ctx (fun x => { x with run := .blocked, wait := some { on := w, since := 0, start := 0 } }) s

/-- The waiting context issues its instruction at the pc. -/
def mayGo (s : State) : Bool :=
  let t : State := { s.aged 0 (s.eligible (issueNow exec) 0) 0 with actor := 0, slot := 0, source := .pc, turn := 1 }
  s.me.run.waits && s.panelIssues 0 0 && !s.coreDown 0 && has t.nextAtPc && decide (s.me.pend = [])

/-- ContextEvents: a wait that is over for each kind of event, one whose lock bit another context holds, an entry that waits. -/
theorem wit_wait : (∀ w ∈ [Wait.sources, .lock 0 0, .monitor (some 0), .engine (.xfu 0)],
      mayGo (waitingOn w base) = true ∧ (waitingOn w base).holds 0 0 w = true) ∧
    (waitingOn (.lock 0 0) (own (fun c => { c with locks := [(0, 3)] }) base)).holds 0 0 (.lock 0 0) = false := by decide

theorem wit_wait_enqueue : (waitingOn (.engine (.xfu 0)) (ctx (fun x => { x with caught := some (cmdIn .queued) }) base)).boxRoom
      (cmdIn .queued).engine = true ∧
    ({ word := 0x00083383, compact := false, a := 1, b := 2, d := 0 } : Entry).instr = some (.add false 4 3 7) := by decide

/-- ContextEvents: a MAT result, a yield that is over, a held completion word. -/
def eventful : State :=
  { ctx (fun x => { x with mat := some { vs := [(3, 5)], zs := [], flags := 1 }, yieldUntil := 4, compHeld := [5] }) base with cycle := 4 }

theorem wit_context : eventful.me.mat.isSome = true ∧ eventful.me.yieldUntil ≠ 0 ∧ eventful.me.yieldUntil ≤ eventful.cycle ∧
    eventful.me.compHeld = [5] ∧ eventful.me.compq.length < 16 := by decide

/-- A message from slot 2 of core 1, of panel `p`. -/
def msgOf (p : Nat) : Msg :=
  { h0 := BitVec.ofNat 64 (40 * 2 ^ 28), h1 := 0x55, payload := List.replicate 40 0xAB, panel := p, cross := false, src := 1, srcSlot := some 2,
    at_ := 0 }

/-- Core 0, with slot 0 Dormant, whose class 0 has a routine, is offered a message. -/
def offered (p st : Nat) (inbox : List Msg) : State :=
  let s := own (fun c => { c with
    offers := [msgOf p], inbox := inbox, routine := c.routine.set 0 (BitVec.ofNat 64 (2 ^ 63 + 0x1000 + 7 * 2 ^ 29))})
    (ctx (fun x => { x with run := .dormant, wait := none }) base)
  { s with panels := s.panels.map fun (q : Panel) => { q with state := st } }

/-- MessageAdmission: refused for its panel; no room; admitted to an activation; kept by a panel that is HELD. -/
theorem wit_admit : ((offered 2 2 []).refuses 0 (msgOf 2)).isSome = true ∧ (offered 1 2 []).refuses 0 (msgOf 1) = none ∧
    ((offered 1 2 (List.replicate 64 (msgOf 1))).core 0).room 40 = false ∧ ((offered 1 2 []).core 0).room 40 = true ∧
    ((offered 1 2 []).panelAt 0).map Panel.dispatches = some true ∧ (((offered 1 2 []).core 0).slotFor (msgOf 1)).isSome = true ∧
    ((offered 1 3 []).panelAt 0).map Panel.dispatches = some false ∧ (offered 1 3 []).refuses 0 (msgOf 1) = none := by decide

/-- Cluster 0 starves beside a cluster 1 with three records, one without STEALOK. -/
def starved : State :=
  let s := (waitingOn (.task 0) base)
  let s : State := { s with cycle := 100000, panels := s.panels.map fun (p : Panel) => { p with w := 16, h := 8 } }
  let s := s.setCluster 0 { s.cluster 0 with starveAt := some 97952 }
  s.setCluster 1 { s.cluster 1 with tasks := [3, 5, 8, 7] }

/-- Donation: to ask, to serve, to append. -/
theorem wit_donation : starved.starving 0 = true ∧ (starved.nextVictim 0).isSome = true ∧ (starved.cluster 1).tqSize = 0 ∧
    (starved.setCluster 0 { starved.cluster 0 with asking := true, victim := some 1 }).cluster 0 =
      { starved.cluster 0 with asking := true, victim := some 1 } ∧
    ((starved.cluster 0).tqSize = 0 ∧ (starved.cluster 0).tasks.length < 32) := by decide

/-- A COPY captured by the XFU. -/
def copying : State := after_ (exec (.copy 8 2 3 9) copies) copies

/-- EngineCommandEvents: its plan; without a cached translation, the page to walk. -/
theorem wit_engine_start : (match copying.nextCmd (.xfu 0) with
      | some m => decide (m.kind = .copy) && (match (copying.leaveBox m).planOf m with
        | .ok r => decide (r.pieces ≠ []) && decide (r.fail = none)
        | .error _ => false)
      | none => false) = true := by decide

/-- A FETCH from HBM, of which no translation is cached. -/
def walking : State :=
  let s := after_ (exec (.fetch 8 2 4 9) copies) copies
  s.setCore 0 { s.core 0 with tlb := [] }

theorem wit_engine_walk : (match walking.cmds with
      | [m] => (walking.nextCmd m.engine).isSome && decide (m.kind = .fetch) && !has ((walking.leaveBox m).planOf m)
      | _ => false) = true := by decide

/-- A running command with two sectors of one byte each into core 0's scratch, without a barrier. -/
def oneCmd (n : Nat) : Cmd :=
  { cmdIn .running with
    sectors := (List.range n).map fun i => { n := i, puts := [{ key := 0x8000 + 32 * i, mask := 0xFF, val := 7 }], target := some 0, credit := 2, flags := 0 }
    total := 2 }

def sectored (n st : Nat) : State :=
  { base with cmds := [oneCmd n], panels := base.panels.map fun p => { p with state := st } }

/-- EngineCommandEvents: a sector, the last one, one whose panel no longer serves. -/
theorem wit_sector : (sectored 2 2).sectorFault (oneCmd 2).toPanel (((oneCmd 2).sectors).getD 0 { n := 0, puts := [], target := none, credit := 0, flags := 0 }) = none ∧
    (oneCmd 2).sectors.filter (fun (y : Sector) => y.n != 0) ≠ [] ∧ (oneCmd 1).sectors.filter (fun (y : Sector) => y.n != 0) = [] ∧
    ((sectored 2 6).sectorFault (oneCmd 2).toPanel (((oneCmd 2).sectors).getD 0 { n := 0, puts := [], target := none, credit := 0, flags := 0 })).isSome = true := by
  decide

/-- EngineCommandEvents: a page walk that finds its page cached, one that finds none; an easel's message. -/
theorem wit_walk : has ((mapped base).translate 0 1 3 0x10 false) = true ∧ has ((mapped base).translate 0 1 3 0x10000 false) = false ∧
    ((base.setDie 0 { base.die 0 with easelBox := (base.die 0).easelBox.set 1 [msgOf 1] }).nextCmd (.easel 0 1)).isNone = true ∧
    ((base.setDie 0 { base.die 0 with easelBox := (base.die 0).easelBox.set 1 [msgOf 1] }).die 0).easelBox[1] ≠ [] := by decide

/-- EngineCommandEvents: the same fault of a command with a barrier. -/
theorem wit_sector_barrier : ({ sectored 2 6 with cmds := [{ oneCmd 2 with bar := some 0x500 }] } : State).cmd 9 =
      some { oneCmd 2 with bar := some 0x500 } ∧
    (({ sectored 2 6 with cmds := [{ oneCmd 2 with bar := some 0x500 }] } : State).sectorFault ({ oneCmd 2 with bar := some 0x500 } : Cmd).toPanel
      { n := 0, puts := [{ key := 0x8000, mask := 0xFF, val := 7 }], target := some 0, credit := 2, flags := 0 }).isSome = true := by decide

/-- A migration to core 0 whose sectors are all written; class 4 has a routine. -/
def migrating : State :=
  let s := after_ (exec (.migrate 8) (migState 0)) (migState 0)
  let s := own (fun c => { c with rxctx := 0xC0, routine := c.routine.set 4 (BitVec.ofNat 64 (2 ^ 63 + 0x1000 + 7 * 2 ^ 29)) }) s
  { s with cmds := s.cmds.map fun (m : Cmd) => { m with state := CmdState.running, srcRead := true, sectors := [], pages := [] } }

/-- PopulationAndCollectiveEvents: the message of a finished migration, admitted; refused by a panel that serves no more. -/
theorem wit_migration : (match migrating.cmds with
      | [m] =>
        let msg := engineMsg m.engine m.targetPanel m.target (m.mig 0x24 1) (m.mig 0x25 1) (migrating.delivered m)
        decide (m.kind = .migrate) && decide (m.mig 0x02 2 = migrating.pkgid.toNat) && (migrating.core m.target).room 64 &&
          (migrating.refuses m.target msg).isNone &&
          (({ migrating with panels := migrating.panels.map fun (p : Panel) => { p with state := 6 } } : State).refuses m.target msg).isSome
      | _ => false) = true := by decide

/-- Four cores of a panel with fitness, and a POPCMD at the Atelier of `n` losers. -/
def evolving (n : Nat) : State :=
  let m : Cmd :=
    { cmdIn .running with
      kind := .popcmd, engine := .atelier
      box := BitVec.ofNat 512 (numOf (le 1 1 ++ le 1 0x1C ++ le 2 n ++ le 4 8 ++ le 4 0x1000 ++ le 4 0x40 ++ le 4 0x8000 ++
        le 4 5 ++ le 4 9 ++ le 1 3 ++ le 1 0 ++ le 1 7 ++ le 1 0 ++ le 8 0x100 ++ le 4 64 ++ List.replicate 20 0)) }
  let s := [0, 1, 2, 3].foldl (fun (s : State) i => s.setCore i { s.core i with
    panelId := 1, fitgen := 8, fitness := BitVec.ofNat 32 (0x3F800000 + i) }) base
  let s : State := { s with cmds := [m], atelierBox := [9] }
  let entry (i : Nat) : Pub := { front := i * 2 ^ 19 + 0x8000, back := i * 2 ^ 19 + 0x10000, len := 1, gen := 3 }
  s.setCluster 0 { s.cluster 0 with pub := Vector.ofFn fun i => if i.val < 4 then some (entry i.val) else none }

/-- PopulationAndCollectiveEvents: rounds with and without pairs. -/
theorem wit_round : (evolving 1).round = none ∧ ((evolving 1).atelierHead.map (·.kind)) = some .popcmd ∧
    (match (evolving 1).atelierHead, (evolving 1).panel 1 with
      | some m, some p => decide (pairsOf ((evolving 1).ranked p (rec64 m.box 0x04 4)) (rec64 m.box 0x02 2) (rec64 m.box 0x14 4) ≠ [])
      | _, _ => false) = true ∧
    (match (evolving 0).atelierHead, (evolving 0).panel 1 with
      | some m, some p => decide (pairsOf ((evolving 0).ranked p (rec64 m.box 0x04 4)) (rec64 m.box 0x02 2) (rec64 m.box 0x14 4) = [])
      | _, _ => false) = true := by decide

/-- The round has begun and no context runs: pair 0 may start; then its copy has ended. -/
def paired : State :=
  let s := after_ (exec .atelierRoundStart (evolving 1)) (evolving 1)
  [0, 1, 2, 3].foldl (fun (s : State) i => s.setCtx i 0 { (s.ctx i 0) with run := .dormant, wait := none, pend := [] }) s

def pairCopied : State :=
  let s := after_ (exec (.pairQuiesced 0) paired) paired
  { s with cmds := s.cmds.map fun (m : Cmd) => if m.kind = .pair 0 then { m with state := CmdState.done } else m }

theorem wit_pair : (match paired.pairAt 0 with
      | some (m, _, p) => !p.quiesced && paired.isReady (.pairQuiesced 0) && !paired.coreDown p.loser && !paired.coreDown p.winner &&
          (paired.pairEntry m p).isSome
      | none => false) = true := by decide

theorem wit_pair_done : (match pairCopied.pairAt 0, pairCopied.pairCmd 0 with
      | some (m, _, p), some c => decide (c.state = .done) && pairCopied.isReady (.pairCopyDone 0) && (pairCopied.pairEntry m p).isSome
      | _, _ => false) = true := by decide

/-- The group with an operation of number 4, not started. -/
def grpOp : Group := { grp [] with ops := [{ opseq := 4, arrived := [], started := false, ended := false }] }

/-- PopulationAndCollectiveEvents: a leader's operation to start, a partial of the view, one of an older view. -/
theorem wit_cle : ({ base with groups := [grpOp] } : State).group_ 7 = some grpOp ∧ grpOp.hold = none ∧
    (∃ i ∈ ({ base with groups := [grpOp] } : State).presentSlices grpOp grpOp.live 4, i ∉ ([] : List Nat)) ∧
    viewOlder 3 grpOp.view = false ∧ viewOlder 2 grpOp.view = true ∧ grpOp.joins = [] := by decide

/-- Die 1 of three members in view 3, at cycle `t`, with what it has heard, suspects, and its own record. -/
def member1 (t : Nat) (f : Die → Die) (y : Member) (g : Group) : State :=
  let s : State := { base with
    cycle := t, groups := [g], jobs := [{ num := 0, open_ := true, kept := [] }]
    dies := Vector.ofFn fun i => { base.dies[i] with stage := DieStage.live } }
  s.setDie 1 (f { s.die 1 with members := [y] })

def grp3 : Group := { grp [] with slices := 3, slice := [(0, false), (1, false), (5, false)], live := [0, 1, 2] }
def proposal : Proposal := { view := 4, members := [0, 1], proposer := 0, fromSeq := 0 }
def mine (bound : Option (Proposal × Nat)) (p : Option Proposing) : Member :=
  { grp := 7, view := 3, live := [0, 1, 2], bound := bound, proposing := p }
def proposed (acks : List Nat) (sentAt : Nat) (refused : Bool) : Proposing :=
  { prop := { view := 4, members := [1, 2], proposer := 1, fromSeq := 0 }, acks := acks, sentAt := sentAt, abandoned := false, refused := refused }

/-- ViewAgreement: heartbeats, a follower's and a proposer's suspicion. -/
theorem wit_view_beats : (member1 100000 id (mine none none) grp3).dieLive 1 = true ∧ (member1 100000 id (mine none none) grp3).member 1 = 1 ∧
    ((member1 100000 id (mine none none) grp3).die 1).lastBeat + 6400 ≤ 100000 ∧
    SMap.get ((member1 100000 id (mine none none) grp3).die 1).heard 0 2 + 32000 ≤ 100000 ∧
    2 ∉ ((member1 100000 id (mine none none) grp3).die 1).suspects ∧ 0 ∈ (mine none none).live ∧ (0 : Nat) < 1 ∧
    (∀ m ∈ (mine none none).live.filter (fun m => !([0] : List Nat).contains m), 1 ≤ m) ∧
    (∃ m ∈ (mine none none).live.filter (fun m => !([0] : List Nat).contains m), m ≠ 1) := by decide

/-- ViewAgreement: a proposal of another view, one to acknowledge, one that meets another binding. -/
theorem wit_view_proposals : (member1 0 id (mine none none) grp3).memberOf 1 7 = some (mine none none) ∧ (5 : BitVec 32) ≠ nextView 3 ∧
    proposal.view = nextView 3 ∧ proposal.proposer ≤ leaderOf ((member1 0 id (mine none none) grp3).trusted 1 (mine none none)) ∧
    (proposed [1] 0 false).prop.proposer ≠ proposal.proposer := by decide

/-- ViewAgreement: the acknowledgements, a refusal, the time-outs, a binding that expires, a commit. -/
theorem wit_view_votes : 2 ∈ (proposed [1] 0 false).prop.members ∧ 2 ∉ (proposed [1] 0 false).acks ∧
    (∃ m ∈ (proposed [] 0 false).prop.members, m ≠ 2 ∧ m ∉ (proposed [] 0 false).acks) ∧
    (∀ m ∈ (proposed [1] 0 false).prop.members, m = 2 ∨ m ∈ (proposed [1] 0 false).acks) ∧
    (mine none none).live.length < 2 * (proposed [1] 0 false).prop.members.length ∧ grp3.ops = [] ∧
    (proposed [1] 0 false).prop.view = nextView grp3.view ∧ (0 : Nat) + 32000 ≤ 40000 ∧ (proposed [1] 0 true).refused = true ∧
    (∃ m ∈ (mine none none).live, m ∉ ([] : List Nat) ∧ m < 1) ∧ viewOlder 3 4 = true := by decide

/-- ViewAgreement: no majority for 1 ms, a slice that leaves, one that joins, a rejoin to commit. -/
theorem wit_view_groups : (member1 1700000 id (mine none none) { grp3 with stuckAt := some 0 }).openOps { grp3 with stuckAt := some 0 } = [] ∧
    grp3.slice[1]? = some (1, false) ∧ 1 ∈ grp3.live ∧ 1 ∉ grp3.away ∧ grp3.slice[2]? = some (5, false) ∧ 5 ∉ grp3.live ∧
    2 ∉ grp3.joinsHeard ∧ grp3.hold = none ∧
    (member1 0 id (mine none none) { grp3 with joinsHeard := [2], hold := some 0 }).isReady (.rejoinCommit 7) = true ∧
    (∀ m ∈ grp3.live, m < 4096) := by decide

/-- Powered, with dies of stage `st`, at cycle `t`, and a score for an object. -/
def scored (o : ScoreObj) (value : Nat) (due testing : Bool) : State :=
  let s : State := { base with cycle := 17000000000, power := true }
  s.setScore o { value := BitVec.ofNat 16 value, due := due, dueAt := 0, testing := testing }

/-- HealthEvents: below the threshold, at it, a test to start, to wait for too long, to end. -/
theorem wit_scores : (scored (.core 0) 254 false false).power = true ∧ ((scored (.core 0) 254 false false).scoreOf (.core 0)).value.toNat + 1 < 256 ∧
    256 ≤ ((scored (.core 0) 255 false false).scoreOf (.core 0)).value.toNat + 1 ∧
    ((scored (.core 900) 256 true false).scoreOf (.core 900)).due = true ∧ (scored (.core 900) 256 true false).testable (.core 900) = true ∧
    ((scored (.core 0) 256 true false).panelAt 0).map Panel.dispatches = some true ∧ objCore (.core 0) = some 0 ∧
    ((scored (.core 0) 256 true false).scoreOf (.core 0)).dueAt + 16000000000 ≤ (scored (.core 0) 256 true false).cycle ∧
    ((scored (.core 0) 256 true true).scoreOf (.core 0)).testing = true ∧ base.panelAt 900 = none ∧
    (scored (.core 0) 0 false false).lastHalf < (scored (.core 0) 0 false false).cycle / (1600 * 2 ^ 20) := by decide

/-- HealthEvents: a live die and one silent for 100 µs, a die with power to lose, a lost one. -/
def silent (st : DieStage) : State := ({ base with cycle := 200000, master := some 0, power := true } : State).setDie 1 { base.die 1 with stage := st }

theorem wit_dies : base.dieLive 0 = true ∧ (silent .live).undeclared 1 = true ∧ (∃ w < 8, (silent .live).watches w 1 = true ∧
      SMap.get ((silent .live).die w).heard 0 ((silent .live).member 1) + 160000 ≤ (silent .live).cycle) ∧
    ((silent .live).die 1).stage ≠ .off ∧ ((silent .lost).die 1).stage = .lost := by decide

/-- AdaptiveLoops: a drift that lasts, one that lasts no month, a panel that dispatches. -/
theorem wit_adaptive : (scored (.core 0) 0 false false).power = true ∧ ([2100, 1900, 1700, 1600] : List Nat)[(3 : Fin 4).val]? = some 1600 ∧
    (50 : Nat) ≤ 50 ∧ LinkId.ucie 0 1 ≠ .threeD 0 true ∧ (base.panelAt 0).map Panel.dispatches = some true := by decide

/-- A packet of two flits from core 0 to core 1025. -/
def packet (injected : Bool) (held : List Nat) (delivered : Bool) (attempts : Nat) : Packet :=
  { id := 4, src := 0, dst := 1025, psn := 4, body := .message (msgOf 1), data := List.replicate 40 0xAB, injected := injected, held := held
    delivered := delivered, attempts := attempts, sentAt := 0, firstAt := 0 }

def sending (p : Packet) : State := { base with packets := [p], cycle := 52000 }

/-- LinksAndPackets: a packet to inject, its first and last flit, to acknowledge, to send again, to give up. -/
theorem wit_packets : (sending (packet false [] false 0)).isReady (.packetInject 4) = true ∧ (packet true [0] false 1).held.length + 1 = 2 ∧
    (packet true [] false 1).held.length + 1 ≠ (packet true [] false 1).flits ∧ (sending (packet true [] false 1)).packet 4 = some (packet true [] false 1) ∧
    (sending (packet true [] false 1)).cycle < (packet true [] false 1).firstAt + 1600000 ∧
    (packet true [] false 1).sentAt + 51200 ≤ (sending (packet true [] false 1)).cycle ∧ 8 ≤ (packet true [] false 8).attempts ∧
    (packet true [] false 8).body = .message (msgOf 1) ∧ (msgOf 1).srcSlot = some 2 ∧ (packet true [0, 1] true 1).delivered = true := by decide

/-- A link with two flits not acknowledged. -/
def linked (naks trains : List Nat) (retraining : Bool) : State :=
  { base with cycle := 60000 }.setLink (.ucie 0 1) { expect := 3, send := 5, retry := [{ lseq := 3, pk := 4, flits := [0, 1], void := false }, { lseq := 4, pk := 5, flits := [0], void := false }], naks := naks, retraining := retraining, trains := trains }

/-- LinksAndPackets: flits received, naks, a retrain; circuits coming up and going down; ports. -/
theorem wit_links : (((linked [] [] false).link (.ucie 0 1)).retry.find? (fun (q : Retry) => q.lseq == 3)).isSome = true ∧
    ((linked [] [] false).link (.ucie 0 1)).retraining = false ∧ ((linked [] [] false).link (.ucie 0 1)).disabled = false ∧
    (([] : List Nat).filter (fun (t : Nat) => decide (60000 ≤ t + 1600))).length < 2 ∧
    2 ≤ (((linked [59000, 59500] [] false).link (.ucie 0 1)).naks.filter (fun (t : Nat) => decide (60000 ≤ t + 1600))).length ∧
    2 ≤ (((linked [] [0, 50] true).link (.ucie 0 1)).trains.filter (fun (t : Nat) => decide (60000 ≤ t + 160000))).length ∧
    circState 1 = 1 ∧ circState 3 = 3 := by decide

/-- LinksAndPackets: the fabric, to this package, over a circuit, to a package that no circuit reaches. -/
def ported (pkg : Nat) : State := { base with portsOpen := true, pkgid := 5, circuits := [(0, BitVec.ofNat 128 (2 + 16 * 2 ^ 6 + pkg * 2 ^ 48))] }

theorem wit_fabric : (ported 7).portsOpen = true ∧ (ported 7).pkgid.toNat = 5 ∧ hdrKind (msgOf 1).h0 = 0 ∧ ((ported 7).circuitTo 7).isSome = true ∧
    (7 : Nat) ≠ (ported 7).pkgid.toNat ∧ (ported 7).circuitTo 9 = none ∧ (scored (.core 0) 0 false false).power = true ∧
    (3 : Fin 8).val ∉ base.portsDown := by decide

/-- A request of job 0 on panel 1, and a state that hears it, whose panel is in state `st`. -/
def reqOf (panel : Nat) (payload : List Byte) (a b : Nat) : Req :=
  { job := 0, tag := 9, panel := panel, status := 0, len := payload.length, arg0 := BitVec.ofNat 64 a, arg1 := BitVec.ofNat 64 b, reserved := 0, payload := payload }

def hears (st : Nat) (s : State) : State :=
  { s with portsOpen := true, jobs := [{ num := 0, open_ := true, kept := [] }], panels := s.panels.map fun (p : Panel) => { p with state := st } }

def collecting (why : HoldFor) (waiting : List Engine) : State :=
  let s := hears 2 { base with cycle := 200000, cmds := [cmdIn .running] }
  { s with panels := s.panels.map fun (p : Panel) => { p with collect := some { why := why, waiting := waiting, startAt := 0, from_ := 2, before := [] } } }

/-- HoldsSavesAndCheckpoints: an acknowledgement of one of two engines, of the last, a collection past 100 µs. -/
theorem wit_holds : (collecting .test [.xfu 0, .ske 0]).stoppedAt 1 (.xfu 0) = true ∧ ((collecting .test [.xfu 0, .ske 0]).panel 1).isSome = true ∧
    (∃ x ∈ [Engine.xfu 0, .ske 0], x ≠ .xfu 0) ∧ (collecting (.host (reqOf 1 [] 0 0)) [.ske 0]).stoppedAt 1 (.ske 0) = true ∧
    (0 : Nat) + 160000 ≤ (collecting (.host (reqOf 1 [] 0 0)) [.ske 0]).cycle ∧
    ((collecting (.host (reqOf 1 [] 0 0)) [.ske 0]).panel 1).map (·.waiting) = some [] := by decide

/-- Page tables that map the first 32 GiB of virtual addresses to the first 32 GiB of stack 0, and bytes before them. -/
def pageAt (bs : List Host.Cell) (s : State) : State :=
  { s with mem := [(0, 0x83), (1, 0x33), (2, 0x08)] ++ bs ++ [(deviceBase + 0x4000, 0x01), (deviceBase + 0x4001, 0x60), (deviceBase + 0x6000, 0x0F)] }

/-- The save that a descriptor asks for. -/
def savingOf (restore : Bool) (length : Nat) : Saving :=
  { restore := restore, va := 0, space := 1, length := length, seq := 0, cursor := 0, issuer := none, dst := 0, rq := some (reqOf 1 [] 0 0), cycle := 0 }

def saving (st : Nat) (restore : Bool) (length : Nat) : State :=
  let s := hears st (pageAt [] base)
  { s with panels := s.panels.map fun (p : Panel) => { p with saving := some (savingOf restore length), ptbase := 0x4001, asid := 3 } }

/-- HoldsSavesAndCheckpoints: a save that meets nothing, one whose descriptor is too short. -/
theorem wit_saving : (match (saving 4 false 0x4000000).savingAt 1 false with
      | some (p, v) => decide (v.issuer = none) && v.rq.isSome && ((saving 4 false 0x4000000).saveStopAt p v (imageLen p p.parked.length)).isNone
      | none => false) = true ∧
    (match (saving 4 false 0x1000).savingAt 1 false with
      | some (p, v) => (match (saving 4 false 0x1000).saveStopAt p v (imageLen p p.parked.length) with
        | some (o, r) => decide (o < 2 ^ 40) && decide (r < 4)
        | none => false)
      | none => false) = true := by decide

/-- HoldsSavesAndCheckpoints: a restore under another panel, one whose image is not there. -/
theorem wit_restoring : (match ({ saving 5 true 0 with panels := (saving 5 true 0).panels ++ [{ onePanel with num := 2, state := 2 }] } : State).savingAt 1 true with
      | some (p, v) => decide (v.issuer = none) && v.rq.isSome && decide (p.state = 5) &&
          ({ saving 5 true 0 with panels := (saving 5 true 0).panels ++ [{ onePanel with num := 2, state := 2 }] } : State).overlapped p
      | none => false) = true ∧
    (match (saving 5 true 0).savingAt 1 true with
      | some (p, _) => !((saving 5 true 0).overlapped p)
      | none => false) = true := by decide

theorem wit_restoring_none : (match ({ saving 5 true 0 with mem := [] } : State).savingAt 1 true with
      | some (p, v) => (({ saving 5 true 0 with mem := [] } : State).restoreImage p v).isNone
      | none => false) = true := by decide

/-- After that save: its image. -/
def resaved : State :=
  let s := after_ (execSaveComplete 1 (saving 4 false 0x4000000)) (saving 4 false 0x4000000)
  { s with panels := s.panels.map fun (p : Panel) => { p with saving := some (savingOf true 0) } }

/-- HoldsSavesAndCheckpoints: a launch answered in full. -/
theorem wit_launched : (let s : State := { base with panels := base.panels.map fun (p : Panel) => { p with launch := some { rq := reqOf 1 [] 0 0, left := 0, refused := 0 } } }
    (s.panel 1).map (fun (p : Panel) => p.launch.map Launch.left) = some (some 0) ∧ (s.panel 1).map (·.launches) = some []) := by decide

/-- A checkpoint of no panel into tier segments 0 to 8. -/
def checking (timedOut failed : Bool) : State :=
  { hears 2 base with
    tiers := (List.range 9).map (fun (k : Nat) => (k, (0, k)))
    checkpoint := some { rq := reqOf 0 [] 0 0, seg := 0, seq := 1, cycle := 0, holding := [], mine := [], killed := [], timedOut := timedOut, failed := failed } }

theorem wit_checkpoint : (checking false false).checkpoint.isSome = true ∧ (checking false false).memOk ∧
    (∀ i < 9, (match (checking false false).segment i with
      | some (_, port) => decide (port ∉ (checking false false).portsDown)
      | none => false) = true) := by decide

/-- Dies at stages, die 0 the master. -/
def stages (st : DieStage) (f : State → State) : State :=
  f (({ base with power := true, linksUp := true, srs := false, master := none } : State).setDie 0 { base.die 0 with stage := st })

/-- BringUpAndReset. -/
theorem wit_bringup : State.reset.power = false ∧ ((stages .rom id).die 0).stage = .rom ∧ ({ State.reset with power := true } : State).linksUp = false ∧
    (stages .heard id).linksUp = true ∧ (stages .heard id).master = none ∧ (∃ d : Fin 8, ((stages .heard id).die d.val).stage = .heard) ∧
    (stages .heard (fun s => { s with master := some 0 })).master.isSome = true ∧
    ((stages .imaged (fun s => { s with firmware := [1] })).die 0).stage = .imaged ∧ accepts 0 [1] = false ∧
    (stages .imaged (fun s => { s with master := some 1, firmware := [1] })).master ≠ some 0 ∧
    ((stages .verified (fun s => { s with master := some 0 })).die 0).stage = .verified ∧
    (∀ d : Fin 8, ((stages .verified id).die d.val).stage ≠ .imaged) := by decide

/-- A routine image of four text bytes with a routine of class 2. -/
def image : RoutineImage :=
  { text := le 4 0x008000FB, dataOff := 0x100, data := [], regions := [], routines := [{ cls := 2, key := 0, slotLo := 0, slotHi := 3, offset := 0 }] }

/-- With the image loaded as handle 7. -/
def loaded (st : Nat) : State :=
  let s := hears st base
  { s with images := [{ handle := 7, panel := 1, img := image }] }

/-- A launch of 2 × 3 units of class 2. -/
def launchBlock (cls : Nat) : List Byte :=
  le 4 1 ++ le 1 0 ++ le 1 0 ++ le 1 1 ++ le 1 0 ++ le 1 cls ++ le 1 2 ++ le 2 0 ++ le 4 0 ++ le 4 2 ++ le 4 3 ++ le 4 1 ++ le 4 0 ++ le 8 7 ++
    List.replicate 24 0

/-- PanelRequests: heard and sound; of no panel, of another job's; an image that fits; a launch without fault and with. -/
theorem wit_requests : (hears 2 base).heard (reqOf 1 [] 0 0) = true ∧ Req.sound (reqOf 1 [] 0 0) (some 0) = true ∧ (hears 2 base).panel 9 = none ∧
    ((hears 2 base).panel 1).map (·.job) = some 0 ∧ ({ reqOf 1 [] 0 0 with job := 1 } : Req).job ≠ 0 ∧
    ({ hears 2 base with jobs := [{ num := 1, open_ := true, kept := [] }] } : State).heard { reqOf 1 [] 0 0 with job := 1 } = true ∧
    imageFits image = true ∧ Req.sound (reqOf 1 (launchBlock 2) 0 0) none = true ∧ (launchBlock 2).length = 64 + blk (launchBlock 2) 0x0A 2 ∧
    ((hears 2 base).panel 1).map (·.launch) = some none := by decide

set_option maxRecDepth 100000 in
theorem wit_launch : (match (loaded 2).panel 1 with
      | some p => decide ((loaded 2).launchFault { p with launches := [] } (launchBlock 2) = none) &&
          ((loaded 2).launchFault { p with launches := [] } (launchBlock 3)).isSome
      | none => false) = true := by decide +kernel

/-- PanelRequests: to read and to write scratch and HBM, and out of range. -/
theorem wit_read : (match (hears 2 base).panel 1 with
      | some p => has ((hears 2 base).hostKeys p (reqOf 1 (List.replicate 32 7) 0x100 0) true) &&
          !has ((hears 2 base).hostKeys p (reqOf 1 (List.replicate 32 7) (2 ^ 19 - 16) 0) true)
      | none => false) = true ∧
    (match (saving 2 false 0).panel 1 with
      | some p => has ((saving 2 false 0).hostKeys p (reqOf 1 (List.replicate 32 7) 0x100 1) true)
      | none => false) = true := by decide

/-- PanelRequests: a panel collected, not engaged, engaged; a save descriptor. -/
theorem wit_host_holds : ((collecting .test []).panel 1).map (fun (p : Panel) => p.collect.isSome) = some true ∧
    ((hears 3 base).panel 1).map (hears 3 base).engaged = some false ∧ ((saving 3 false 0).panel 1).map (saving 3 false 0).engaged = some true ∧
    Req.sound (reqOf 1 (le 8 0 ++ le 8 1 ++ le 8 0x4000000 ++ le 4 7 ++ List.replicate 36 0) 0 0) (some 64) = true ∧
    saveDescOk (BitVec.ofNat 512 (numOf (le 8 0 ++ le 8 1 ++ le 8 0x4000000 ++ le 4 7 ++ List.replicate 36 0))) = true := by decide

/-- The first 32 MiB of address space 3 lie at the start of stack 0. -/
def page0 : TlbEntry := { asid := 3, va := 0, size := 0x2000000, pa := 0, rd := true, wr := true, key := deviceBase, eng := .ske 0 }

/-- A SAVED panel whose image header has format `f`. -/
def saved1 (f : Byte) : State :=
  let s := hears 5 (own (fun c => { c with tlb := [page0] }) base)
  { s with
    mem := [(deviceBase, f), (deviceBase + 4, 1), (deviceBase + 10, 2), (deviceBase + 11, 2), (deviceBase + 0xFF8, 1)]
    panels := s.panels.map fun (p : Panel) => { p with ptbase := 0x4001, asid := 3 } }

theorem saved1_reach (f : Byte) (a : Nat) (h : a < 0x1000) :
    (saved1 f).reach 0 0x4001 3 a false = .ok (page0.keyOf a, saved1 f) ∧ (saved1 f).poisoned (page0.keyOf a) = false := by
  have hc : (saved1 f).cached 0 3 a false = some page0 := by
    show List.find? _ [_] = _
    simp [List.find?, TlbEntry.hits, page0, show a < 0x2000000 by omega]
  exact ⟨State.reach_cached (by decide) hc rfl, rfl⟩

set_option maxRecDepth 100000 in
/-- PanelRequests: a SAVED panel whose header has the shape, and one whose header has not. -/
theorem wit_host_restore : ∀ f ∈ [1, 2], ∃ p h, (saved1 f).panel 1 = some p ∧ (saved1 f).overlapped p = false ∧ (saved1 f).engaged p = false ∧
    (saved1 f).readVa 0 p.ptbase p.asid 0 0x1000 = .ok (h, saved1 f) ∧ ((saved1 f).shapeFault p h).isNone = (f == 1) := by
  intro f hf
  refine ⟨_, _, rfl, rfl, rfl, State.readVa_cached 0x1000 0 fun a _ h => saved1_reach f a (by omega), ?_⟩
  revert f
  decide

/-- A view descriptor of one slice on member 0. -/
def viewBytes : List Byte :=
  le 4 0x1 ++ le 4 0 ++ le 2 1 ++ le 2 1 ++ le 2 0 ++ le 2 0 ++ le 4 0 ++ List.replicate 44 0 ++ le 1 1 ++ List.replicate 511 0 ++ le 2 0

set_option maxRecDepth 100000 in
theorem viewBytes_live : (groupOf (reqOf 1 viewBytes 0x400 0) 5 onePanel).live = [0] := by
  have hd : viewBytes.drop 0x40 = 1 :: List.replicate 513 0 := by decide
  have h : ∀ i < 512, blk viewBytes (0x40 + i) 1 = if i = 0 then 1 else 0 := by
    intro i hi
    rw [blk, ← List.drop_drop, hd]
    cases i with
    | zero => rfl
    | succ i =>
      rw [List.drop_succ_cons, List.drop_replicate, List.take_replicate, Nat.min_eq_left (by omega), if_neg (by omega)]
      rfl
  have h8 : ∀ k < 8, bitOf 1 k = (k == 0) := by decide
  have h0 : ∀ k < 8, bitOf 0 k = false := by decide
  have e : ∀ m ∈ List.range 4096, bitOf (blk viewBytes (0x40 + m / 8) 1) (m % 8) = (m == 0) := by
    intro m hm
    have hm := List.mem_range.1 hm
    rw [h (m / 8) (by omega)]
    split
    · rw [h8 _ (by omega), Nat.mod_eq_of_lt (by omega)]
    · rw [h0 _ (by omega)]
      exact (beq_eq_false_iff_ne.2 (by omega)).symm
  show (List.range 4096).filter (fun m => bitOf (blk viewBytes (0x40 + m / 8) 1) (m % 8)) = [0]
  rw [List.filter_congr e]
  decide

/-- PanelRequests: a group to make, in mapped memory. -/
theorem wit_group : Req.sound (reqOf 1 viewBytes 0x400 0) none = true ∧
    groupOk (reqOf 1 viewBytes 0x400 0) (groupOf (reqOf 1 viewBytes 0x400 0) 5 onePanel) = true := by
  refine ⟨by decide, ?_⟩
  simp only [groupOk, viewBytes_live]
  decide

/-- PanelRequests: every byte of the first 4 KiB is mapped. -/
theorem wit_group_mapped (va : Nat) (h : va < 0x1000) : ∃ e, (saving 2 false 0).walk 0x4001 3 va false = .ok e := by
  have h1 : va / 2 ^ (45 - 10 * 0) % 2 ^ 10 = 0 := by rw [Nat.div_eq_of_lt (by omega)]; rfl
  have h2 : va / 2 ^ (45 - 10 * 1) % 2 ^ 10 = 0 := by rw [Nat.div_eq_of_lt (by omega)]; rfl
  have e1 : pteOf (Memory.read (saving 2 false 0).mem (deviceBase + 0x4000 + 8 * 0) 8) =
      { valid := true, leaf := false, rd := false, wr := false, pa := 0x6000, reserved := false } := by decide
  have e2 : pteOf (Memory.read (saving 2 false 0).mem (deviceBase + 0x6000 + 8 * 0) 8) =
      { valid := true, leaf := true, rd := true, wr := true, pa := 0, reserved := false } := by decide
  have h3 : (saving 2 false 0).walkFrom va false (3 + 1) 0 0x4000 = (saving 2 false 0).walkFrom va false (2 + 1) 1 0x6000 := by
    rw [State.walkFrom, State.served_low (by decide), h1]
    dsimp only
    rw [e1]
    rfl
  have h4 : (saving 2 false 0).walkFrom va false (2 + 1) 1 0x6000 = .ok (0, 2 ^ 35, true, true) := by
    rw [State.walkFrom, State.served_low (by decide), h2]
    dsimp only
    rw [e2]
    rfl
  have h5 : (saving 2 false 0).walkFrom va false 4 0 (fld (0x4001 : Word).toNat 13 34 * 2 ^ 13) = .ok (0, 2 ^ 35, true, true) := h3.trans h4
  refine ⟨{ asid := 3, va := va - va % 2 ^ 35, size := 2 ^ 35, pa := 0, rd := true, wr := true, key := deviceBase, eng := .ske 0 }, ?_⟩
  rw [State.walk, h5, if_neg (by decide), if_neg (by omega)]
  dsimp only
  rw [State.served_low (by omega)]
  rfl


/-- PanelRequests: a MAP with a reserved bit, one out of range, one over a leaf, one of a new page. -/
theorem wit_map : fld 1 0 2 ≠ 0 ∧ 2 ^ 55 ≤ (2 ^ 55 : Word).toNat ∧ fld (2 ^ 25 + 0x1C) 4 2 = 1 ∧ fld (2 ^ 25 + 0x1C) 0 2 = 0 ∧
    fld (2 ^ 25 + 0x1C) 13 34 * 2 ^ 13 = 2 ^ 25 ∧ malformed (2 ^ 25) = false ∧
    (match (saving 2 false 0).panel 1 with
      | some p => !has ((saving 2 false 0).putLeaf 0 (2 ^ 25) (2 ^ 25 + 0xF) p 2 0 0x4000) &&
          has ((saving 2 false 0).putLeaf 0 (2 ^ 35) (2 ^ 35 + 0xF) p 1 0 0x4000)
      | none => false) = true := by decide

/-- PackageRequests: a place for the root, a rectangle that fits and one that overlaps. -/
theorem wit_free_table : ∃ root, base.freeTable 0 = some root := by
  have h : (base.freeTable 0).isSome = true := by
    simp only [State.freeTable, List.find?_isSome]
    exact ⟨0 * 2 ^ 36 + 2 ^ 36 - 2 ^ 30 + 8192 * 0, List.mem_map.2 ⟨0, List.mem_range.2 (by decide), rfl⟩, by decide⟩
  exact Option.isSome_iff_exists.1 h

theorem wit_create : (hears 2 base).panelFits (newPanel (reqOf 0 [] 0x02020000 0) 5 0 9) = false ∧
    (hears 2 base).panelFits (newPanel (reqOf 0 [] 0x02020004 0) 5 0 9) = true ∧ fld 0x02020004 40 24 = 0 ∧
    coreAt (fld 0x02020004 0 8) (fld 0x02020004 8 8) / 1024 = 0 := by decide

/-- PackageRequests: a pattern, a tier segment, a circuit, health records, a checkpoint's segments. -/
theorem wit_package : Req.sound (reqOf 0 (List.replicate 256 7) 0 0) (some 256) = true ∧ fld 0x3F 6 2 = 0 ∧ base.dieLive (fld 0x3F 8 3) = true ∧
    fld (2 ^ 36 + 7) 3 33 = 0 ∧ fld 0x102 0 8 = 2 ∧ fld 0x102 8 4 < 8 ∧ Req.sound (reqOf 0 (List.replicate 32 7) 0 0) (some 32) = true ∧
    (∀ i < 9, ((checking false false).segment (0 + i)).isSome = true) ∧ base.segment 3 = none ∧ base.checkpoint = none ∧
    ((hears 2 base).jobs.find? (fun (j : Job) => j.num == 0)).isSome = true ∧ (hears 2 base).jobs.find? (fun (j : Job) => j.num == 1) = none := by
  decide

theorem wit_circuit : (∃ e ∈ [0x401, 0x4001, 0x10401], circuitOk (BitVec.ofNat 128 e) = true ∧ circState (BitVec.ofNat 128 e) = 1) := by decide

/-- RepeatForms: the repeated ADD at the pc plus 2. -/
theorem wit_repeat : base.alone ∧ (Instr.add false 4 3 7).repCheck 1 4 = none ∧ (Instr.add false 4 3 7).repCheck 1 27 ≠ none ∧
    (poke 0x1002 (le 4 0x00083383) (ctx (fun x => { x with pc := 0x1000, rep := some { n := 4, mask := 1, idx := 2 } }) base)).fetch 0x1002 =
      .ok (.add false 4 3 7) ∧ (.cNop : Instr).len = 2 := by decide

/-- StepRunsDecodedInstruction: the context that a step picks; a word to run, one only for S mode, one that decodes to nothing; a replayed entry. -/
theorem wit_step : base.urgent = [] ∧ State.due (State.outside { base with choices := base.choices.drop 1 } base.choice) = [] ∧ base.inputs = [] ∧
    (let t := (State.outside { base with choices := base.choices.drop 1 } base.choice).pass base.choice
    t.nextCore (issueNow exec) base.choice.pick = some 0 ∧ t.best 0 (t.eligible (issueNow exec) 0) = some 0) := by decide

theorem wit_step_words : base.fetchFault base.me.pc = none ∧ base.sound (base.keyOf base.me.pc) 2 = true ∧
    base.load (base.keyOf base.me.pc) 2 % 2 = 1 ∧ base.fetchFault (base.me.pc + 2) = none ∧ base.sound (base.keyOf (base.me.pc + 2)) 2 = true ∧
    (base.me.pc.toNat + 2) % 2 ^ 19 ≠ 0 ∧ has (decode32 0x00083383) = true ∧ has (decode32 0xFFFFFFFF) = false ∧
    (match decode32 0x0080007B with | .ok i => i.sOnly | .error _ => false) = true ∧ has (decode16 0x0026) = true ∧
    has (decode16 0xFFFE) = false := by decide

/-- EncodeDecodeRoundTrip, MemoryKeptByEveryStep. -/
theorem wit_encode : (Instr.add false 4 3 7).isInstr = true ∧ (Instr.add false 4 3 7).wf = true ∧
    decode (bytesOf 4 0x00083383) = .ok (.add false 4 3 7, 4) := by decide

theorem wit_memory : State.reset.memOk ∧ goesTo (fun _ => true) (step base) = true := by decide

/-! ## Further hypotheses -/

/-- AccessTrapsInOrder, TileMoves, Loads: an uncorrectable error at an address in reach. -/
theorem wit_unclean : ({ base with poison := [0x10] } : State).inPanel (base.keyOf 0x200 / 2 ^ 19) = true ∧
    ({ base with poison := [0x10] } : State).permits (base.keyOf 0x200) (min 4 (2 ^ 19 - base.keyOf 0x200 % 2 ^ 19)) = true ∧
    (0x200 : Word).toNat % 4 = 0 ∧ ¬({ base with poison := [0x10] } : State).clean 0x200 4 ∧ base.clean 0x200 4 ∧
    sup.inPanel (sup.clus * 64 + (0x20000404 - 0x20000000) / 8 / 128) = true ∧ (0x20000404 : Nat) % 8 ≠ 0 := by decide

/-- FencesBarriersMonitor: a source not yet read; an early return that the outside has chosen. -/
theorem wit_fence_waits : ({ base with cmds := [cmdIn .queued] } : State).holds 0 0 .sources = false ∧
    ({ base with cmds := [cmdIn .queued] } : State).alone ∧
    (ctx (fun x => { x with mon := some { line := 8, early := true } }) base).me.mon = some { line := 8, early := true } := by decide

/-- QueueAndBarrierConfiguration: a ring that fits, one that does not, one not aligned; a queue in use, a SIZE past 12. -/
theorem wit_ring : big.alone ∧ (big.inPanel (big.clus * 64 + 0x1000 / 2 ^ 19) = true ∧ (0x1000 : Nat) % 2 ^ 19 + 64 * 2 ^ 4 ≤ 0x70000) ∧
    ¬((0x6FFC0 : Nat) % 2 ^ 19 + 64 * 2 ^ 4 ≤ 0x70000) ∧ (0x1010 : Nat) % 64 ≠ 0 ∧ ((tasks 1).cluster (tasks 1).clus).tasks ≠ [] ∧
    ¬((0x1A000000 : Word).toNat / 2 ^ 25 % 16 ≤ 12) := by decide

/-- ReturnFromTrap: a record whose EPC is a repeat's prefix, with repetitions left, with none but an entry, with none. -/
def repRecord (idx rqn : Nat) : State :=
  poke sup.recKey (le 8 0x1000 ++ le 2 0x000E ++ le 1 rqn ++ le 1 0 ++ le 1 4 ++ le 1 idx)
    (poke (sup.recKey + 0x100) (if rqn = 0 then [] else [0xA3, 0x34, 0x1A, 0x00]) (poke 0x1000 (le 2 0x50E2 ++ le 4 0x00083383) sup))

theorem wit_eret_repeat : ∀ e ∈ [(2, 0), (4, 1), (4, 0)], (repRecord e.1 e.2).alone ∧ (repRecord e.1 e.2).me.pmode = false ∧
    (repRecord e.1 e.2).recFault ((repRecord e.1 e.2).bytes sup.recKey 0x300) = none ∧
    ((repRecord e.1 e.2).byte (sup.recKey + 0x0C)).toNat = 4 ∧ ((repRecord e.1 e.2).byte (sup.recKey + 0x0D)).toNat = e.1 ∧
    ((repRecord e.1 e.2).byte (sup.recKey + 0x0A)).toNat = e.2 := by decide

/-- TranslationInvalidation: an access still to perform through what is removed. -/
theorem wit_tlbinv_waits : ∃ m ∈ ({ sup with cmds := [{ oneCmd 1 with walked := [page] }] } : State).cmds,
    m.panel = onePanel.num ∧ m.uses none none = true := by decide

/-- QuiesceResumeAndKill: a down core; a stopped context of a panel that dispatches; a launch under way and one that waits. -/
theorem wit_quiesce_more : (sup.setCluster 0 { sup.cluster 0 with retired := true }).coreDown 1 = true ∧
    ((sup.setCtx 1 1 { sup.ctx 1 1 with run := .stopped }).ctx 1 1).run = .stopped ∧
    (sup.panelAt 1).map Panel.dispatches = some true ∧
    ({ onePanel with launch := some { rq := reqOf 1 [] 0 0, left := 1, refused := 0 }, launches := [reqOf 1 [] 0 0] } : Panel).launches ≠ [] := by
  decide


/-- SendingMessages: each engine's KIND in S mode; KIND 1 in U mode; a payload past its core, outside the user range, misaligned; a 17th. -/
theorem wit_send_kinds : (∀ k ∈ [1, 2, 3, 4, 5, 6], hdrKind (BitVec.ofNat 64 (1 + k * 2 ^ 13)) = k ∧ hdrDest (BitVec.ofNat 64 (1 + k * 2 ^ 13)) = 1 ∧
      sup.boxRoom (engineOf k 1) = true ∧ sup.first (.engine (engineOf k 1)) = true) ∧ sup.me.mode = true ∧ engineOf 6 1 = .easel 0 1 ∧
    base.me.mode = false ∧ ¬(base.keyOf 0x7FFF8 % 2 ^ 19 + 16 ≤ 2 ^ 19) ∧ base.permits (base.keyOf 0x71000) 16 = false ∧
    base.inPanel (base.keyOf 0x404 / 2 ^ 19) = true ∧ base.permits (base.keyOf 0x404) 16 = true ∧ (0x404 : Word).toNat % 8 ≠ 0 := by decide

theorem wit_send_full : 16 ≤ ({ base with packets := (List.range 16).map fun i =>
    { packet true [] false 1 with id := i, body := .message { msgOf 1 with src := 0, srcSlot := some 0 } } } : State).outstanding 0 0 := by decide

/-- EndingAnActivation: a message to an engine that the engine has not taken yet. -/
theorem wit_endh_send : ∀ m ∈ ({ base with cmds := [{ cmdIn .queued with kind := .send 2 }] } : State).cmdsOf 0 0 0,
    m.kind.isSend = true ∧ m.ended = false ∧ m.state ≠ .done := by decide

/-- TasksAndTiles: a full queue with a ring and without one; a cluster that is shared. -/
def ringed (size : BitVec 4) : State :=
  (tasks 32).setCluster 0 { (tasks 32).cluster 0 with tqSize := size, tqBase := 0x2000 }

theorem wit_task_ring : (ringed 4).alone ∧ ((ringed 4).cluster 0).ringLen = 0 ∧ ((ringed 4).cluster 0).tasks.length = 32 ∧
    ((ringed 4).cluster 0).tqSize ≠ 0 ∧ (ringed 4).first (.taskRoom 0) = true ∧ ((ringed 0).cluster 0).tasks.length = 32 ∧
    ((ringed 0).cluster 0).tqSize = 0 ∧ onePanel.hasCluster 0 = false ∧ base.reaches 0x400 64 ∧ base.clean 0x400 64 := by decide

theorem wit_task_ring_direct : ∀ k < 64, (ringed 4).phys ((ringed 4).ringKey 0 0 + k) = (ringed 4).phys ((ringed 4).ringKey 0 0) + k := by
  decide

/-- ShadowBuffers: ranges that clash; a table that is full; writes of the back buffer still to come. -/
def fullTable : Cluster :=
  let pub (i : Fin 16) : Pub := { front := 0x30000 + 0x1000 * i.val, back := 0x50000 + 0x1000 * i.val, len := 1, gen := 0 }
  { base.cluster 0 with pub := Vector.ofFn fun i => some (pub i) }

def published (cmds : List Cmd) : State :=
  let s := shadow (some { front := 0x10000, back := 0x20000, len := 2, gen := 1 }) none
  { s with cmds := cmds }

theorem wit_shopen_refused : ((shadow none (some { front := 0x30000, back := 0x20000, len := 2, gen := 0 })).cluster 0).clashes 0x10000 0x20000 128 = true ∧
    (∀ k : Fin 16, fullTable.pub[k] ≠ none) ∧ fullTable.same 0x10000 0x20000 2 = none ∧
    (published [{ oneCmd 1 with fronts := [3] }]).holds 0 0 (.backWrites 0 3) = false := by decide

/-- PopulationCommands: a record of a MIGRATE past its limits (zeros). -/
theorem wit_migrate_refused : ∀ mu : Bool, popState.migOk (BitVec.ofNat 512 (popState.load 0x600 64)) mu = false ∧
    popState.reaches 0x600 64 ∧ popState.clean 0x600 64 := by decide

/-- MatrixResults, OnlineSoftmax: a slot of another K, of another kind; a faulty unit; an odd VA. -/
theorem wit_mat_format : (matState 0x1C 0x1C true 12).mine.wbuf[5].valid = true ∧
    16 * 2 ^ (0 : BitVec 2).toNat ≠ min (natK ((matState 0x1C 0x1C true 12).me.tileFmt false).bits) (matState 0x1C 0x1C true 12).mine.wbuf[5].kn.toNat ∧
    (matState 0x1C 0x1E true 16).me.mfmt.getLsbD 5 ≠ decide (0x1E ≤ (matState 0x1C 0x1E true 16).mine.wbuf[5].fmt.toNat) ∧
    (own (fun c => { c with badMat := true }) (matState 0x1C 0x1C true 16)).mine.badMat = true ∧
    (matState 0x1C 0x1C true 16).mine.badMat = false ∧ (3 : Fin 16).val % 2 = 1 := by decide

/-- CollectiveMembership: a CJOIN that completes and one that waits; a CLEAVE that waits; a CREJOIN to register. -/
def joinState (r : Bool) (live : List Nat) : State :=
  { collState 0 [] with groups := [{ grp [] with slice := [(0, false), (0, r)], live := live }] }

theorem wit_join_waits : ∀ r ∈ [true, false], ((match (joinState r [0]).handle 0x800 with
    | .ok x => decide (x.st = 0) && (joinState r [0]).sliceHere x && (joinState r [0]).inScope x && (joinState r [0]).mayJoin x &&
        (((joinState r [0]).setGroup (x.grp.putJoin { (joinState r [0]).joinOf x with joining := true })).holds 0 0 (.joined x.grp.num) == r)
    | .error _ => false) = true) := by decide

theorem wit_rejoin_asks : (match (joinState true [1]).handle 0x800 with
    | .ok x => (x.grp.joins.find? (fun j => j.slice == x.slice && (joinState true [1]).ownJoin x j && (j.rejoining || x.st == 4))).isNone &&
        decide (x.st = 0) && decide ((joinState true [1]).member (joinState true [1]).dieOf ∉ x.grp.live) &&
        (x.grp.slice[x.slice]?).any (fun e => e.1 == (joinState true [1]).member (joinState true [1]).dieOf)
    | .error _ => false) = true := by decide

theorem wit_leave_waits : ({ collState 1 [] with cmds := [{ oneCmd 1 with kind := .cbcast, grp := 7, slice := 0 }] } : State).holds
    0 0 (.left 7 0) = false := by decide

/-- ContextEvents: the core chooses the context that waits. -/
theorem wit_chosen : (waitingOn (.lock 0 0) base).chosen 0 = some 0 ∧ (waitingOn (.monitor (some 0)) base).chosen 0 = some 0 := by decide

/-- MessageAdmission: a message of an engine's that is refused. -/
theorem wit_admit_back : ({ msgOf 2 with back := some (1, 0, 5) } : Msg).cmd = none ∧
    ((offered 2 2 []).refuses 0 { msgOf 2 with back := some (1, 0, 5) }).isSome = true ∧ (msgOf 2).back = none ∧ (msgOf 2).launch = none := by decide

/-- Donation: a victim with nothing to ship, and one with a ring. -/
theorem wit_donation_none : ((starved.cluster 1).tasks.drop 2).filter (fun (r : BitVec 512) => r.getLsbD 0) ≠ [] ∧
    (([2, 4] : List (BitVec 512)).filter (fun r => r.getLsbD 0)) = [] ∧ (starved.cluster 1).tasks.length ≤ 32 := by decide

/-- EngineCommandEvents: a walk under way; an easel core's message. -/
theorem wit_walking : ({ base with
      cmds := [{ oneCmd 1 with pages := [(0x8000, false)] }]
      dies := base.dies.set 0 { base.die 0 with walks := [(9, 0x8000)] } } : State).walking 9 = true := by decide

/-- PopulationAndCollectiveEvents: a MIGRATE whose message is still to be sent, and its message offered. -/
theorem wit_migrate_message : (match migrating.cmds with
    | [m] => decide (m.sent = false) && decide (m.kind = .migrate) && decide ((migrating.migMsg m).cmd = some m.id) &&
        (match (migrating.setCore m.target { migrating.core m.target with offers := [migrating.migMsg m] }).core m.target with
          | k => decide (k.offers = [migrating.migMsg m])) && (migrating.cmd m.id).isSome
    | _ => false) = true := by decide

/-- ViewAgreement: what has come round the ring (19 R359). -/
def heardOf (e : Due) (s : State) : State := { s with ring := [(2, e)] }

theorem wit_ring_comes : ∀ e ∈ [Due.heartbeatReceive 1 2, .viewProposalReceive 1 7 proposal, .viewAckReceive 1 7 2 4, .viewRefusalReceive 1 7 0 4,
      .commitReceive 1 7 proposal, .joinReceive 7 1],
    e ∈ ringHeads [] (heardOf e (member1 0 id (mine none none) grp3)).ring ∧ (heardOf e (member1 0 id (mine none none) grp3)).dieLive 1 = true ∧
    (heardOf e (member1 0 id (mine none none) grp3)).memberOf 1 7 = some (mine none none) ∧
    (heardOf e (member1 0 id (mine none none) grp3)).group_ 7 = some grp3 := by decide

/-- ViewAgreement: a commit to take over; a JOIN of a die that is not live, one of a live die, each of a member in the view and of one out of it. -/
theorem wit_view_commit : (∀ m ∈ ({ prop := proposal, acks := [], sentAt := 0, abandoned := false, refused := false } : Proposing).prop.members,
      m ∉ ((member1 0 id (mine none none) grp3).die 1).suspects) ∧ viewOlder (mine none none).view proposal.view = true ∧
    ({ grp3 with view := proposal.view } : Group).view = proposal.view ∧ (member1 0 id (mine none none) grp3).memberDie 1 = some 1 ∧
    (member1 0 id (mine none none) grp3).memberDie 5 = some 5 ∧ (member1 0 id (mine none none) grp3).dieLive 5 = true ∧
    ((member1 0 id (mine none none) grp3).setDie 5 { (member1 0 id (mine none none) grp3).die 5 with stage := .lost }).dieLive 5 = false := by decide

/-- HealthEvents: a panel that may be held for a test; a package without a panel on a core; who declares a loss. -/
theorem wit_health_more : onePanel.holdable = true ∧ ((scored (.core 0) 256 true false).panelAt 0).map Panel.holdable = some true ∧
    (∀ p, (scored (.core 0) 0 false false).panelAt 900 = some p → p.resident = false) ∧ (silent .live).declarer 1 = some 0 ∧
    (silent .lost).power = true := by decide

/-- LinksAndPackets: a fabric packet that no circuit reaches; a packet of another package, due next in its pair and not. -/
def far (reach : Bool) : Packet :=
  { packet false [] false 0 with fabric := some (if reach then 7 else 9, 5) }

def arrived (psn : BitVec 16) : Packet := { packet true [0] false 0 with src := farAgent 9 3, psn := psn }

theorem wit_packet_far : (ported 7).unreached (far false) = true ∧ (ported 7).unreached (far true) = false ∧ (far true).src < 2 ^ 14 ∧
    2 ^ 14 ≤ (arrived 0).src ∧ (arrived 0).psn = SMap.get (sending (arrived 0)).rxPsns 0 (pairKey (arrived 0).src (arrived 0).dst none) ∧
    (arrived 1).psn ≠ SMap.get (sending (arrived 1)).rxPsns 0 (pairKey (arrived 1).src (arrived 1).dst none) ∧
    (arrived 0).held.length + 1 = (arrived 0).flits := by decide

/-- LinksAndPackets: one packet behind another of its pair; sectors that a command waits for; an acknowledged one; one that may be sent again. -/
def carrying (ns : List Nat) : State :=
  { base with cmds := [oneCmd 2], packets := [{ packet true [] false 8 with body := .sectors 9 ns }], cycle := 52000 }

theorem wit_packet_more : (sending (packet true [] false 1)).maySend (packet true [] false 1) = true ∧
    (match ({ base with packets := [{ packet true [] false 1 with id := 3 }, packet true [] false 1] } : State).packets with
      | [q, p] => decide (q.id ≠ p.id) && decide (q.delivered = false) && decide (q.held.length ≠ q.flits)
      | _ => false) = true ∧
    (carrying [0]).cmd 9 = some (oneCmd 2) ∧ (oneCmd 2).ended = false ∧ (∃ x ∈ (oneCmd 2).sectors, x.n ∉ [0]) ∧
    (carrying [0]).crossed ({ packet true [] false 8 with body := .sectors 9 [0] } : Packet) = true ∧ (far true).fabric.isSome = true := by decide

/-- Sectors on their way to a package that no circuit reaches. -/
def lost : State :=
  { ported 7 with cmds := [oneCmd 2], packets := [{ far false with injected := true, body := .sectors 9 [0] }] }

/-- LinksAndPackets: a void flit; a link that has lost lock twice; a packet from another package already here; a fabric packet to give up. -/
theorem wit_links_more : ((linked [] [] false).setLink (.ucie 0 1) { retry := [{ lseq := 0, pk := 4, flits := [0], void := true }] }).link (.ucie 0 1) =
      { retry := [{ lseq := 0, pk := 4, flits := [0], void := true }] } ∧ ((linked [] [] true).link (.ucie 0 1)).retraining = true ∧
    (∃ q ∈ (sending (arrived 0)).packets, q.src = farAgent 9 3 ∧ q.dst = 1025 ∧ q.psn = 0) ∧
    ¬(2 ^ 15 ≤ ((4 : BitVec 16) - SMap.get base.rxPsns 0 (pairKey (farAgent 9 3) 1 none)).toNat) ∧
    lost.packets.filter (fun (p : Packet) => p.fabric.any (fun (e : Nat × Nat) => e.1 == 9) && p.injected) =
      [{ far false with injected := true, body := .sectors 9 [0] }] ∧ lost.circuitTo 9 = none ∧ lost.pairOf 0 1025 = [] ∧
    lost.cmd 9 = some (oneCmd 2) := by decide

/-- LinksAndPackets: more flits than one meet at a router, the first in rank with a port of its own. -/
theorem wit_router : (let f (age x : Nat) : Flit := { age := age, src := 3, psn := 4, fidx := 0, x := x, y := 2 }
    (routerPorts.Nodup ∧ [f 5 7, f 2 7].length ≤ (routerPorts.filter (· != .eject)).length ∧
      (f 5 7).before (f 2 7) = true ∧ (f 5 7).productive 2 2 ∈ routerPorts)) := by decide

/-- HoldsSavesAndCheckpoints: an acknowledgement in time; the issuer of a SAVEP and of a RESTP. -/
def early (why : HoldFor) (waiting : List Engine) : State := { collecting why waiting with cycle := 1000 }

theorem wit_holds_more : (early .test [.xfu 0, .ske 0]).stoppedAt 1 (.xfu 0) = true ∧ (early .test [.xfu 0, .ske 0]).cycle < 0 + 160000 ∧
    (early (.host (reqOf 1 [] 0 0)) [.ske 0]).stoppedAt 1 (.ske 0) = true := by decide

def issued (restore : Bool) : State :=
  let s := saving 3 restore (if restore then 0 else 0x1000)
  { s with panels := s.panels.map fun (p : Panel) => { p with saving := p.saving.map (fun v => { v with issuer := some (0, 0), rq := none }) } }

theorem wit_issuer : (match (issued false).savingAt 1 false with
      | some (p, v) => decide (v.issuer = some (0, 0)) && ((issued false).saveStopAt p v (imageLen p p.parked.length)).isSome
      | none => false) = true ∧
    (match ({ issued true with mem := [] } : State).savingAt 1 true with
      | some (p, v) => decide (v.issuer = some (0, 0)) && decide (p.state ≠ 5) && (({ issued true with mem := [] } : State).restoreImage p v).isNone
      | none => false) = true := by decide

/-- HoldsSavesAndCheckpoints: every outcome of a checkpoint; a panel that it holds. -/
theorem wit_checkpoint_more : (∀ t ∈ [true, false], (match (checking t false).checkpoint with
      | some c => decide (c.timedOut = t) && decide (c.failed = false) && decide (c.holding = []) && decide (c.mine = []) && decide (c.seq < 2 ^ 32)
      | none => false) = true) ∧ ((checking false true).checkpoint.map (·.failed)) = some true ∧
    ((List.range 9).map (fun i => ((checking false false).segment (0 + i)).map (·.1))).Nodup ∧ (checking false false).dieLive 0 = true := by decide

theorem wit_checkpoint_held : (match (hears 3 base).panel 1 with
      | some p => decide (p.state = 3) && p.collect.isNone && p.saving.isNone && p.aside.isNone
      | none => false) = true := by decide

/-- PanelRequests: heard, with no access under way; an image in states 1 and 2; an access of no bytes; a series under way. -/
def series (n : Nat) (write : Bool) : State :=
  let s := hears 2 base
  { s with panels := s.panels.map fun (p : Panel) => { p with bulk := some { rq := reqOf 1 (List.replicate 64 7) (n * 2 ^ 32 + 0x100) 0, write := write } } }

theorem wit_bulk : (hears 2 base).bulkFree (reqOf 1 [] 0 0) = true ∧ (hears 1 base).bulkFree (reqOf 1 [] 0 0) = true ∧
    (match (hears 2 base).panel 1 with | some p => (hears 2 base).idle p == false | none => false) = true ∧
    (match (hears 2 base).panel 1 with | some p => has ((hears 2 base).hostKeys p (reqOf 1 [] 0x100 0) true) | none => false) = true ∧
    (∀ w : Bool, (match (series 0 w).panel 1 with
      | some p => (match p.bulk with
        | some b => has ((series 0 w).hostKeys p { b.rq with arg0 := b.rq.arg0 + BitVec.ofNat 64 (32 * b.made), len := 32 } b.write)
        | none => false)
      | none => false) = true) ∧
    (match (series 900 false).panel 1 with
      | some p => (match p.bulk with
        | some b => !has ((series 900 false).hostKeys p { b.rq with arg0 := b.rq.arg0 + BitVec.ofNat 64 (32 * b.made), len := 32 } b.write)
        | none => false)
      | none => false) = true := by decide

/-- PanelRequests: an idle panel; a group that is refused. -/
theorem wit_requests_more : (match (hears 2 (ctx (fun x => { x with run := .dormant, wait := none }) base)).panel 1 with
      | some p => (hears 2 (ctx (fun x => { x with run := .dormant, wait := none }) base)).idle p
      | none => false) = true ∧
    ((hears 4 base).panel 1).map (hears 4 base).engaged = some false ∧ (saveDescOk (BitVec.ofNat 512 (2 ^ 500))) = false := by decide

/-- PackageRequests: a payload of the wrong length; each state of a circuit; a job at a live die's port; a request that is none of these. -/
theorem wit_package_more : Req.sound (reqOf 0 [1] 0 0) (some 0) = false ∧ fld 0xC0 6 2 ≠ 0 ∧ 2 ^ 11 ≤ (0x800 : Word).toNat ∧
    base.dieLive 0 = true ∧ (silent .lost).dieLive 1 = false ∧ fld 8 3 33 ≠ 0 ∧
    (∀ st ∈ [0, 1, 2, 3], circuitOk (BitVec.ofNat 128 (0x400 + st)) = true ∧ circState (BitVec.ofNat 128 (0x400 + st)) = st) ∧
    circState (SMap.get (ported 7).circuits 0 0) ≠ 0 ∧ (hears 2 base).portsOpen = true ∧ fld 0x902 8 4 = 9 ∧ fld 4 0 8 = 4 := by decide

/-- StepRunsDecodedInstruction: what is due at an instant of the clock; a due event that the choice picks; an input. -/
theorem wit_step_more : ({ base with urgent := [Due.scoreHalving] } : State).urgent = [.scoreHalving] ∧
    (State.outside { base with choices := base.choices.drop 1, agenda := [Due.bulkAccess 1] } base.choice).due[base.choice.pick]? ≠ none ∧
    ({ base with inputs := [Instr.packageIdWrite 5] } : State).inputs = [.packageIdWrite 5] ∧ panelRequest (.packageIdWrite 5) = none ∧
    (series 0 true).bulkFree (reqOf 1 [] 0 0) = false := by decide

/-! ## Third review -/

/-- TransferBarriers: an arrival beyond the count with bytes pending; a group's view that has changed. -/
theorem wit_txb_more : barArrive ((barred 0 0 64 2 0 0 0).load 0x500 16) = 0 ∧ barPend ((barred 0 0 64 2 0 0 0).load 0x500 16) ≠ 0 ∧
    (barred 1 2 0 2 1 0x18 0).alone ∧ (barred 1 2 0 2 1 0x18 0).clean 0x500 16 ∧
    bitOf (barFlags ((barred 1 2 0 2 1 0x18 0).load 0x500 16)) 0 = true ∧ barFcode ((barred 1 2 0 2 1 0x18 0).load 0x500 16) = 0x18 := by decide

/-- SendingMessages: an engine whose inbox is full. -/
def fullBox : State :=
  regs [(5, BitVec.ofNat 64 (1 + 1 * 2 ^ 13))] (sup.setCluster 0 { sup.cluster 0 with xfuBox := List.replicate 64 9 })

theorem wit_send_box : fullBox.alone ∧ fullBox.me.mode = true ∧ hdrKind (fullBox.me.reg 5) = 1 ∧ hdrLen (fullBox.me.reg 5) = 0 ∧
    fullBox.inPanel (hdrDest (fullBox.me.reg 5)) = true ∧ fullBox.outstanding 0 0 < 16 ∧ fullBox.boxRoom (engineOf 1 1) = false := by decide

/-- EndingAnActivation: one message that slot 0 alone may take. -/
def inboxed : State :=
  own (fun c => { c with inbox := [msgOf 1], routine := c.routine.set 0 (BitVec.ofNat 64 (2 ^ 63 + 0x1000)) }) base

theorem wit_endh_next : inboxed.alone ∧ (∀ m ∈ inboxed.cmdsOf 0 0 inboxed.me.act, m.state = .done) ∧ inboxed.mine.inbox = [msgOf 1] ∧
    inboxed.myPanel = some onePanel ∧ onePanel.dispatches = true ∧ inboxed.coreDown 0 = false ∧
    classValid inboxed.mine.routine[hdrClass (msgOf 1).h0] = true ∧ inboxed.mine.slotSet (msgOf 1) = [inboxed.slot] ∧
    (inboxed.mine.swq ||| inboxed.mine.atq).getLsbD inboxed.slot.val = false := by decide

/-- QueuePorts: port 0 and the vector port bound. -/
theorem wit_ports_bad : (bound false [7]).me.ports[0] ≠ none ∧
    (ctx (fun x => { x with ports := x.ports.set 4 (some { q := 8, wr := true }) }) base).me.ports[4] ≠ none ∧
    (ctx (fun x => { x with ports := x.ports.set 4 (some { q := 8, wr := true }) }) base).me.pend = [] ∧ base.me.mat = none := by decide

/-- TensorMapInstructions: the reply to a TMSYNC has come, or its failure. -/
def replied (st : CmdState) : State :=
  { ctx (fun x => { x with
      pend := [{ word := BitVec.ofNat 32 (Instr.word (.tmsync 3)), compact := false, a := 0, b := 0, d := 0 }]
      wait := some { on := .reply 9, since := 0, start := 0 } }) mapsState with
    source := .entry, cmds := [{ cmdIn st with kind := .header, values := [5] }] }

theorem wit_tmsync_reply : (∀ st ∈ [CmdState.done, .failed 0x13], (replied st).source = .entry ∧ (replied st).me.pend.length = 1 ∧
      (replied st).me.ports = .replicate 5 none ∧ (replied st).me.mat = none ∧ (replied st).cmd 9 = some { cmdIn st with kind := .header, values := [5] }) ∧
    (mapsState.setMap 3 (mapOf 0x1000 3 0x1C 0 1 [16, 16] [32] 0x1100)).inPanel 1 = true ∧
    (mapsState.setMap 3 (mapOf 0x1000 3 0x1C 0 1 [16, 16] [32] 0x1100)).coreDown 1 = false := by decide

/-- CollectiveMembership: a CLEAVE whose descriptor can be written. -/
theorem wit_leave : (collState 1 [slice0 false false]).walkerFree (collState 1 [slice0 false false]).dieOf = true := by decide

/-- Donation: a thief asking a victim that is up, and one that is down. -/
def asking (down : Bool) : State :=
  let s := starved.setCluster 0 { starved.cluster 0 with asking := true, victim := some 1 }
  s.setCluster 1 { s.cluster 1 with retired := down }

theorem wit_donation_down : ∀ d : Bool, ((asking d).cluster 0).asking = true ∧ ((asking d).cluster 0).victim = some 1 ∧
    (asking d).coreDown (1 * 64) = d ∧ (asking d).coreDown (0 * 64) = false := by decide

/-- PopulationAndCollectiveEvents: a stale partial at a die with slice 0's own record, and at the CLE of no die. -/
def stale : State := { base with groups := [{ grpOp with joins := [slice0 false false] }] }

theorem wit_cle_die : stale.memberDie (leaderOf grpOp.live) = some 0 ∧ stale.group_ 7 = some { grpOp with joins := [slice0 false false] } ∧
    viewOlder 2 (stale.viewAt (some 0) { grpOp with joins := [slice0 false false] }) = true ∧
    viewOlder 3 (stale.viewAt (some 0) { grpOp with joins := [slice0 false false] }) = false ∧
    grpOp.slice[0]? = some (stale.member 0, false) ∧ (slice0 false false).leftFrom = none := by decide

/-- Die 1 of this package, numbered 0, and members of package 1, which circuit 0 reaches. -/
def abroad1 (live : List Nat) (bound : Option (Proposal × Nat)) (p : Option Proposing) (suspects : List Nat) : State :=
  let s := member1 100000 (fun (d : Die) => { d with suspects := suspects }) { mine bound p with live := live } { grp3 with live := live }
  { s with circuits := [(0, BitVec.ofNat 128 (2 + 16 * 2 ^ 6 + 1 * 2 ^ 48))] }

/-- ViewAgreement: a die that follows a trusted member, of its own package or of another; one cut off from its majority. -/
theorem wit_view_cut : (∃ m ∈ [0, 1, 2], m ∉ ([] : List Nat) ∧ m ∉ [2] ∧ m < 1) ∧
    (abroad1 [0, 1, 2] none none [2]).cutOff 1 (mine none none) = false ∧ (abroad1 [0, 1, 2] none none []).cutOff 1 (mine none none) = false := by decide

/-- A die of package 1 in a group with members of package 0, led from there. -/
def led (suspects : List Nat) : State :=
  let y : Member := { mine none none with live := [7, 9, 10, 11] }
  { member1 100000 (fun (d : Die) => { d with suspects := suspects }) y { grp3 with live := [7, 9, 10, 11], stuckAt := none, told := false } with
    pkgid := 1, circuits := [(0, BitVec.ofNat 128 (2 + 16 * 2 ^ 6 + 0 * 2 ^ 48))] }

theorem wit_view_stalled : (led [11]).member 1 = 9 ∧ (∃ m ∈ [7, 9, 10, 11], m ∉ ((led [11]).die 1).suspects ∧ m ∉ [10] ∧ m < 9) ∧
    (led [11, 10]).cutOff 1 { mine none none with live := [7, 9, 10, 11] } = true ∧
    SMap.get ((led [11]).die 1).heard 0 10 + 32000 ≤ (led [11]).cycle ∧ (led [11]).farMember 7 = true ∧
    ((led [11]).circuitTo (7 / 8)).isSome = true ∧
    7 ≤ leaderOf ((led [11]).trusted 1 { mine none none with live := [7, 9, 10, 11] }) := by decide

/-- HealthEvents: an instant at which the scores halve; a panel to hold whose core is up. -/
theorem wit_halving : ({ base with power := true, cycle := 1600 * 2 ^ 20 } : State).cycle % (1600 * 2 ^ 20) = 0 ∧
    ({ base with power := true, cycle := 1600 * 2 ^ 20 } : State).lastHalf < ({ base with power := true, cycle := 1600 * 2 ^ 20 } : State).cycle / (1600 * 2 ^ 20) ∧
    (scored (.core 0) 256 true false).coreDown 0 = false := by decide

/-- LinksAndPackets: the last flit of a share, of a message for an engine, of a result that has been announced. -/
def ending (b : Body) (cs : List Cmd) : State := { sending { packet true [0] false 1 with body := b } with cmds := cs }

def shareOf : Partial := { slice := 0, view := 3, opseq := 4 }

theorem wit_eject_kinds : (∀ b ∈ [Body.leaf 9 7 (some shareOf), .order (msgOf 1) (.easel 0 1), .order (msgOf 1) (.xfu 0), .result 9 true],
      (ending b []).packet 4 = some { packet true [0] false 1 with body := b } ∧
      ({ packet true [0] false 1 with body := b } : Packet).held.length + 1 = ({ packet true [0] false 1 with body := b } : Packet).flits) ∧
    (base.panel (msgOf 1).panel).map (·.state) = some 2 ∧
    (ending (.result 9 true) [{ cmdIn .running with outcome := some ([0x3F80], [], 0, false) }]).cmd 9 =
      some { cmdIn .running with outcome := some ([0x3F80], [], 0, false) } := by decide

/-- LinksAndPackets: a share that a fabric packet carried and that has crossed its links. -/
theorem wit_fabric_share : (let p : Packet := { packet true [] false 1 with body := .leaf 9 7 (some shareOf), fabric := some (7, 5) }
    (sending p).packet 4 = some p ∧ p.src < 2 ^ 14 ∧ (sending p).crossed p = true) := by decide

/-- LinksAndPackets: a delivered packet without its acknowledgement; one on a link that has failed three retrains. -/
def stuckPacket : Packet := { packet true [0] false 1 with route := [.ucie 0 1], sentAt := 60000, firstAt := 60000 }

theorem wit_resend_more : (sending (packet true [0, 1] true 1)).maySend (packet true [0, 1] true 1) = true ∧
    (packet true [0, 1] true 1).sentAt + 51200 ≤ (sending (packet true [0, 1] true 1)).cycle ∧
    ({ linked [] [59000, 59500, 60000] true with packets := [stuckPacket] } : State).stuckOn stuckPacket = true ∧
    ({ linked [] [59000, 59500, 60000] true with packets := [stuckPacket] } : State).maySend stuckPacket = true := by decide

/-- LinksAndPackets: a flit accepted before, one far ahead, one accepted and not yet acknowledged. -/
theorem wit_behind : ((linked [] [] false).link (.ucie 0 1)).behind 2 = true ∧ ((linked [] [] false).link (.ucie 0 1)).behind 9 = false ∧
    ((linked [] [] false).link (.ucie 0 1)).retry.find? (fun (q : Retry) => q.lseq == 3 && !q.accepted) ≠ none ∧
    (∃ p ∈ ({ linked [] [59000, 59500] true with packets := [stuckPacket] } : State).packets, p.injected = true ∧ LinkId.ucie 0 1 ∈ p.route) := by
  decide

/-- LinksAndPackets: a fabric packet to this package, from package 9: old, here already, new; one between two other packages. -/
def visiting (injected : Bool) : State :=
  { ported 7 with packets := [{ packet injected [] false 1 with src := farAgent 9 3, dst := 1 }] }

theorem wit_visiting : 2 ^ 15 ≤ ((0xFFFF : BitVec 16) - SMap.get (ported 7).rxPsns 0 (pairKey (farAgent 9 3) 1 none)).toNat ∧
    (∀ i : Bool, ((visiting i).packets.find? (fun (q : Packet) => q.src == farAgent 9 3 && q.dst == 1 && q.psn == 4 && q.fabric.isNone)).map (·.injected) =
      some i) ∧
    (visiting true).roomOn { packet true [] false 1 with src := farAgent 9 3, dst := 1 } 6 = true ∧ (9 : Nat) ≠ (ported 7).pkgid.toNat ∧
    ((ported 7).circuitTo 7).isSome = true := by decide

/-- HoldsSavesAndCheckpoints: an engine whose die has nothing on the ring; panels that no test holds; ports that serve. -/
theorem wit_holds_ring : (early .test [.xfu 0, .ske 0]).ringClear (agentDie (agentOf (.xfu 0))) = true ∧
    (∀ p ∈ (checking false false).panels, p.testHold = false) ∧
    (∀ i < 9, (match (checking false false).segment i with
      | some (_, port) => (checking false false).portServes port
      | none => false) = true) := by decide

/-- BringUpAndReset: a die that comes back to a package with a master; a master and a die that it sends the image. -/
theorem wit_image : ((stages .rom (fun s => { s with master := some 1 })).die 0).stage = .rom ∧
    (stages .rom (fun s => { s with master := some 1 })).master = some 1 ∧
    (stages .heard (fun s => { s with master := some 1 })).srs = false ∧ ((stages .heard (fun s => { s with master := some 1 })).die 0).stage = .heard ∧
    (1 : Fin 8) ≠ 0 := by decide

/-- PanelRequests: a LAUNCH behind another that runs. -/
theorem wit_launch_behind : (let s : State := { hears 2 base with
      panels := (hears 2 base).panels.map fun (p : Panel) => { p with launch := some { rq := reqOf 1 [] 0 0, left := 1, refused := 0 } } }
    s.heard (reqOf 1 [] 0 0) = true ∧ s.bulkFree (reqOf 1 [] 0 0) = true ∧ (s.panel 1).map (fun p => p.launch.isSome) = some true) := by decide

/-- StepRunsDecodedInstruction: a word that decodes to nothing behind eight unfinished instructions; an input that waits, and one that
passes it. -/
def addEntry : Entry := { word := 0x00083383, compact := false, a := 0, b := 0, d := 0 }

theorem wit_step_inputs : (ctx (fun x => { x with pend := List.replicate 8 addEntry }) base).me.shut none = true ∧
    (series 0 true).inputWaits (.read (reqOf 1 [] 0 0)) = true ∧ panelRequest (.packageIdWrite 5) = none ∧
    (series 0 true).walkFor (.packageIdWrite 5) = true ∧ (series 0 true).ringFor (.packageIdWrite 5) = true ∧
    (∀ i ∈ ({ series 0 true with inputs := [Instr.read (reqOf 1 [] 0 0)] } : State).inputs, (series 0 true).inputWaits i = true) := by decide

end Sys2Proof.Test
end

section
/-!
The integer operations, branches and jumps of 07_scalar.md. First the arithmetic of the model on any width as 07 Table 07-1 and
Table 07-2 state it, then what the two shared shapes of instruction do with it, then the obligations.
-/

namespace Sys2Proof.Machine

/-! ## Shifts, products and comparisons on any width (07 R137, Table 07-1) -/

/-- A shift amount taken modulo 32 is the same of the register and of its low half. -/
theorem lo32_toNat_mod (y : Word) : (lo32 y).toNat % 32 = y.toNat % 32 := by
  simp only [lo32, BitVec.truncate, BitVec.toNat_setWidth]
  exact Nat.mod_mod_of_dvd _ (by decide)

theorem shlBits_lo32 (x y : Word) : shlBits (lo32 x) (lo32 y) = lo32 x <<< (y.toNat % 32) := by
  rw [shlBits, lo32_toNat_mod]

theorem shrBits_lo32 (x y : Word) : shrBits (lo32 x) (lo32 y) = lo32 x >>> (y.toNat % 32) := by
  rw [shrBits, lo32_toNat_mod]

theorem sarBits_lo32 (x y : Word) : sarBits (lo32 x) (lo32 y) = (lo32 x).sshiftRight (y.toNat % 32) := by
  rw [sarBits, lo32_toNat_mod]

theorem rolBits_eq {n : Nat} (x y : BitVec n) : rolBits x y = x.rotateLeft (y.toNat % n) := by
  rw [rolBits, BitVec.rotateLeft_def, Nat.mod_mod]

theorem rolBits_lo32 (x y : Word) : rolBits (lo32 x) (lo32 y) = (lo32 x).rotateLeft (y.toNat % 32) := by
  rw [rolBits_eq, lo32_toNat_mod]

theorem mulhBits_eq {n : Nat} (x y : BitVec n) : mulhBits x y = BitVec.ofInt n (x.toInt * y.toInt / 2 ^ n) := by
  simp [mulhBits]

theorem minBits_eq {n : Nat} (x y : BitVec n) : minBits x y = if x.toInt < y.toInt then x else y := by
  simp [minBits, BitVec.slt_iff_toInt_lt]

theorem maxBits_eq {n : Nat} (x y : BitVec n) : maxBits x y = if x.toInt < y.toInt then y else x := by
  simp [maxBits, BitVec.slt_iff_toInt_lt]

theorem minuBits_eq {n : Nat} (x y : BitVec n) : minuBits x y = if x.toNat < y.toNat then x else y := by
  simp [minuBits, BitVec.ult_eq_decide]

theorem maxuBits_eq {n : Nat} (x y : BitVec n) : maxuBits x y = if x.toNat < y.toNat then y else x := by
  simp [maxuBits, BitVec.ult_eq_decide]

/-- A comparison's bit is the same word in both forms: sign extension keeps 0 and 1. -/
theorem sx32_ofNat_b2n (c : Bool) : sx32 (BitVec.ofNat 32 (b2n c)) = if c then 1 else 0 := by
  cases c <;> decide

theorem ofNat_b2n (c : Bool) : BitVec.ofNat 64 (b2n c) = if c then 1 else 0 := by
  cases c <;> rfl

/-- SLT in both forms. -/
theorem wform_sltBits (w : Bool) (x y : Word) :
    wform w sltBits sltBits x y =
      if (if w then (lo32 x).toInt < (lo32 y).toInt else x.toInt < y.toInt) then 1 else 0 := by
  cases w
  · simp [wform, sltBits, ofNat_b2n, BitVec.slt_iff_toInt_lt]
  · simp [wform, sltBits, sx32_ofNat_b2n, BitVec.slt_iff_toInt_lt]

/-- SLTU in both forms. -/
theorem wform_sltuBits (w : Bool) (x y : Word) :
    wform w sltuBits sltuBits x y =
      if (if w then (lo32 x).toNat < (lo32 y).toNat else x.toNat < y.toNat) then 1 else 0 := by
  cases w
  · simp [wform, sltuBits, ofNat_b2n, BitVec.ult_eq_decide]
  · simp [wform, sltuBits, sx32_ofNat_b2n, BitVec.ult_eq_decide]

/-! ## Division (07 R138, Table 07-2): the model divides the integers and keeps the low bits, which the table's row for the
one signed overflow agrees with -/

/-- The least integer divided by −1 is its own negation at this width. -/
theorem ofInt_tdiv_overflow {m : Nat} {x y : BitVec (m + 1)} (hx : x.toInt = -(2 ^ m)) (hy : y.toInt = -1) :
    BitVec.ofInt (m + 1) (x.toInt.tdiv y.toInt) = x := by
  have hmin : x = BitVec.intMin (m + 1) := by
    apply BitVec.eq_of_toInt_eq
    rw [hx, BitVec.toInt_intMin_of_pos (Nat.succ_pos m)]; rfl
  calc BitVec.ofInt (m + 1) (x.toInt.tdiv y.toInt)
      = -BitVec.ofInt (m + 1) x.toInt := by rw [hy, Int.tdiv_neg, Int.tdiv_one, BitVec.ofInt_neg]
    _ = -x := by rw [BitVec.ofInt_toInt]
    _ = x := by rw [hmin, BitVec.neg_intMin]

theorem divBits_eq {m : Nat} (x y : BitVec (m + 1)) :
    divBits x y = if y = 0 then -1 else if x.toInt = -(2 ^ m) ∧ y.toInt = -1 then x
      else BitVec.ofInt (m + 1) (x.toInt.tdiv y.toInt) := by
  unfold divBits
  split
  · exact BitVec.neg_one_eq_allOnes.symm
  · split
    · next h => exact ofInt_tdiv_overflow h.1 h.2
    · rfl

theorem remBits_eq {m : Nat} (x y : BitVec (m + 1)) :
    remBits x y = if y = 0 then x else if x.toInt = -(2 ^ m) ∧ y.toInt = -1 then 0
      else BitVec.ofInt (m + 1) (x.toInt.tmod y.toInt) := by
  unfold remBits
  split
  · rfl
  · split
    · next h => simp [h.2, Int.tmod_neg]
    · rfl

theorem divuBits_eq {n : Nat} (x y : BitVec n) :
    divuBits x y = if y = 0 then -1 else BitVec.ofNat n (x.toNat / y.toNat) := by
  rw [divuBits, ← BitVec.neg_one_eq_allOnes]; rfl

/-! ## The shared shapes of instruction -/

/-- An operation on two registers whose result is `v`. -/
theorem binOp_gives {s : State} (h : s.alone) {i : Instr} (hi : i.len = 4) {a b d : Fin 32} {f : Word → Word → Word}
    {v : Word} (hv : f (s.me.reg a) (s.me.reg b) = v) : binOp i a b d f s = .next (s.gives 4 d v) := by
  rw [binOp_alone h, hi, hv]

/-- An operation on two registers in its 64-bit form. -/
theorem binOp_full {s : State} (h : s.alone) {i : Instr} (hi : i.len = 4) {a b d : Fin 32} {f : Word → Word → Word}
    {g : BitVec 32 → BitVec 32 → BitVec 32} {v : Word} (hv : f (s.me.reg a) (s.me.reg b) = v) :
    binOp i a b d (wform false f g) s = .next (s.gives 4 d v) :=
  binOp_gives h hi hv

/-- An operation on two registers in its W form. -/
theorem binOp_low {s : State} (h : s.alone) {i : Instr} (hi : i.len = 4) {a b d : Fin 32} {f : Word → Word → Word}
    {g : BitVec 32 → BitVec 32 → BitVec 32} {v : BitVec 32} (hv : g (lo32 (s.me.reg a)) (lo32 (s.me.reg b)) = v) :
    binOp i a b d (wform true f g) s = .next (s.gives 4 d (sx32 v)) :=
  binOp_gives h hi (congrArg sx32 hv)

/-- An operation on two registers in both forms. -/
theorem binOp_both {s : State} (h : s.alone) {i : Instr} (hi : i.len = 4) {w : Bool} {a b d : Fin 32} {f : Word → Word → Word}
    {g : BitVec 32 → BitVec 32 → BitVec 32} {v : Word} {v' : BitVec 32} (hv : f (s.me.reg a) (s.me.reg b) = v)
    (hv' : g (lo32 (s.me.reg a)) (lo32 (s.me.reg b)) = v') :
    binOp i a b d (wform w f g) s = .next (s.gives 4 d (if w then sx32 v' else v)) := by
  cases w
  · exact binOp_full h hi hv
  · exact binOp_low h hi hv'

/-- The comparisons of BGE and BGEU on the values (07 Table 07-4). -/
theorem not_slt_iff {n : Nat} (x y : BitVec n) : (!x.slt y) = true ↔ y.toInt ≤ x.toInt := by
  simp [BitVec.slt_eq_decide]

theorem not_ult_iff {n : Nat} (x y : BitVec n) : (!x.ult y) = true ↔ y.toNat ≤ x.toNat := by
  simp [BitVec.ult_eq_decide]

/-- A branch whose comparison holds exactly when `c` does. -/
theorem brOp_goes {s : State} (h : s.alone) {i : Instr} {off : BitVec 12} {a b : Fin 32} (cond : Word → Word → Bool)
    {c : Prop} [Decidable c] (hc : cond (s.me.reg a) (s.me.reg b) = true ↔ c) :
    brOp i off a b cond s = .next (s.goes (s.me.pc + if c then 2 * off.signExtend 64 else 4) 0 0) := by
  rw [brOp_alone h, BitVec.mul_comm 2]
  simp only [hc, sxi]
  rfl

/-- A word written to gD and a jump: what JAL and a JALR to an even address leave. -/
theorem State.ready_goes {s : State} (h : s.alone) (t : Word) (d : Fin 32) (v : Word) :
    (s.setMe { s.me.put d v with pc := t }).ready = s.goes t d v := by
  rw [State.ready_setMe, State.goes]
  simp [h.2.1]

/-- JAL (07 R144). -/
theorem execJal_alone {s : State} (h : s.alone) (off : BitVec 20) (d : Fin 32) :
    execJal off d s = .next (s.goes (s.me.pc + 2 * off.signExtend 64) d (s.me.pc + 4)) := by
  simp only [execJal, issueJump_alone h, State.writeG_alone h.2.2.1, bind, Except.bind, pure, Except.pure, State.me_setG,
    State.setMe_setG, State.ready_goes h, sxi, BitVec.mul_comm 2]

/-- The lowest bit of an address says whether it is odd. -/
theorem getLsbD_zero_iff_odd (t : Word) : t.getLsbD 0 = true ↔ t.toNat % 2 = 1 := by
  rw [BitVec.getLsbD, Nat.testBit_zero, decide_eq_true_eq]

/-- JALR (07 R144): an odd target traps before the link is written. -/
theorem execJalr_alone {s : State} (h : s.alone) (imm : BitVec 15) (a d : Fin 32) :
    execJalr imm a d s =
      if (s.me.reg a + imm.signExtend 64).toNat % 2 = 1
      then .next (s.takeTrap 4 { cause := .misalign, tval := s.me.reg a + imm.signExtend 64 })
      else .next (s.goes (s.me.reg a + imm.signExtend 64) d (s.me.pc + 4)) := by
  simp only [execJalr, issueJump_alone h, State.srcA_alone h, bind, Except.bind, State.jumpTo_link h, sxi,
    getLsbD_zero_iff_odd]
  by_cases odd : (s.me.reg a + imm.signExtend 64).toNat % 2 = 1
  · rw [if_pos odd, if_pos odd]
    rfl
  · rw [if_neg odd, if_neg odd]
    simp only [State.ready_goes h]
    rfl

/-! ## The obligations -/

/-- Settles O1: each operation is the table's arithmetic on the two register values (`binOp_alone`); the overflow row of
Table 07-2 is the low bits of the integer quotient. -/
theorem integerResults : Obligations.IntegerResults := by
  unfold Obligations.IntegerResults
  refine ⟨fun s w b a d h => ⟨?add, ?sub, ?and, ?or, ?xor, ?andn, ?sll, ?srl, ?sra, ?rol, ?mul, ?mulh, ?mulhu, ?min, ?max,
    ?minu, ?maxu, ?slt, ?sltu⟩, fun s b a d h => ⟨?div, ?rem, ?divu, ?remu, ?divw, ?remw, ?divuw, ?remuw⟩⟩
  case add | sub | and | or | xor | andn | mul | mulhu => exact binOp_both h rfl rfl rfl
  case sll => exact binOp_both h rfl rfl (shlBits_lo32 ..)
  case srl => exact binOp_both h rfl rfl (shrBits_lo32 ..)
  case sra => exact binOp_both h rfl rfl (sarBits_lo32 ..)
  case rol => exact binOp_both h rfl (rolBits_eq ..) (rolBits_lo32 ..)
  case mulh => exact binOp_both h rfl (mulhBits_eq ..) (mulhBits_eq ..)
  case min => exact binOp_both h rfl (minBits_eq ..) (minBits_eq ..)
  case max => exact binOp_both h rfl (maxBits_eq ..) (maxBits_eq ..)
  case minu => exact binOp_both h rfl (minuBits_eq ..) (minuBits_eq ..)
  case maxu => exact binOp_both h rfl (maxuBits_eq ..) (maxuBits_eq ..)
  case slt => exact binOp_gives h rfl (wform_sltBits ..)
  case sltu => exact binOp_gives h rfl (wform_sltuBits ..)
  case div => exact binOp_full h rfl (divBits_eq ..)
  case rem => exact binOp_full h rfl (remBits_eq ..)
  case divu => exact binOp_full h rfl (divuBits_eq ..)
  case remu => exact binOp_full h rfl rfl
  case divw => exact binOp_low h rfl (divBits_eq ..)
  case remw => exact binOp_low h rfl (remBits_eq ..)
  case divuw => exact binOp_low h rfl (divuBits_eq ..)
  case remuw => exact binOp_low h rfl rfl

/-- Settles O3: a branch by what its comparison means (`brOp_goes`), the jumps by their own rules. -/
theorem branchesAndJumps : Obligations.BranchesAndJumps := by
  unfold Obligations.BranchesAndJumps
  refine fun s b a d h => ⟨fun off => ⟨?beq, ?bne, ?blt, ?bge, ?bltu, ?bgeu⟩, fun off => execJal_alone h off d,
    fun imm => ⟨fun even => ?jump, fun odd => ?trap⟩⟩
  case beq => exact brOp_goes h (fun x y => x == y) beq_iff_eq
  case bne => exact brOp_goes h (fun x y => x != y) bne_iff_ne
  case blt => exact brOp_goes h (fun x y => x.slt y) BitVec.slt_iff_toInt_lt
  case bge => exact brOp_goes h (fun x y => !x.slt y) (not_slt_iff ..)
  case bltu => exact brOp_goes h (fun x y => x.ult y) BitVec.ult_iff_lt
  case bgeu => exact brOp_goes h (fun x y => !x.ult y) (not_ult_iff ..)
  case jump => exact (execJalr_alone h imm a d).trans (if_neg (by omega))
  case trap => exact (execJalr_alone h imm a d).trans (if_pos odd)

end Sys2Proof.Machine
end

section
/-!
The versioned words of 08_memory_instr.md R165 to R168 (02 R35). First what a word does on its own, then what reading and replacing
one does to the state, then one lemma for each instruction, for an access that passes its checks (`State.reachesV`).
-/

namespace Sys2Proof.Machine

/-! ## A versioned word (02 R35) -/

/-- The live versions of a word are VER and, while PLIVE is set, the one before it (08 R165). -/
theorem VWord.value_eq (x : VWord) (n : BitVec 16) :
    x.value n = if n = x.ver then some x.cur else if n = x.ver - 1 ∧ x.plive = true then some x.prev else none := by
  have hcur : x.ver - n = 0 ↔ n = x.ver := by bv_omega
  have hprev : x.ver - n = 1 ↔ n = x.ver - 1 := by bv_omega
  simp only [VWord.value, hcur, hprev]

theorem VWord.value_ver {x : VWord} {n : BitVec 16} (hver : n = x.ver) : x.value n = some x.cur := by
  rw [VWord.value_eq, if_pos hver]

theorem VWord.value_previous {x : VWord} {n : BitVec 16} (hprev : n = x.ver - 1) (hlive : x.plive = true) :
    x.value n = some x.prev := by
  have hver : n ≠ x.ver := by bv_omega
  rw [VWord.value_eq, if_neg hver, if_pos ⟨hprev, hlive⟩]

theorem VWord.value_not_live {x : VWord} {n : BitVec 16} (hver : n ≠ x.ver) (hprev : ¬(n = x.ver - 1 ∧ x.plive = true)) :
    x.value n = none := by
  rw [VWord.value_eq, if_neg hver, if_neg hprev]

/-- A version that is not published yet is not VER. -/
theorem VWord.ne_ver_of_ahead {x : VWord} {n : BitVec 16} (h : 32768 < (x.ver - n).toNat) : n ≠ x.ver := by
  rintro rfl
  simp at h

/-! ## Versioned words in the state -/

@[simp] theorem State.vword_setVword (s : State) (cl i : Nat) (w : VWord) : (s.setVword cl i w).vword cl i = w := by
  simp [State.vword, State.setVword]

@[simp] theorem State.vword_setMe (s : State) (x : Ctx) (cl i : Nat) : (s.setMe x).vword cl i = s.vword cl i := rfl
@[simp] theorem State.setVword_me (s : State) (cl i : Nat) (w : VWord) : (s.setVword cl i w).me = s.me := rfl

theorem State.tablesKept_setMe (s : State) (x : Ctx) : s.tablesKept (s.setMe x) := by
  simp [State.tablesKept]

theorem State.tablesKept_setVword_setMe (s : State) (cl i : Nat) (w : VWord) (x : Ctx) :
    s.tablesKept ((s.setVword cl i w).setMe x) := by
  simp [State.tablesKept, State.setVword]

/-- The index in its cluster of the versioned word at an address (02 R35). -/
def vindex (a : Word) : Nat := (a.toNat - 0x20000000) / 8

theorem State.vword_vindex (s : State) (a : Word) : s.vword s.clus (vindex a) = s.vwordAt a := rfl

/-- The checks of an access to a versioned word pass (08 R155, R164). -/
theorem State.accessV_reachesV {s : State} {a : Word} (h : s.reachesV a) : s.accessV a = .ok (vindex a) := by
  obtain ⟨hlo, hhi, hpanel, halign⟩ := h
  simp [State.accessV, ensure_bind, isVersioned, hlo, hhi, hpanel, halign, pure, Except.pure, vindex]

theorem State.finish_setVword {s : State} (h : s.alone) (cl i : Nat) (w : VWord) (len : Nat) :
    (s.setVword cl i w).finish len = (s.setVword cl i w).setMe (s.me.after len) :=
  State.finish_pc (t := s.setVword cl i w) h.1 h.2.1 len

/-! ## The instructions, where gA names the word `x` and gB the version `n` -/

section
variable {s : State} {a b : Fin 32} {x : VWord} {n : BitVec 16} (h : s.alone) (hr : s.reachesV (s.me.reg a))
  (hx : s.vwordAt (s.me.reg a) = x) (hn : (s.me.reg b).truncate 16 = n) (d : Fin 32)
include h hr hx

/-- VPROBE (08 R168): PLIVE above VER. -/
theorem execVprobe_reachesV :
    execVprobe a d s = .next (s.gives 4 d (BitVec.ofNat 64 (x.ver.toNat + if x.plive then 65536 else 0))) := by
  have hbits : b2n x.plive * 65536 + x.ver.toNat = x.ver.toNat + if x.plive then 65536 else 0 := by
    cases x.plive <;> simp [b2n, Nat.add_comm]
  simp only [execVprobe, issue_alone h, State.srcA_alone h, State.accessV_reachesV hr, State.vword_vindex, hx, bind,
    Except.bind, State.writeG_alone h.2.2.1, State.finish_setG h, hbits]
  rfl

include hn

/-- LDV of a live version (08 R165). -/
theorem execLdv_live {v : Word} (hv : x.value n = some v) : execLdv b a d s = .next (s.gives 4 d v) := by
  simp only [execLdv, issue_alone h, State.srcA_alone h, State.srcB_alone h, State.accessV_reachesV hr, State.vword_vindex, hx,
    hn, hv, bind, Except.bind, State.writeG_alone h.2.2.1, State.finish_setG h]
  rfl

/-- LDV of a version that is not live: it is gone, or to come (08 R165). -/
theorem execLdv_not_live (hv : x.value n = none) :
    execLdv b a d s =
      if (x.ver - n).toNat ≤ 32768
      then .next (s.takeTrap 4 { cause := .versionReclaimed, tval := s.me.reg a, late := true })
      else .next (s.waits (.ldv b a d) (.version s.clus (vindex (s.me.reg a)) x.ver)) := by
  simp only [execLdv, issue_alone h, State.srcA_alone h, State.srcB_alone h, State.accessV_reachesV hr, State.vword_vindex, hx,
    hn, hv, bind, Except.bind]
  by_cases hgone : (x.ver - n).toNat ≤ 32768
  · rw [if_pos hgone, if_pos hgone]; rfl
  · rw [if_neg hgone, if_neg hgone]; rfl

/-- STV (08 R166): it takes its turn once the previous version is reclaimed, and only the next version may be published. -/
theorem execStv_reachesV :
    execStv b a d s =
      if x.plive = false ∧ s.first (.plive s.clus (vindex (s.me.reg a))) = true then
        if n = x.ver + 1
        then .next ((s.setVword s.clus (vindex (s.me.reg a)) (x.publish n (s.me.reg d))).setMe (s.me.after 4))
        else .next (s.takeTrap 4 { cause := .versionOrder, tval := s.me.reg a, late := true })
      else .next (s.waits (.stv b a d) (.plive s.clus (vindex (s.me.reg a)))) := by
  simp only [execStv, issue_alone h, State.srcA_alone h, State.srcB_alone h, State.srcD_alone h, State.accessV_reachesV hr,
    State.vword_vindex, hx, hn, waitFor, bind, Except.bind, Bool.and_eq_true, Bool.not_eq_true']
  by_cases hturn : x.plive = false ∧ s.first (.plive s.clus (vindex (s.me.reg a))) = true
  · rw [if_pos hturn, if_pos hturn]
    by_cases hnext : n = x.ver + 1
    · simp only [if_pos hnext, State.finish_setVword h]; rfl
    · simp only [if_neg hnext]; rfl
  · rw [if_neg hturn, if_neg hturn]; rfl

/-- VRCL (08 R167): the previous version is reclaimed when it is live and the one that gB names. -/
theorem execVrcl_reachesV :
    execVrcl b a s =
      if x.plive = true ∧ n = x.ver - 1
      then .next ((s.setVword s.clus (vindex (s.me.reg a)) { x with plive := false }).setMe (s.me.after 4))
      else .next (s.setMe (s.me.after 4)) := by
  simp only [execVrcl, issue_alone h, State.srcA_alone h, State.srcB_alone h, State.accessV_reachesV hr, State.vword_vindex,
    hx, hn, bind, Except.bind, pure, Except.pure]
  by_cases hprev : x.plive = true ∧ n = x.ver - 1
  · rw [if_pos hprev, if_pos hprev, State.finish_setVword h]; rfl
  · rw [if_neg hprev, if_neg hprev, State.finish_pc h.1 h.2.1]; rfl

end

/-! ## The obligation -/

/-- Settles O10: LDV by which versions are live (`VWord.value_ver`, `VWord.value_previous`,
`VWord.value_not_live`), STV, VRCL and VPROBE by the branches of their rules. -/
theorem versionedWords : Obligations.VersionedWords := by
  unfold Obligations.VersionedWords
  intro s b a d h addr n i x hr
  have hx : s.vwordAt (s.me.reg a) = x := rfl
  have hn : (s.me.reg b).truncate 16 = n := rfl
  refine ⟨?current, ?previous, ?reclaimed, ?unpublished, ?stv_turn, ?stv_waits, ?vrcl, execVprobe_reachesV h hr hx d⟩
  case current => exact fun hver => execLdv_live h hr hx hn d (VWord.value_ver hver)
  case previous => exact fun hprev hlive => execLdv_live h hr hx hn d (VWord.value_previous hprev hlive)
  case reclaimed =>
    intro hver hprev hgone
    exact (execLdv_not_live h hr hx hn d (VWord.value_not_live hver hprev)).trans (if_pos hgone)
  case unpublished =>
    intro hahead hprev
    have hver := VWord.ne_ver_of_ahead hahead
    exact (execLdv_not_live h hr hx hn d (VWord.value_not_live hver hprev)).trans (if_neg (Nat.not_le.mpr hahead))
  case stv_turn =>
    intro hdead hfirst
    have hstv := (execStv_reachesV h hr hx hn d).trans (if_pos ⟨hdead, hfirst⟩)
    refine ⟨fun hnext => ⟨_, hstv.trans (if_pos hnext), ?_⟩, fun hskip => hstv.trans (if_neg hskip)⟩
    exact ⟨by simp, by simp, State.tablesKept_setVword_setMe .., State.vword_setVword ..⟩
  case stv_waits =>
    intro hlive
    exact (execStv_reachesV h hr hx hn d).trans (if_neg fun hturn => Bool.noConfusion (hlive.symm.trans hturn.1))
  case vrcl =>
    have hvrcl := execVrcl_reachesV h hr hx hn
    by_cases hc : x.plive = true ∧ n = x.ver - 1
    · refine ⟨_, hvrcl.trans (if_pos hc), by simp, by simp, State.tablesKept_setVword_setMe .., ?_⟩
      rw [if_pos hc]; exact State.vword_setVword ..
    · refine ⟨_, hvrcl.trans (if_neg hc), by simp, by simp, State.tablesKept_setMe .., ?_⟩
      rw [if_neg hc]; rfl

end Sys2Proof.Machine
end

section
/-!
The vector instructions of 09_vector.md R188 to R190, R197 and R198 (Table 09-3) in a context that issues alone. First lanes packed
into a register and read back (R180, R182), then the destination written, then one lemma for each shared shape of instruction, then
the compares, and the obligation.
-/

namespace Sys2Proof.Machine

/-! ## Lanes of a register (09 R180) -/

theorem laneOf_mod (w v k : Nat) : laneOf w v k % 2 ^ w = laneOf w v k := Nat.mod_mod ..

/-- Lanes packed in order fill no more than their width. -/
theorem lanesOut_lt (w : Nat) (f : Nat → Nat × Fl) (n i : Nat) : (lanesOut w f n i).1 < 2 ^ (w * n) := by
  induction n generalizing i with
  | zero => simp [lanesOut]
  | succ n ih =>
    have hlow : (f i).1 % 2 ^ w < 2 ^ w := Nat.mod_lt _ (by positivity)
    calc (f i).1 % 2 ^ w + 2 ^ w * (lanesOut w f n (i + 1)).1
        < 2 ^ w + 2 ^ w * (lanesOut w f n (i + 1)).1 := by omega
      _ = 2 ^ w * ((lanesOut w f n (i + 1)).1 + 1) := by ring
      _ ≤ 2 ^ w * 2 ^ (w * n) := Nat.mul_le_mul_left _ (ih (i + 1))
      _ = 2 ^ (w * (n + 1)) := by ring

theorem laneOf_succ (w v k : Nat) : laneOf w v (k + 1) = laneOf w (v / 2 ^ w) k := by
  rw [laneOf, laneOf, Nat.div_div_eq_div_mul, ← Nat.pow_add, Nat.mul_succ, Nat.add_comm w]

/-- A lane packed is the lane read back. -/
theorem laneOf_lanesOut (w : Nat) (f : Nat → Nat × Fl) {n k : Nat} (hk : k < n) (i : Nat) :
    laneOf w (lanesOut w f n i).1 k = (f (i + k)).1 % 2 ^ w := by
  induction n generalizing i k with
  | zero => omega
  | succ n ih =>
    have hpos : 0 < 2 ^ w := by positivity
    have hlow : (f i).1 % 2 ^ w < 2 ^ w := Nat.mod_lt _ hpos
    cases k with
    | zero => simp [laneOf, lanesOut, Nat.add_mul_mod_self_left]
    | succ k =>
      have hhigh : (lanesOut w f (n + 1) i).1 / 2 ^ w = (lanesOut w f n (i + 1)).1 := by
        rw [lanesOut, Nat.add_mul_div_left _ _ hpos, Nat.div_eq_of_lt hlow, Nat.zero_add]
      rw [laneOf_succ, hhigh, ih (Nat.lt_of_succ_lt_succ hk), Nat.add_right_comm, Nat.add_assoc]

/-- Lanes that fit in a register stand there as they were packed. -/
theorem toNat_ofNat_lanesOut {w n size : Nat} (hfit : w * n ≤ size) (f : Nat → Nat × Fl) (i : Nat) :
    (BitVec.ofNat size (lanesOut w f n i).1).toNat = (lanesOut w f n i).1 := by
  rw [BitVec.toNat_ofNat, Nat.mod_eq_of_lt]
  exact (lanesOut_lt ..).trans_le (Nat.pow_le_pow_right (by decide) hfit)

/-- The lanes of a format fit in a vector register (09 R180). -/
theorem bits_mul_lanes_le (t : Fmt) : t.bits * t.lanes ≤ 4096 := Nat.mul_div_le 4096 t.bits

/-- Lanes one bit wide are the bits of the number (09 R190). -/
theorem testBit_lanesOut_one (f : Nat → Nat × Fl) (n k : Nat) :
    (lanesOut 1 f n 0).1.testBit k = (decide (k < n) && decide ((f k).1 % 2 = 1)) := by
  by_cases hk : k < n
  · have hbit := laneOf_lanesOut 1 f hk 0
    rw [laneOf, Nat.one_mul, Nat.zero_add, Nat.pow_one] at hbit
    rw [Nat.testBit_eq_decide_div_mod_eq, hbit]
    simp [hk]
  · have hlt : (lanesOut 1 f n 0).1 < 2 ^ k :=
      (lanesOut_lt 1 f n 0).trans_le (Nat.pow_le_pow_right (by decide) (by omega))
    simp [Nat.testBit_lt_two_pow hlt, hk]

/-! ## Lanes under a predicate (09 R182) -/

theorem lanesOut_flags (w : Nat) (f : Nat → Nat × Fl) (n i : Nat) :
    (lanesOut w f n i).2 = (List.range' i n).foldr (fun k g => (f k).2 ||| g) 0 := by
  induction n generalizing i with
  | zero => rfl
  | succ n ih => simp [lanesOut, List.range'_succ, ih]

/-- The flags of the active lanes in any order. -/
theorem raised_eq_foldr (n : Nat) (p : PReg) (g : Nat → Fl) :
    raised n p g = (List.range n).foldr (fun k f => (if lane p k then g k else 0) ||| f) 0 := by
  have hactive : ∀ (f : Fl) (k : Nat), (if lane p k then f ||| g k else f) = f ||| if lane p k then g k else 0 := by
    intro f k
    split <;> simp
  rw [raised, activeLanes, List.foldl_filter]
  simp only [hactive]
  rw [← List.foldl_map, List.foldl_eq_foldr, List.foldr_map]

theorem raised_congr {n : Nat} {p : PReg} {f g : Nat → Fl} (h : ∀ k, f k = g k) : raised n p f = raised n p g := by
  rw [funext h]

theorem raised_zero (n : Nat) (p : PReg) : raised n p (fun _ => 0) = 0 := by
  simp [raised]

/-- Lanes under a predicate raise the flags of the active ones. -/
theorem lanesOut_masked_flags (w : Nat) (p : PReg) (old n : Nat) (f : Nat → Nat × Fl) :
    (lanesOut w (masked w p old f) n 0).2 = raised n p (fun k => (f k).2) := by
  rw [lanesOut_flags, raised_eq_foldr, List.range_eq_range']
  simp only [masked, apply_ite Prod.snd]

/-- A masked lane keeps its old code (09 R182). -/
theorem masked_fst_mod (w : Nat) (p : PReg) (old : Nat) (f : Nat → Nat × Fl) (k : Nat) :
    (masked w p old f k).1 % 2 ^ w = if lane p k then (f k).1 % 2 ^ w else laneOf w old k := by
  rw [masked]
  split
  · rfl
  · exact laneOf_mod ..

/-! ## A vector destination -/

@[simp] theorem Ctx.after_v (x : Ctx) (len : Nat) : (x.after len).v = x.v := by
  unfold Ctx.after Ctx.advance
  split <;> [rfl; (split <;> rfl)]

theorem State.vfmt_elem {s : State} {e : BitVec 4} {t : Fmt} (he : e.toNat < 12) (ht : s.me.elem e.toNat = .ok t) :
    s.vfmt true e = .ok t := by
  simp [State.vfmt, ensureWord_bind, he, ht]

theorem State.oldV_alone {s : State} (h : s.alone) (d : Fin 16) : s.oldV d = (s.me.v[d], s) := by
  simp [State.oldV, Ctx.vport_none h.2.2.1]

@[simp] theorem State.raiseFlags_me (s : State) (fl : Fl) :
    (s.raiseFlags fl).me = { s.me with flags := s.me.flags ||| fl } := State.me_setMe ..

@[simp] theorem State.held_raiseFlags (s : State) (fl : Fl) : (s.raiseFlags fl).held = s.held := rfl

/-- Counting vector work changes no context. -/
@[simp] theorem State.me_setMine_busyVec (s : State) (n : Nat) : (s.setMine { s.mine with busyVec := n }).me = s.me := by
  simp [State.me, State.ctx, State.setMine, State.mine]

@[simp] theorem State.setV_me (s : State) (d : Fin 16) (v : VReg) : (s.setV d v).me = { s.me with v := s.me.v.set d v } := by
  simp [State.setV]

/-- Raising no flag before a vector register is written is the same as not raising any. -/
theorem State.setV_raiseFlags_zero (s : State) (d : Fin 16) (v : VReg) : (s.raiseFlags 0).setV d v = s.setV d v := by
  simp [State.setV, State.raiseFlags]

/-- A destination that may be written is, with the flags raised before it. -/
theorem State.writeV_raiseFlags {s : State} (h : s.alone) {d : Fin 16} (hd : s.mayV d) (fl : Fl) (v : VReg) :
    (s.raiseFlags fl).writeV d v = .ok ((s.raiseFlags fl).setV d v) :=
  State.writeV_alone (by simpa using h.2.2.1) d v (by rwa [State.raiseFlags_me, State.held_raiseFlags])

theorem State.writeV_silent {s : State} (h : s.alone) {d : Fin 16} (hd : s.mayV d) (v : VReg) :
    s.writeV d v = .ok ((s.raiseFlags 0).setV d v) := by
  rw [State.setV_raiseFlags_zero, State.writeV_alone h.2.2.1 d v hd]

theorem groupRegs_one (d : Fin 16) : groupRegs d 1 = [d] := by
  simp [groupRegs]

/-- Flags raised, one vector register written, and on to the next instruction. -/
theorem State.vGives_finish_setV {s : State} (h : s.alone) (fl : Fl) (d : Fin 16) (v : VReg) :
    s.vGives (((s.raiseFlags fl).setV d v).finish 4) fl d 1 ∧ (((s.raiseFlags fl).setV d v).finish 4).me.v[d] = v := by
  have hfinish : ((s.raiseFlags fl).setV d v).finish 4 = ((s.raiseFlags fl).setV d v).setMe
      (({ s.me with flags := s.me.flags ||| fl, v := s.me.v.set d v } : Ctx).after 4) := by
    rw [State.finish_pc (by simp [State.setV, State.raiseFlags, h.1]) (by simp [h.2.1])]
    simp
  rw [hfinish]
  refine ⟨⟨⟨s.me.v.set d v, by simp, ?others⟩, ?mem, ?clusters, ?tables⟩, by simp⟩
  case others =>
    intro q hq
    rw [groupRegs_one, List.mem_singleton] at hq
    have hne : d.val ≠ q.val := fun e => hq (Fin.ext e.symm)
    simp [hne]
  case mem | clusters | tables => simp [State.setV, State.raiseFlags, State.tablesKept]

/-! ## The shared shapes of instruction -/

/-- An instruction answers a state in which vD holds the lanes that `F` gives under predicate `p`, with the flags of the active
ones. -/
def State.lanesGiven (s : State) (o : Host.Outcome State Fault Refusal) (t : Fmt) (p : Fin 8) (d : Fin 16)
    (F : Nat → Nat × Fl) : Prop :=
  ∃ u : State, o = .next u ∧ s.vGives u (raised t.lanes (s.me.pred p) (fun k => (F k).2)) d 1 ∧
    lanesAre t.bits t.lanes (s.me.pred p) u.me.v[d].toNat s.me.v[d].toNat (fun k => (F k).1)

/-- A body that writes packed lanes to vD leaves each of them there. -/
theorem issue_setV_lanes {s : State} (h : s.alone) {i : Instr} (hi : i.len = 4) {body : State → M State} {fl : Fl} {d : Fin 16}
    {t : Fmt} {F : Nat → Nat × Fl}
    (hb : body s = .ok ((s.raiseFlags fl).setV d (BitVec.ofNat 4096 (lanesOut t.bits F t.lanes 0).1))) :
    ∃ u : State, issue i body s = .next u ∧ s.vGives u fl d 1 ∧
      ∀ k < t.lanes, laneOf t.bits u.me.v[d].toNat k = (F k).1 % 2 ^ t.bits := by
  obtain ⟨hgives, hreg⟩ := State.vGives_finish_setV h fl d (BitVec.ofNat 4096 (lanesOut t.bits F t.lanes 0).1)
  refine ⟨_, by rw [issue_alone h, hb, hi], hgives, fun k hk => ?_⟩
  rw [hreg, toNat_ofNat_lanesOut (bits_mul_lanes_le t), laneOf_lanesOut _ _ hk, Nat.zero_add]

/-- A body that writes lanes under a predicate to vD, and raises the flags of the active ones. -/
theorem issue_setV_masked {s : State} (h : s.alone) {i : Instr} (hi : i.len = 4) {body : State → M State} {fl : Fl} {d : Fin 16}
    {t : Fmt} {p : Fin 8} {F : Nat → Nat × Fl} (hfl : fl = raised t.lanes (s.me.pred p) (fun k => (F k).2))
    (hb : body s = .ok ((s.raiseFlags fl).setV d (BitVec.ofNat 4096
      (lanesOut t.bits (masked t.bits (s.me.pred p) s.me.v[d].toNat F) t.lanes 0).1))) :
    s.lanesGiven (issue i body s) t p d F := by
  obtain ⟨u, hu, hgives, hlanes⟩ := issue_setV_lanes h hi hb
  exact ⟨u, hu, hfl ▸ hgives, fun k hk => (hlanes k hk).trans (masked_fst_mod ..)⟩

/-- The codes and the flags of the lanes by functions of their own; of a code only the low bits count. -/
theorem State.lanesGiven.split {s : State} {o : Host.Outcome State Fault Refusal} {t : Fmt} {p : Fin 8} {d : Fin 16}
    {F : Nat → Nat × Fl} {f : Nat → Nat} {g : Nat → Fl} (h : s.lanesGiven o t p d F)
    (hcode : ∀ k, (F k).1 % 2 ^ t.bits = f k % 2 ^ t.bits) (hfl : ∀ k, (F k).2 = g k) :
    ∃ u : State, o = .next u ∧ s.vGives u (raised t.lanes (s.me.pred p) g) d 1 ∧
      lanesAre t.bits t.lanes (s.me.pred p) u.me.v[d].toNat s.me.v[d].toNat f := by
  obtain ⟨u, hu, hgives, hlanes⟩ := h
  refine ⟨u, hu, raised_congr hfl ▸ hgives, fun k hk => (hlanes k hk).trans ?_⟩
  rw [hcode]

/-- Lanes that raise nothing, by their codes. -/
theorem State.lanesGiven.silent {s : State} {o : Host.Outcome State Fault Refusal} {t : Fmt} {p : Fin 8} {d : Fin 16}
    {f : Nat → Nat} (h : s.lanesGiven o t p d (fun k => (f k, 0))) :
    ∃ u : State, o = .next u ∧ s.vGives u 0 d 1 ∧
      lanesAre t.bits t.lanes (s.me.pred p) u.me.v[d].toNat s.me.v[d].toNat f := by
  obtain ⟨u, hu, hgives, hlanes⟩ := h
  exact ⟨u, hu, raised_zero .. ▸ hgives, hlanes⟩

section

variable {s : State} {e : BitVec 4} {t : Fmt} {d : Fin 16} (h : s.alone) (hd : s.mayV d) (he : e.toNat < 12)
  (ht : s.me.elem e.toNat = .ok t)
include h hd he ht

theorem v2Op_alone {i : Instr} (hi : i.len = 4) {ok : BitVec 4 → Bool} (hok : ok e = true) (p : Fin 8) (a b : Fin 16) (f : Lane) :
    s.lanesGiven (v2Op i ok e p a b d f s) t p d (fun k => f t s.me.rm (laneOf t.bits s.me.v[a].toNat k)
      (laneOf t.bits s.me.v[b].toNat k) (laneOf t.bits s.me.v[d].toNat k)) := by
  refine issue_setV_masked h hi (lanesOut_masked_flags t.bits _ s.me.v[d].toNat _ _) ?_
  simp only [hok, State.vfmt_elem he ht, State.readV_alone h.2.2.1, State.oldV_alone h, bind, Except.bind,
    State.writeV_raiseFlags h hd]

theorem v1Op_alone {i : Instr} (hi : i.len = 4) {ok : BitVec 4 → Bool} (hok : ok e = true) (p : Fin 8) (a : Fin 16)
    (f : Fmt → Rm → Nat → Nat × Fl) :
    s.lanesGiven (v1Op i ok e p a d f s) t p d (fun k => f t s.me.rm (laneOf t.bits s.me.v[a].toNat k)) := by
  refine issue_setV_masked h hi (lanesOut_masked_flags t.bits _ s.me.v[d].toNat _ _) ?_
  simp only [hok, State.vfmt_elem he ht, State.readV_alone h.2.2.1, State.oldV_alone h, bind, Except.bind,
    State.writeV_raiseFlags h hd]

theorem vgOp_alone {i : Instr} (hi : i.len = 4) {ok : BitVec 4 → Bool} (hok : ok e = true) (p : Fin 8) (g : Fin 32) (a : Fin 16)
    (f : Fmt → Word → Nat → Nat → Nat × Fl) :
    s.lanesGiven (vgOp i ok e p g a d f s) t p d (f t (s.me.reg g) s.me.v[a].toNat) := by
  refine issue_setV_masked h hi (lanesOut_masked_flags t.bits _ s.me.v[d].toNat _ _) ?_
  simp only [hok, State.vfmt_elem he ht, State.srcB_alone h, State.readV_alone h.2.2.1, State.oldV_alone h, bind, Except.bind,
    State.writeV_raiseFlags h hd]

theorem vsOp_alone {i : Instr} (hi : i.len = 4) (p : Fin 8) (g : Fin 32) (f : Fmt → Rm → Word → Nat → Nat × Fl) :
    s.lanesGiven (vsOp i e p g d f s) t p d (f t s.me.rm (s.me.reg g)) := by
  refine issue_setV_masked h hi (lanesOut_masked_flags t.bits _ s.me.v[d].toNat _ _) ?_
  simp only [State.vfmt_elem he ht, State.srcB_alone h, State.oldV_alone h, bind, Except.bind, State.writeV_raiseFlags h hd]

/-! ## The moves and the select (09 R189, R197) -/

theorem execVperm_alone (p : Fin 8) (b a : Fin 16) :
    s.lanesGiven (execVperm e p b a d s) t p d (fun k =>
      (laneOf t.bits s.me.v[a].toNat (laneOf t.bits s.me.v[b].toNat k % t.lanes), 0)) := by
  refine issue_setV_masked (fl := 0) h rfl (raised_zero ..).symm ?_
  simp only [State.vfmt_elem he ht, State.readV_alone h.2.2.1, State.oldV_alone h, bind, Except.bind, State.writeV_silent h hd]

theorem execVzero_alone (p : Fin 8) : s.lanesGiven (execVzero e p d s) t p d (fun _ => (0, 0)) := by
  refine issue_setV_masked (fl := 0) h rfl (raised_zero ..).symm ?_
  simp only [State.vfmt_elem he ht, State.oldV_alone h, bind, Except.bind, State.writeV_silent h hd]

theorem execVand_alone (p : Fin 8) (b a : Fin 16) : s.lanesGiven (execVand e p b a d s) t p d (fun k =>
    (laneOf t.bits s.me.v[a].toNat k &&& laneOf t.bits s.me.v[b].toNat k, 0)) :=
  v2Op_alone h hd he ht rfl rfl p a b (laneBits (· &&& ·))

theorem execVor_alone (p : Fin 8) (b a : Fin 16) : s.lanesGiven (execVor e p b a d s) t p d (fun k =>
    (laneOf t.bits s.me.v[a].toNat k ||| laneOf t.bits s.me.v[b].toNat k, 0)) :=
  v2Op_alone h hd he ht rfl rfl p a b (laneBits (· ||| ·))

theorem execVxor_alone (p : Fin 8) (b a : Fin 16) : s.lanesGiven (execVxor e p b a d s) t p d (fun k =>
    (laneOf t.bits s.me.v[a].toNat k ^^^ laneOf t.bits s.me.v[b].toNat k, 0)) :=
  v2Op_alone h hd he ht rfl rfl p a b (laneBits (· ^^^ ·))

theorem execVmov_alone (p : Fin 8) (a : Fin 16) : s.lanesGiven (execVmov e p a d s) t p d (fun k =>
    (laneOf t.bits s.me.v[a].toNat k, 0)) :=
  v1Op_alone h hd he ht rfl rfl p a (fun _ _ a => (a, 0))

theorem execVbcast_alone (p : Fin 8) (g : Fin 32) :
    s.lanesGiven (execVbcast e p g d s) t p d (fun _ => ((s.me.reg g).toNat, 0)) := by
  have hlow : s.lanesGiven (execVbcast e p g d s) t p d (fun _ => ((s.me.reg g).toNat % 2 ^ t.bits, 0)) :=
    vsOp_alone h hd he ht rfl p g _
  exact hlow.split (fun _ => Nat.mod_mod ..) (fun _ => rfl)

theorem execVins_alone (p : Fin 8) (g : Fin 32) (a : Fin 16) : s.lanesGiven (execVins e p g a d s) t p d (fun k =>
    (if k = 0 then (s.me.reg g).toNat else laneOf t.bits s.me.v[a].toNat (k - 1), 0)) := by
  have hlow : s.lanesGiven (execVins e p g a d s) t p d (fun k =>
      (if k = 0 then (s.me.reg g).toNat % 2 ^ t.bits else laneOf t.bits s.me.v[a].toNat (k - 1), 0)) :=
    vgOp_alone h hd he ht rfl rfl p g a _
  refine hlow.split (fun k => ?_) (fun _ => rfl)
  cases k with
  | zero => exact Nat.mod_mod ..
  | succ k => rfl

theorem execViota_alone (p : Fin 8) (g : Fin 32) : s.lanesGiven (execViota e p g d s) t p d (fun k =>
    if t.isInt then (intCode t.bits ((s.me.reg g).toInt + k), 0)
    else roundTo (.ofInt ((s.me.reg g).toInt + k)) t s.me.rm false) :=
  vsOp_alone h hd he ht rfl p g _

theorem execVclamp_alone (p : Fin 8) (g : Fin 32) (a : Fin 16) : s.lanesGiven (execVclamp e p g a d s) t p d (fun k =>
    laneClamp t (s.me.reg g) (laneOf t.bits s.me.v[a].toNat k)) :=
  vgOp_alone h hd he ht rfl rfl p g a _

/-- The select writes every lane: the predicate chooses its source. -/
theorem execVsel_alone (p : Fin 8) (b a : Fin 16) :
    ∃ u : State, execVsel e p b a d s = .next u ∧ s.vGives u 0 d 1 ∧ ∀ k < t.lanes, laneOf t.bits u.me.v[d].toNat k =
      if lane (s.me.pred p) k then laneOf t.bits s.me.v[a].toNat k else laneOf t.bits s.me.v[b].toNat k := by
  suffices hmasked : ∃ u : State, execVsel e p b a d s = .next u ∧ s.vGives u 0 d 1 ∧ ∀ k < t.lanes,
      laneOf t.bits u.me.v[d].toNat k = (masked t.bits (s.me.pred p) s.me.v[b].toNat
        (fun j => (laneOf t.bits s.me.v[a].toNat j, 0)) k).1 % 2 ^ t.bits by
    simpa only [masked_fst_mod, laneOf_mod] using hmasked
  refine issue_setV_lanes h rfl ?_
  simp only [State.vfmt_elem he ht, State.readV_alone h.2.2.1, bind, Except.bind, State.writeV_silent h hd]

end

/-! ## The lane that goes to a general register (09 R198) -/

theorem State.finish_alone {s : State} (h : s.alone) (len : Nat) : s.finish len = s.onMe len id :=
  State.finish_pc h.1 h.2.1 len

theorem execVext_alone {s : State} {e : BitVec 4} {t : Fmt} (h : s.alone) (he : e.toNat < 12) (ht : s.me.elem e.toNat = .ok t)
    (p : Fin 8) (g : Fin 32) (a : Fin 16) :
    execVext e p g a s = .next (
      let k := (s.me.reg g).toNat % t.lanes
      let x := laneOf t.bits s.me.v[a].toNat k
      if lane (s.me.pred p) k then s.gives 4 g (if t.isInt then BitVec.ofInt 64 (intOf t x) else BitVec.ofNat 64 x)
      else s.onMe 4 id) := by
  simp only [execVext, issue_alone h, State.vfmt_elem he ht, State.srcB_alone h, State.readV_alone h.2.2.1, bind, Except.bind]
  by_cases hlane : lane (s.me.pred p) ((s.me.reg g).toNat % t.lanes) = true
  · simp only [if_pos hlane, State.writeG_alone h.2.2.1, State.finish_setG h]
    rfl
  · simp only [if_neg hlane, State.finish_alone h]
    rfl

/-! ## The clamp (09 R188) -/

/-- A signalling NaN is a NaN. -/
theorem sig_eq_false_of_isNan_eq_false {v : Val} (h : v.isNan = false) : v.sig = false := by
  cases v with
  | nan sig => simp [Val.isNan] at h
  | inf neg => rfl
  | fin neg x => rfl

/-- A clamp raises NV for a signalling NaN alone. -/
theorem clampTo_snd (f : Fmt) (a : Nat) (lo hi : Option (Val × Nat)) :
    (clampTo f a lo hi).2 = if (decodeVal f a).sig then flNV else 0 := by
  cases hnan : (decodeVal f a).isNan with
  | true => simp [clampTo, hnan, nanFl]
  | false =>
    simp only [clampTo, hnan, sig_eq_false_of_isNan_eq_false hnan, Bool.false_eq_true, if_false]
    split <;> rfl

/-- A clamp gives the greater bound to what lies above it, then the lesser one to what lies below it. -/
theorem clampTo_fst (f : Fmt) (a : Nat) (lo hi : Option (Val × Nat)) :
    (clampTo f a lo hi).1 =
      if (decodeVal f a).isNan then f.nanCode
      else match hi.filter (fun h => Val.cmp (decodeVal f a) h.1 > 0), lo.filter (fun l => Val.cmp (decodeVal f a) l.1 < 0) with
        | some h, _ => h.2
        | none, some l => l.2
        | none, none => a := by
  cases hnan : (decodeVal f a).isNan with
  | true => simp [clampTo, hnan]
  | false =>
    simp only [clampTo, hnan, Bool.false_eq_true, if_false]
    cases hi with
    | none =>
      cases lo with
      | none => rfl
      | some l => by_cases hl : Val.cmp (decodeVal f a) l.1 < 0 <;> simp [Option.filter, hl]
    | some h =>
      by_cases hh : Val.cmp (decodeVal f a) h.1 > 0
      · simp [Option.filter, hh]
      · cases lo with
        | none => simp [Option.filter, hh]
        | some l => by_cases hl : Val.cmp (decodeVal f a) l.1 < 0 <;> simp [Option.filter, hh, hl]

/-! ## The compares (09 R190) -/

/-- The order of two integers as a compare sees it: −1, 0 or 1, as `Val.cmp` answers for exact values. -/
def intOrder (m n : Int) : Int := if m < n then -1 else if m = n then 0 else 1

theorem intOrder_eq_zero (m n : Int) : intOrder m n = 0 ↔ m = n := by
  unfold intOrder
  split <;> [skip; split] <;> omega

theorem intOrder_neg (m n : Int) : intOrder m n < 0 ↔ m < n := by
  unfold intOrder
  split <;> [skip; split] <;> omega

theorem intOrder_nonpos (m n : Int) : intOrder m n ≤ 0 ↔ m ≤ n := by
  unfold intOrder
  split <;> [skip; split] <;> omega

theorem laneCmp_fst {okv : Int → Bool} {ok : Int → Int → Bool} (hok : ∀ m n, okv (intOrder m n) = ok m n) (f : Fmt)
    (quiet : Bool) (a b : Nat) :
    (laneCmp f okv quiet a b).1 = if f.isInt then ok (intOf f a) (intOf f b)
      else !((decodeVal f a).isNan || (decodeVal f b).isNan) && okv (Val.cmp (decodeVal f a) (decodeVal f b)) := by
  cases hint : f.isInt with
  | true => simp [laneCmp, hint, ← hok, intOrder]
  | false => cases hnan : (decodeVal f a).isNan || (decodeVal f b).isNan <;> simp [laneCmp, hint, hnan]

theorem laneCmp_snd (f : Fmt) (okv : Int → Bool) (quiet : Bool) (a b : Nat) :
    (laneCmp f okv quiet a b).2 = if f.isInt then 0 else
      if (decodeVal f a).sig ∨ (decodeVal f b).sig ∨ (quiet = false ∧ ((decodeVal f a).isNan ∨ (decodeVal f b).isNan))
      then flNV else 0 := by
  cases hint : f.isInt with
  | true => simp [laneCmp, hint]
  | false =>
    cases hnan : (decodeVal f a).isNan || (decodeVal f b).isNan with
    | true =>
      have hany := Bool.or_eq_true_iff.mp hnan
      cases quiet <;> simp [laneCmp, hint, hnan, hany, nanFl]
    | false =>
      obtain ⟨ha, hb⟩ := Bool.or_eq_false_iff.mp hnan
      simp [laneCmp, hint, ha, hb, sig_eq_false_of_isNan_eq_false ha, sig_eq_false_of_isNan_eq_false hb]

theorem odd_b2n (c : Bool) : decide (b2n c % 2 = 1) = c := by
  cases c <;> rfl

/-- The predicate registers after a write of `v` to pD: a write of p0 is discarded. -/
def Ctx.predsSet (x : Ctx) (d : Fin 8) (v : PReg) : Vector PReg 8 := if d = 0 then x.p else x.p.set d v

theorem Ctx.predsSet_same (x : Ctx) {d : Fin 8} (hd : d ≠ 0) (v : PReg) : (x.predsSet d v)[d] = v := by
  simp [Ctx.predsSet, hd]

theorem Ctx.predsSet_other (x : Ctx) {d q : Fin 8} (hq : q ≠ d ∨ d = 0) (v : PReg) : (x.predsSet d v)[q] = x.p[q] := by
  unfold Ctx.predsSet
  split
  · rfl
  · next hd =>
    have hne : d.val ≠ q.val := fun e => (hq.resolve_right hd) (Fin.ext e.symm)
    simp [hne]

/-- Flags raised, a predicate register written, and on to the next instruction. -/
theorem State.finish_setP {s : State} (h : s.alone) (fl : Fl) (d : Fin 8) (v : PReg) :
    ((s.raiseFlags fl).setP d v).finish 4 =
      s.setMe (({ s.me with flags := s.me.flags ||| fl, p := s.me.predsSet d v } : Ctx).after 4) := by
  have hsetP : (s.raiseFlags fl).setP d v = s.setMe { s.me with flags := s.me.flags ||| fl, p := s.me.predsSet d v } := by
    unfold State.setP Ctx.predsSet
    split <;> simp [State.raiseFlags]
  rw [hsetP, State.finish_pc (by simp [h.1]) (by simp [h.2.1])]
  simp

/-- The lanes of a compare are the bits of its predicate: the compare's outcome, the old bit where masked, 0 past the lanes. -/
theorem testBit_lanesOut_masked (p : PReg) (old : Nat) (c : Nat → Bool × Fl) (n k : Nat) :
    (lanesOut 1 (masked 1 p old (fun j => (b2n (c j).1, (c j).2))) n 0).1.testBit k =
      (decide (k < n) && if lane p k then (c k).1 else old.testBit k) := by
  rw [testBit_lanesOut_one, masked]
  cases lane p k with
  | true => simp [odd_b2n]
  | false => simp [laneOf, Nat.testBit_eq_decide_div_mod_eq]

theorem vcmpOp_alone {s : State} {e : BitVec 4} {t : Fmt} (h : s.alone) (he : e.toNat < 12) (ht : s.me.elem e.toNat = .ok t)
    {i : Instr} (hi : i.len = 4) (p : Fin 8) (a b : Fin 16) (pd : Fin 8) (okv : Int → Bool) (quiet : Bool) :
    let c := fun k => laneCmp t okv quiet (laneOf t.bits s.me.v[a].toNat k) (laneOf t.bits s.me.v[b].toNat k)
    ∃ (u : State) (ps : Vector PReg 8), vcmpOp i e p a b pd okv quiet s = .next u ∧ u.mem = s.mem ∧ s.tablesKept u ∧
      u.me = ({ s.me with flags := s.me.flags ||| raised t.lanes (s.me.pred p) (fun k => (c k).2), p := ps } : Ctx).after 4 ∧
      (∀ q : Fin 8, q ≠ pd ∨ pd = 0 → ps[q] = s.me.p[q]) ∧
      (pd ≠ 0 → ∀ k < 1024, ps[pd].getLsbD k =
        (decide (k < t.lanes) && if lane (s.me.pred p) k then (c k).1 else (s.me.pred pd).getLsbD k)) := by
  intro c
  have hrun : vcmpOp i e p a b pd okv quiet s = .next (((s.raiseFlags (raised t.lanes (s.me.pred p) (fun k => (c k).2))).setP pd
      (BitVec.ofNat 1024 (lanesOut 1 (masked 1 (s.me.pred p) (s.me.pred pd).toNat
        (fun k => (b2n (c k).1, (c k).2))) t.lanes 0).1)).finish 4) := by
    rw [← lanesOut_masked_flags 1 (s.me.pred p) (s.me.pred pd).toNat t.lanes (fun k => (b2n (c k).1, (c k).2))]
    simp only [vcmpOp, issue_alone h, State.vfmt_elem he ht, State.readV_alone h.2.2.1, bind, Except.bind, pure, Except.pure, hi]
    rfl
  rw [hrun, State.finish_setP h]
  refine ⟨_, _, rfl, rfl, State.tablesKept_setMe .., State.me_setMe .., fun q hq => Ctx.predsSet_other _ hq _,
    fun hpd k hk => ?_⟩
  rw [Ctx.predsSet_same _ hpd, BitVec.getLsbD_ofNat, testBit_lanesOut_masked]
  simp [hk, BitVec.getLsbD]

/-! ## The obligation -/

/-- Settles O35: lanes by the shared shapes of instruction (`v2Op_alone` and those beside it), the clamp by `clampTo_fst`, the
compares by `vcmpOp_alone` and `laneCmp_fst`. -/
theorem vectorMovesAndCompares : Obligations.VectorMovesAndCompares := by
  unfold Obligations.VectorMovesAndCompares
  intro s e t p pd g b a d h he ht m x y c
  refine ⟨?lanes, fun hd => execVsel_alone h hd he ht p b a, ?iota, ?clamp, execVext_alone h he ht p g a, ?compares⟩
  case lanes =>
    intro hd i f hmem
    suffices hlanes : s.lanesGiven (exec i s) t p d (fun k => (f k, 0)) from hlanes.silent
    simp only [List.mem_cons, Prod.mk.injEq, List.not_mem_nil, or_false] at hmem
    rcases hmem with ⟨rfl, rfl⟩ | ⟨rfl, rfl⟩ | ⟨rfl, rfl⟩ | ⟨rfl, rfl⟩ | ⟨rfl, rfl⟩ | ⟨rfl, rfl⟩ | ⟨rfl, rfl⟩ | ⟨rfl, rfl⟩
    · exact execVand_alone h hd he ht p b a
    · exact execVor_alone h hd he ht p b a
    · exact execVxor_alone h hd he ht p b a
    · exact execVperm_alone h hd he ht p b a
    · exact execVbcast_alone h hd he ht p g
    · exact execVins_alone h hd he ht p g a
    · exact execVzero_alone h hd he ht p
    · exact execVmov_alone h hd he ht p a
  case iota => exact fun hd => execViota_alone h hd he ht p g
  case clamp =>
    intro hd
    exact (execVclamp_alone h hd he ht p g a).split (fun k => congrArg (· % 2 ^ t.bits) (clampTo_fst ..))
      (fun k => clampTo_snd ..)
  case compares =>
    intro i ok okv quiet hmem v w holds fl
    simp only [List.mem_cons, Prod.mk.injEq, List.not_mem_nil, or_false] at hmem
    suffices hcmp : exec i s = vcmpOp i e p a b pd okv quiet s ∧ i.len = 4 ∧ ∀ m n, okv (intOrder m n) = ok m n by
      obtain ⟨hexec, hlen, hok⟩ := hcmp
      have hrun := vcmpOp_alone h he ht hlen p a b pd okv quiet
      simp only [laneCmp_fst hok, laneCmp_snd] at hrun
      rw [hexec]
      exact hrun
    rcases hmem with ⟨rfl, rfl, rfl, rfl⟩ | ⟨rfl, rfl, rfl, rfl⟩ | ⟨rfl, rfl, rfl, rfl⟩
    · exact ⟨rfl, rfl, fun m n => decide_eq_decide.mpr (intOrder_eq_zero m n)⟩
    · exact ⟨rfl, rfl, fun m n => decide_eq_decide.mpr (intOrder_neg m n)⟩
    · exact ⟨rfl, rfl, fun m n => decide_eq_decide.mpr (intOrder_nonpos m n)⟩

end Sys2Proof.Machine
end

section
/-!
The queue ports of 11_transfer.md R237 and R238 (03 R55 to R57). First issue in a context whose ports may be bound, then QBIND and
QUNBIND by the port that D names, QPOLL by the counts of a queue, the queue behind a bound port read and written, an ADD that names
one, and the obligation.
-/

namespace Sys2Proof.Machine

/-! ## Issue with ports that may be bound -/

/-- `State.alone` with nothing said of the ports: the context issues the word at its pc, with no instruction unfinished and no
matrix result pending. -/
abbrev State.unhindered (s : State) : Prop := s.source = .pc ∧ s.me.pend = [] ∧ s.me.mat = none

theorem State.alone.unhindered {s : State} (h : s.alone) : s.unhindered := ⟨h.1, h.2.1, h.2.2.2⟩

theorem State.unhindered.settle {s : State} (h : s.unhindered) : s.settle = s := by
  simp [State.settle, h.2.2]

theorem issue_ok {s t : State} (h : s.unhindered) {i : Instr} (hports : s.me.misuses i = false) {body : State → M State}
    (hbody : body s = .ok t) : issue i body s = .next (t.finish i.len) := by
  simp [issue, issueBy, h.settle, h.2.1, hports, hbody]

theorem issue_error {s : State} (h : s.unhindered) {i : Instr} (hports : s.me.misuses i = false) {body : State → M State} {e : Stop}
    (hbody : body s = .error e) : issue i body s = .next (s.stopped i e) := by
  simp [issue, issueBy, h.settle, h.2.1, hports, hbody]

/-- A body that changes its own context alone. -/
theorem issue_onMe {s : State} (h : s.unhindered) {i : Instr} (hports : s.me.misuses i = false) (hlen : i.len = 4)
    {body : State → M State} {f : Ctx → Ctx} (hpend : (f s.me).pend = []) (hbody : body s = .ok (s.setMe (f s.me))) :
    issue i body s = .next (s.onMe 4 f) := by
  rw [issue_ok h hports hbody, State.finish_pc (by simp [h.1]) (by simp [hpend]), hlen]
  simp [State.onMe]

/-- A body that ends in QUEUE_MISUSE traps with the instruction word as its TVAL. -/
theorem issue_queueMisuse {s : State} (h : s.unhindered) {i : Instr} (hports : s.me.misuses i = false) (hlen : i.len = 4)
    {body : State → M State} (hbody : body s = .error (.word .queueMisuse)) :
    issue i body s = .next (s.takeTrap 4 { cause := .queueMisuse, tval := BitVec.ofNat 64 i.word }) := by
  rw [issue_error h hports hbody, State.stopped, hlen]

/-- An instruction that names no register misuses no port. -/
theorem Ctx.misuses_of_no_regs {i : Instr} (hi : i.regs = {}) (x : Ctx) : x.misuses i = false := by
  cases hv : x.vport <;> simp [Ctx.misuses, hi, hv, Ctx.gbound]

/-! ## The port that D names, and the queues of its kind (03 R55, R57, 11 R237) -/

theorem portOf_general {d : Fin 32} {k : Fin 4} (hd : d.val = 28 + k.val) : portOf false d = some k.castSucc := by
  have hindex : Fin.ofNat 5 (d.val - 28) = k.castSucc := Fin.ext (by simp [hd])
  simp only [portOf, hd, Nat.le_add_right, if_true, Bool.false_eq_true, if_false, ← hindex]

theorem portOf_general_none {d : Fin 32} (hd : d.val < 28) : portOf false d = none := by
  simp [portOf, Nat.not_le.mpr hd]

theorem portOf_vector : portOf true 15 = some 4 := rfl

theorem portOf_vector_none {d : Fin 32} (hd : d.val ≠ 15) : portOf true d = none := by
  simp [portOf, hd]

theorem bindable_general (wr : Bool) (id : Fin 32) :
    bindable false wr id = true ↔ id.val < 8 ∨ (wr = false ∧ (id.val = 16 ∨ id.val = 17)) := by
  simp [bindable]

theorem bindable_vector (wr : Bool) (id : Fin 32) : bindable true wr id = true ↔ id.val = 8 ∨ id.val = 9 := by
  simp [bindable]

section
variable {s : State} (h : s.unhindered) {vq : Bool} {d : Fin 32}
include h

theorem execQunbind_port {i : Fin 5} (hport : portOf vq d = some i) :
    execQunbind vq d s = .next (s.onMe 4 (fun x => { x with ports := x.ports.set i none })) := by
  unfold execQunbind
  exact issue_onMe h (Ctx.misuses_of_no_regs rfl _) rfl h.2.1 (by rw [hport]; rfl)

theorem execQunbind_no_port (hport : portOf vq d = none) : execQunbind vq d s =
    .next (s.takeTrap 4 { cause := .queueMisuse, tval := BitVec.ofNat 64 (Instr.word (.qunbind vq d)) }) := by
  unfold execQunbind
  exact issue_queueMisuse h (Ctx.misuses_of_no_regs rfl _) rfl (by rw [hport])

theorem execQbind_no_port (hport : portOf vq d = none) (wr : Bool) (id : Fin 32) : execQbind vq wr id d s =
    .next (s.takeTrap 4 { cause := .queueMisuse, tval := BitVec.ofNat 64 (Instr.word (.qbind vq wr id d)) }) := by
  unfold execQbind
  exact issue_queueMisuse h (Ctx.misuses_of_no_regs rfl _) rfl (by rw [hport])

/-- A bound port, and a queue that may not be bound at this port in this direction, are refused. -/
theorem execQbind_refused {i : Fin 5} (hport : portOf vq d = some i) {wr : Bool} {id : Fin 32}
    (hno : s.me.ports[i] ≠ none ∨ bindable vq wr id = false) : execQbind vq wr id d s =
      .next (s.takeTrap 4 { cause := .queueMisuse, tval := BitVec.ofNat 64 (Instr.word (.qbind vq wr id d)) }) := by
  have hcheck : ((s.me.ports[i]).isNone && bindable vq wr id) = false := by
    rcases hno with hbound | hkind
    · rw [Option.isNone_eq_false_iff.mpr (Option.isSome_iff_ne_none.mpr hbound), Bool.false_and]
    · rw [hkind, Bool.and_false]
  unfold execQbind
  exact issue_queueMisuse h (Ctx.misuses_of_no_regs rfl _) rfl (by rw [hport]; simp only [hcheck]; rfl)

theorem execQbind_free {i : Fin 5} (hport : portOf vq d = some i) {wr : Bool} {id : Fin 32} (hfree : s.me.ports[i] = none)
    (hkind : bindable vq wr id = true) : execQbind vq wr id d s =
      .next (s.onMe 4 (fun x => { x with ports := x.ports.set i (some { q := id, wr := wr }) })) := by
  unfold execQbind
  exact issue_onMe h (Ctx.misuses_of_no_regs rfl _) rfl h.2.1 (by rw [hport]; simp only [hfree, hkind]; rfl)

end

/-! ## The counts of a queue (11 R238) -/

theorem State.queueCounts_scalar (s : State) (q : Fin 8) :
    s.queueCounts q.val = some (s.mine.squeue[q].length, 8 - s.mine.squeue[q].length) := by
  simp [State.queueCounts, q.isLt]

theorem State.queueCounts_vector (s : State) (q : Fin 2) :
    s.queueCounts (8 + q.val) = some (s.mine.vqueue[q].length, 2 - s.mine.vqueue[q].length) := by
  have hindex : Fin.ofNat 2 (8 + q.val) = q := Fin.ext (by simp; omega)
  have hlt : 8 + q.val < 10 := by omega
  simp only [State.queueCounts, hindex, hlt, Nat.not_lt.mpr (Nat.le_add_right 8 q.val), if_false, if_true]

theorem State.queueCounts_reserved (s : State) {id : Nat} (hlow : 10 ≤ id) (hcomp : id ≠ 16) (hpayload : id ≠ 17) :
    s.queueCounts id = none := by
  have h8 : ¬ id < 8 := by omega
  have h10 : ¬ id < 10 := by omega
  simp [State.queueCounts, h8, h10, hcomp, hpayload]

theorem execQpoll_counts {s : State} (h : s.alone) {id : Fin 32} {n f : Nat} (hcounts : s.queueCounts id.val = some (n, f))
    (d : Fin 32) : execQpoll id d s = .next (s.gives 4 d (BitVec.ofNat 64 (f % 2 ^ 16 * 2 ^ 16 + n % 2 ^ 16))) := by
  unfold execQpoll
  simp only [issue_alone h, hcounts, State.writeG_alone h.2.2.1, State.finish_setG h]
  rfl

theorem execQpoll_reserved {s : State} (h : s.alone) {id : Fin 32} (hcounts : s.queueCounts id.val = none) (d : Fin 32) :
    execQpoll id d s =
      .next (s.takeTrap 4 { cause := .queueMisuse, tval := BitVec.ofNat 64 (Instr.word (.qpoll id d)) }) := by
  unfold execQpoll
  exact issue_queueMisuse h.unhindered (Ctx.misuses_none h.2.2.1 _) rfl (by rw [hcounts])

/-! ## The queue behind a port (03 R55, R56) -/

theorem scalarQueue_index (q : Fin 8) : Fin.ofNat 8 q.val = q := Fin.ext (Nat.mod_eq_of_lt q.isLt)

/-- A core scalar queue of the issuing core replaced. -/
def State.setQueue (s : State) (q : Fin 8) (l : List Word) : State :=
  s.setMine { s.mine with squeue := s.mine.squeue.set q l }

@[simp] theorem State.setQueue_me (s : State) (q : Fin 8) (l : List Word) : (s.setQueue q l).me = s.me := by
  simp [State.setQueue, State.me, State.ctx, State.setMine, State.mine]

@[simp] theorem State.setQueue_source (s : State) (q : Fin 8) (l : List Word) : (s.setQueue q l).source = s.source := rfl
@[simp] theorem State.setQueue_mem (s : State) (q : Fin 8) (l : List Word) : (s.setQueue q l).mem = s.mem := rfl

@[simp] theorem State.setQueue_squeue (s : State) (q : Fin 8) (l : List Word) : (s.setQueue q l).mine.squeue[q.val] = l := by
  simp [State.setQueue]

@[simp] theorem State.setMe_squeue (s : State) (x : Ctx) : (s.setMe x).mine.squeue = s.mine.squeue := by
  simp [State.setMe, State.setCtx, State.mine]

section
variable {s : State} {q : Fin 8}

/-- The oldest word, for the first in line. -/
theorem State.popQ_cons {w : Word} {rest : List Word} (hq : s.mine.squeue[q] = w :: rest)
    (hfirst : s.first (.queueRead s.at_ q.val) = true) : s.popQ q.val = .ok (w, s.setQueue q rest) := by
  have h16 : q.val ≠ 16 := by omega
  have h17 : q.val ≠ 17 := by omega
  simp only [State.popQ, h16, h17, scalarQueue_index, hq, hfirst, if_false, if_true]
  rfl

theorem State.popQ_nil (hq : s.mine.squeue[q] = []) : s.popQ q.val = .error (.wait (.queueRead s.at_ q.val)) := by
  have h16 : q.val ≠ 16 := by omega
  have h17 : q.val ≠ 17 := by omega
  simp only [State.popQ, h16, h17, scalarQueue_index, hq, if_false]

theorem State.pushQ_room (hroom : s.mine.squeue[q].length < 8) (hfirst : s.first (.queueWrite s.at_ q.val) = true) (v : Word) :
    s.pushQ q.val v = .ok (s.setQueue q (s.mine.squeue[q] ++ [v])) := by
  simp only [State.pushQ, scalarQueue_index]
  exact if_pos ⟨hroom, hfirst⟩

theorem State.pushQ_full (hfull : s.mine.squeue[q].length = 8) (v : Word) :
    s.pushQ q.val v = .error (.wait (.queueWrite s.at_ q.val)) := by
  simp only [State.pushQ, scalarQueue_index]
  exact if_neg (fun hroom => by omega)

end

/-! ## Registers that are ports and registers that are not -/

theorem Ctx.gport_low (x : Ctx) {r : Fin 32} (hr : r.val < 28) : x.gport r = none := dif_neg (by omega)

theorem State.readG_unbound {s : State} (hsource : s.source = .pc) (f : Entry → Word) {r : Fin 32} (hr : s.me.gport r = none) :
    s.readG f r = .ok (s.me.reg r, s) := by
  unfold State.readG Ctx.reg
  split
  · rfl
  · simp [hr, hsource]

theorem State.readG_bound {s : State} (f : Entry → Word) {r : Fin 32} (hzero : r ≠ 0) {p : Port} (hr : s.me.gport r = some p) :
    s.readG f r = s.popQ p.q.val := by
  simp [State.readG, hzero, hr]

theorem State.writeG_unbound {s : State} {r : Fin 32} (hr : s.me.gport r = none) (v : Word) : s.writeG r v = .ok (s.setG r v) := by
  simp [State.writeG, hr]

theorem State.writeG_bound {s : State} {r : Fin 32} {p : Port} (hr : s.me.gport r = some p) (v : Word) :
    s.writeG r v = s.pushQ p.q.val v := by
  simp [State.writeG, hr]

theorem Instr.regs_add (w : Bool) (b a d : Fin 32) : (Instr.add w b a d).regs = { a := some a, b := some b, dst := some d } := rfl

section
variable {x : Ctx} {p : Port} (hx : x.ports = (Vector.replicate 5 none).set 0 (some p))
include hx

theorem Ctx.gport_port0 : x.gport 28 = some p := by simp [Ctx.gport, hx]

theorem Ctx.vport_port0 : x.vport = none := by simp [Ctx.vport, hx]

/-- With port 0 alone bound for reading, an ADD of g28 and an unbound register into an unbound one misuses nothing. -/
theorem Ctx.misuses_add_read (hp : p.wr = false) {b d : Fin 32} (hb : b.val < 28) (hd : d.val < 28) :
    x.misuses (.add false b 28 d) = false := by
  simp [Ctx.misuses, Instr.regs_add, Ctx.gbound, Ctx.gport_port0 hx, Ctx.vport_port0 hx, Ctx.gport_low x hb, Ctx.gport_low x hd, hp]

theorem Ctx.misuses_add_write (hp : p.wr = true) {a b : Fin 32} (ha : a.val < 28) (hb : b.val < 28) :
    x.misuses (.add false b a 28) = false := by
  simp [Ctx.misuses, Instr.regs_add, Ctx.gbound, Ctx.gport_port0 hx, Ctx.vport_port0 hx, Ctx.gport_low x ha, Ctx.gport_low x hb, hp]

/-- An ADD that names the bound port is of the waiting class (18 R329). -/
theorem Ctx.mayWait_add {a b d : Fin 32} (hnames : a = 28 ∨ d = 28) : x.mayWait (.add false b a d) = true := by
  have hnaming : x.naming (.add false b a d) = true := by
    rcases hnames with rfl | rfl <;> simp [Ctx.naming, Instr.regs_add, Ctx.gbound, Ctx.gport_port0 hx]
  rw [Ctx.mayWait, hnaming]
  rfl

end

/-! ## ADD with port 0 bound (03 R56) -/

theorem execAdd_eq (b a d : Fin 32) (s : State) : execAdd false b a d s = binOp (.add false b a d) a b d (· + ·) s := rfl

/-- An instruction of the waiting class that has to wait becomes the unfinished one. -/
theorem State.unhindered.stopped_wait {s : State} (h : s.unhindered) {i : Instr} (hclass : s.me.mayWait i = true) (w : Wait) :
    s.stopped i (.wait w) = s.pendOn i w := if_pos ⟨h.1, h.2.1, hclass⟩

section
variable {s : State} (h : s.unhindered) {i : Instr} (hports : s.me.misuses i = false) {a b d : Fin 32}
  {f : Word → Word → Word} {x y : Word} {sa sb t : State} {e : Stop}
include h hports

/-- Each operand is read in the state that the one before it leaves, and the destination is written last. -/
theorem binOp_ok (hx : s.srcA a = .ok (x, sa)) (hy : sa.srcB b = .ok (y, sb)) (hput : sb.writeG d (f x y) = .ok t) :
    binOp i a b d f s = .next (t.finish i.len) := by
  unfold binOp
  exact issue_ok h hports (by simp only [hx, hy, bind, Except.bind, hput])

theorem binOp_error_srcA (hx : s.srcA a = .error e) : binOp i a b d f s = .next (s.stopped i e) := by
  unfold binOp
  exact issue_error h hports (by simp only [hx, bind, Except.bind])

theorem binOp_error_writeG (hx : s.srcA a = .ok (x, sa)) (hy : sa.srcB b = .ok (y, sb)) (hput : sb.writeG d (f x y) = .error e) :
    binOp i a b d f s = .next (s.stopped i e) := by
  unfold binOp
  exact issue_error h hports (by simp only [hx, hy, bind, Except.bind, hput])

end

section
variable {s : State} (h : s.unhindered) {p : Port} (hports : s.me.ports = (Vector.replicate 5 none).set 0 (some p))
  {q : Fin 8} (hq : p.q.val = q.val) {b : Fin 32} (hb : b.val < 28)
include h hports hq hb

theorem execAdd_pops {d : Fin 32} (hd : d.val < 28) (hwr : p.wr = false) {w : Word} {rest : List Word}
    (hqueue : s.mine.squeue[q] = w :: rest) (hfirst : s.first (.queueRead s.at_ q.val) = true) : execAdd false b 28 d s =
      .next ((s.setQueue q rest).setMe ((s.me.put d (w + s.me.reg b)).after 4)) := by
  have hgot : s.srcA 28 = .ok (w, s.setQueue q rest) := by
    rw [State.srcA, State.readG_bound _ (by decide) (Ctx.gport_port0 hports), hq, State.popQ_cons hqueue hfirst]
  have hother : (s.setQueue q rest).srcB b = .ok (s.me.reg b, s.setQueue q rest) := by
    rw [State.srcB, State.readG_unbound (s := s.setQueue q rest) h.1 _ (Ctx.gport_low _ hb), State.setQueue_me]
  have hput : (s.setQueue q rest).writeG d (w + s.me.reg b) = .ok ((s.setQueue q rest).setG d (w + s.me.reg b)) :=
    State.writeG_unbound (Ctx.gport_low _ hd) _
  rw [execAdd_eq, binOp_ok h (Ctx.misuses_add_read hports hwr hb hd) hgot hother hput,
    State.finish_pc (by simp [h.1]) (by simp [h.2.1]), State.me_setG, State.setMe_setG, State.setQueue_me]
  rfl

theorem execAdd_waits_read {d : Fin 32} (hd : d.val < 28) (hwr : p.wr = false) (hqueue : s.mine.squeue[q] = []) :
    execAdd false b 28 d s = .next (s.pendOn (.add false b 28 d) (.queueRead s.at_ q.val)) := by
  have hnone : s.srcA 28 = .error (.wait (.queueRead s.at_ q.val)) := by
    rw [State.srcA, State.readG_bound _ (by decide) (Ctx.gport_port0 hports), hq, State.popQ_nil hqueue]
  rw [execAdd_eq, binOp_error_srcA h (Ctx.misuses_add_read hports hwr hb hd) hnone, h.stopped_wait (Ctx.mayWait_add hports (.inl rfl))]

theorem execAdd_pushes {a : Fin 32} (ha : a.val < 28) (hwr : p.wr = true) (hroom : s.mine.squeue[q].length < 8)
    (hfirst : s.first (.queueWrite s.at_ q.val) = true) : execAdd false b a 28 s =
      .next ((s.setQueue q (s.mine.squeue[q] ++ [s.me.reg a + s.me.reg b])).setMe (s.me.after 4)) := by
  have hput : s.writeG 28 (s.me.reg a + s.me.reg b) = .ok (s.setQueue q (s.mine.squeue[q] ++ [s.me.reg a + s.me.reg b])) := by
    rw [State.writeG_bound (Ctx.gport_port0 hports), hq, State.pushQ_room hroom hfirst]
  rw [execAdd_eq, binOp_ok h (Ctx.misuses_add_write hports hwr ha hb) (State.readG_unbound h.1 _ (Ctx.gport_low _ ha))
    (State.readG_unbound h.1 _ (Ctx.gport_low _ hb)) hput, State.finish_pc (by simp [h.1]) (by simp [h.2.1]), State.setQueue_me]
  rfl

theorem execAdd_waits_write {a : Fin 32} (ha : a.val < 28) (hwr : p.wr = true) (hfull : s.mine.squeue[q].length = 8) :
    execAdd false b a 28 s = .next (s.pendOn (.add false b a 28) (.queueWrite s.at_ q.val)) := by
  have hput : s.writeG 28 (s.me.reg a + s.me.reg b) = .error (.wait (.queueWrite s.at_ q.val)) := by
    rw [State.writeG_bound (Ctx.gport_port0 hports), hq, State.pushQ_full hfull]
  rw [execAdd_eq, binOp_error_writeG h (Ctx.misuses_add_write hports hwr ha hb) (State.readG_unbound h.1 _ (Ctx.gport_low _ ha))
    (State.readG_unbound h.1 _ (Ctx.gport_low _ hb)) hput, h.stopped_wait (Ctx.mayWait_add hports (.inr rfl))]

end

/-! ## The obligation -/

/-- Settles O23: the bindings by the port that D names (`portOf`), QPOLL by the queue's counts, and ADD by the queue behind port 0. -/
theorem queuePorts : Obligations.QueuePorts := by
  unfold Obligations.QueuePorts
  refine ⟨⟨fun s d hsource hpend hmat => ?unbindAndMisuse, fun s d id wr h => ?bindAndPoll⟩,
    fun s b d q hsource hpend hmat hb hd => ?add⟩
  case unbindAndMisuse =>
    have h : s.unhindered := ⟨hsource, hpend, hmat⟩
    refine ⟨fun k hk => execQunbind_port h (portOf_general hk), execQunbind_port h portOf_vector,
      fun wr id => ⟨?bound, ?vbound, ?kind,
      fun hk => ⟨execQbind_no_port h (portOf_vector_none hk) wr id, execQunbind_no_port h (portOf_vector_none hk)⟩,
      fun hk => ⟨execQbind_no_port h (portOf_general_none hk) wr id, execQunbind_no_port h (portOf_general_none hk)⟩⟩⟩
    case bound => exact fun k hk hbound => execQbind_refused h (portOf_general hk) (.inl hbound)
    case vbound => exact fun hbound => execQbind_refused h portOf_vector (.inl hbound)
    case kind =>
      intro h8 h9
      have hkind : bindable true wr id = false := Bool.eq_false_iff.mpr (fun e => by have := (bindable_vector wr id).mp e; omega)
      exact execQbind_refused h portOf_vector (.inr hkind)
  case bindAndPoll =>
    have hfree (i : Fin 5) : s.me.ports[i] = none := by simp [h.2.2.1]
    refine ⟨fun k hk hid => ?bind, fun hid => ?vbind, fun hk hid => ?kind, fun q => ?scalar, fun q => ?vector, ?completions,
      ?payload, fun hlow hcomp hpayload => ?reserved⟩
    case bind => exact execQbind_free h.unhindered (portOf_general hk) (hfree _) ((bindable_general wr id).mpr hid)
    case vbind => exact execQbind_free h.unhindered portOf_vector (hfree _) ((bindable_vector wr id).mpr hid)
    case kind =>
      have hport : portOf false d = some (⟨d.val - 28, by omega⟩ : Fin 4).castSucc := portOf_general (by simp; omega)
      exact execQbind_refused h.unhindered hport (.inr (Bool.eq_false_iff.mpr (mt (bindable_general wr id).mp hid)))
    case scalar => exact execQpoll_counts h (s.queueCounts_scalar q) d
    case vector => exact execQpoll_counts h (s.queueCounts_vector q) d
    case completions => exact execQpoll_counts h rfl d
    case payload =>
      have hrun := execQpoll_counts h (id := 17) (f := 0) rfl d
      rwa [Nat.zero_mod, Nat.zero_mul, Nat.zero_add] at hrun
    case reserved => exact execQpoll_reserved h (s.queueCounts_reserved hlow hcomp hpayload) d
  case add =>
    have h : s.unhindered := ⟨hsource, hpend, hmat⟩
    refine ⟨fun hports => ⟨fun w rest hqueue hfirst => ?pops, fun hqueue => ?empty⟩,
      fun hports => ⟨fun hroom hfirst => ?pushes, fun hfull => ?full⟩⟩
    case pops => exact ⟨_, execAdd_pops h hports rfl hb hd rfl hqueue hfirst, by simp, by simp, by simp⟩
    case empty => exact execAdd_waits_read h hports rfl hb hd rfl hqueue
    case pushes => exact ⟨_, execAdd_pushes h hports rfl hb hd rfl hroom hfirst, by simp, by simp, by simp⟩
    case full => exact execAdd_waits_write h hports rfl hb hd rfl hfull

end Sys2Proof.Machine
end
